-- ==== Sys2Proof/Word.lean ====
section
/-! DEFINITION. The words of the FY16 block and the numbers of its instances. Conventions: 00_scope.md R3, R4. -/
namespace Sys2Proof

/-- A 64-bit register value, and the 64 data bits of a stone. -/
abbrev Word := BitVec 64

/-- One byte on a lane, in a packet or in a reply. -/
abbrev Byte := BitVec 8

/-- Host ports H0 to H7 (R70). -/
abbrev PortId := Fin 8

/-- Banks B00 to B63; 64 stands for the mark array, as TOKEN_STAT.RSVBANK numbers it (Table 10.7). -/
abbrev BankId := Fin 65

/-- Galleries G0 to G3 (R265). -/
abbrev GalId := Fin 4

/-- Subscribers S00 to S31. -/
abbrev SubId := Fin 32

/-- Gates GT00 to GT65 (R411). -/
abbrev GateId := Fin 66

/-- Annex ports A0 and A1. -/
abbrev AnnexId := Fin 2

/-- Partners 0 to 3 of an annex. -/
abbrev PartnerId := Fin 4

/-- Services FETCH 0, LAY 1, CLEAR 2, UPKEEP 3. -/
abbrev SvcId := Fin 4

end Sys2Proof
end

