-- ==== Sys2Proof/Syntax.lean ====
section
/-! DEFINITION. The commands of the FY16 block: one constructor for each row of spec/opcode_table.json, and the records
that are their operands. -/
namespace Sys2Proof

/-- A drift sample of one transfer of the command or address phase whose centre sample differs from the lane's previous
transfer: whether the early and the late sample differ from the centre (R144). -/
structure DriftSample where
  lane  : Fin 8
  early : Bool
  late  : Bool
  deriving DecidableEq, Repr

/-- What every host transaction brings besides its own fields. The command stands at its decision: for a transaction with
a wait phase that is the second pace edge after the host's last bit (R92, R122, R201, R222).
Log entry 1 (DESIGN CHOICE). -/
structure Tx where
  /-- the port whose CS# is low -/
  port   : PortId
  /-- 4D and 8D: the byte after the opcode is its complement (R82); ignored in the other modes -/
  compl  : Bool
  /-- SCK cycles of this port's wait phase that have passed at the decision; a port that paces the FY16 has clocked two
  (R85, R94) -/
  waited : Nat
  /-- the samples of the command and address phases for drift tracking (R144) -/
  drift  : List DriftSample
  deriving DecidableEq, Repr

/-- A transaction whose command phase was complete and whose CS# rises before its command is decided: in its address
phase, in the middle of a packet, or before the 0x0F of a SOFT RESET (Table 03.6). `drift` holds its comparisons if a pace
edge has come since its last command or address bit, and is empty otherwise (R145). -/
structure Cut where
  port  : PortId
  op    : Byte
  compl : Bool
  drift : List DriftSample
  deriving DecidableEq, Repr

/-- A rise of CS#: the ports whose CS# fell less than 5 ns before the holder's rose (R32), and the transactions whose command
the rise cuts off. -/
structure Rise where
  late : BitVec 8
  cuts : List Cut
  deriving DecidableEq, Repr

/-- Cells that a read finds other than stored: the index of the stone in the transfer and the mask of its 75 cells.
Log entry 7 (DESIGN CHOICE). -/
abbrev Flips := List (Nat × BitVec 75)

/-- A ledger packet as received (Table 05.6). Byte 0 is the opcode of the command that brings the packet, unless `alien`
holds a code that Table 05.7 does not list. -/
structure Packet where
  alien  : Option Byte
  flags  : Byte
  sub    : Byte
  seq    : Byte
  addr   : BitVec 32
  count  : BitVec 16
  after  : Byte
  wait   : Byte
  signal : Byte
  zero   : Byte
  crc    : BitVec 16
  deriving DecidableEq, Repr

/-- An inbound chain segment as received (Table 04.5). -/
structure ChainSeg where
  magic  : Byte
  target : Byte
  action : Byte
  regnum : BitVec 16
  value  : Word
  pad    : Byte
  crc    : BitVec 16
  deriving DecidableEq, Repr

/-- What the sensors and input pins show on a pace edge: VCC in mV and the die temperature in °C as the sensors read
them (R548, R549), each pump's comparator REGLOW (bits 3:0 lay pumps, 7:4 clear pumps; R537), the selects that
read low while the FY16 does not drive them (bits 3:0 annex A0, 7:4 annex A1; R512), what AnSCK, AnRDS and AnDQ read
while it does not drive them (A0 in the lower bits; Table 13.7), and HnDQ0 of the port whose SCK rises (R161).
Log entry 7 (DESIGN CHOICE). -/
structure EdgeIn where
  mv     : Nat
  temp   : Int
  reglow : BitVec 8
  selLow : BitVec 8
  anxSck : BitVec 2
  anxRds : BitVec 2
  anxDq  : BitVec 8
  dq0    : Bool
  deriving DecidableEq, Repr

/-- What boot senses in step 1: the straps and the VCCQ band of each supply group (R154, R121).
Log entry 7 (DESIGN CHOICE). -/
structure BootIn where
  chipid : BitVec 3
  bands  : Vector (BitVec 2) 4
  mv     : Nat
  temp   : Int
  deriving DecidableEq, Repr

/-- Names an operation by its ledger slot, or by the port of a direct operation (R181, R211). -/
inductive OpRef where
  | slot (k : Fin 256)
  | direct (p : PortId)
  deriving DecidableEq, Repr

/-- The commands of the block. A LEDGER_LAY or HAUL without payload is a packet whose payload is still to come; the command
again in the same transaction, with the payload and its CRC, is its end (R199, R200). `bank` and `stone` of a RAW FETCH are
the BANK field of its PADDR and the bits below it (Table 07.5). `pad` is the byte that pads a host phase in 8D, and that the
FY16 ignores (R167). `samples` of a SWEEP holds what each lane's sampler read in the pattern phase, the first transfer in its
most significant bit (R133, R134). `rx` is the bytes that a partner drives, in order; a byte that is not there reads 0xFF
(the pull-ups of R472); what it drives in the probe that a direct FETCH may begin with comes as `probe`. `n` of a
FETCH_COMPLETE is how many stones of a window have come whole.
Log entry 1 (DESIGN CHOICE); log entry 7 (DESIGN CHOICE). -/
inductive Instr where
  | powerOnReset (tripped : Bool)
  | resetPin (ns : Nat)
  | brownOutTrip
  | brownOutRelease
  | stallGuardTrip
  | wpHigh
  | csFall (falls : BitVec 8) (sck : BitVec 8)
  | csRise (rises : BitVec 8) (rise : Rise)
  | paceEdge (p : PortId) (inp : EdgeIn)
  | pulseEnd (b : BankId) (layOk : BitVec 64) (clearOk : Bool)
  | pumpReady (g : GalId) (clearPump : Bool)
  | fetch (tx : Tx) (addr : BitVec 32) (flips : Flips) (probe : List Byte) (rx : List Byte)
  | heldFetchServed (p : PortId) (flips : Flips) (rx : List Byte)
  | holdExpired (p : PortId)
  | rawFetch (tx : Tx) (bank : BitVec 6) (stone : BitVec 26) (flips : Flips)
  | arm (tx : Tx)
  | lay (tx : Tx) (addr : BitVec 32) (count : Byte) (payload : List Word) (crc : BitVec 16)
  | clearBlock (tx : Tx) (addr : BitVec 32) (crc : BitVec 16)
  | clearFooting (tx : Tx) (addr : BitVec 32) (crc : BitVec 16)
  | suspend (tx : Tx) (addr : BitVec 32)
  | resume (tx : Tx) (addr : BitVec 32)
  | regrd (tx : Tx) (regnum : BitVec 16)
  | regwr (tx : Tx) (count : Byte) (entries : List (BitVec 16 × Word))
  | pace (tx : Tx)
  | status (tx : Tx)
  | ident (tx : Tx)
  | sfdp (tx : Tx) (addr : BitVec 24) (pad : Byte)
  | collect (tx : Tx) (mode : BitVec 7) (pad : Byte)
  | peek (tx : Tx) (mode : BitVec 7) (pad : Byte)
  | softReset (tx : Tx) (second : Byte)
  | unknownOpcode (tx : Tx) (op : Byte)
  | propose (tx : Tx) (offer : BitVec 16) (band : BitVec 2) (crc : BitVec 16)
  | sweep (tx : Tx) (samples : Vector (BitVec 8192) 8)
  | confirm (tx : Tx) (code : Byte) (ncode : Byte) (crc : BitVec 16)
  | revert (tx : Tx) (sub : Byte) (crc : BitVec 16)
  | chainNop (p : PortId) (edges : Nat) (seg : ChainSeg)
  | chainRegwr (p : PortId) (edges : Nat) (seg : ChainSeg)
  | chainExit (p : PortId) (edges : Nat) (seg : ChainSeg)
  | ledgerFetch (tx : Tx) (pkt : Packet)
  | ledgerLay (tx : Tx) (pkt : Packet) (payload : Option (List Word)) (pcrc : BitVec 16)
  | ledgerClear (tx : Tx) (pkt : Packet)
  | ledgerClearFoot (tx : Tx) (pkt : Packet)
  | haul (tx : Tx) (pkt : Packet) (payload : Option (List Word)) (pcrc : BitVec 16)
  | kiln (tx : Tx) (pkt : Packet)
  | repoint (tx : Tx) (pkt : Packet)
  | signal (tx : Tx) (pkt : Packet)
  | signalComplete (k : Fin 256)
  | fence (tx : Tx) (pkt : Packet)
  | fenceComplete (k : Fin 256)
  | cancel (tx : Tx) (pkt : Packet)
  | ledgerSuspend (tx : Tx) (pkt : Packet)
  | ledgerResume (tx : Tx) (pkt : Packet)
  | levelRaise (tx : Tx) (pkt : Packet)
  | regress (tx : Tx) (pkt : Packet)
  | regressBegin
  | regressionClear (g : GalId)
  | journalWriteDone
  | plinthCopyDone
  | dispatch (g : GalId) (flips : Flips) (rx : List Byte)
  | floor (g : GalId) (flips : Flips) (rx : List Byte)
  | reservation
  | blockUnsettled (r : OpRef)
  | layEnd (b : BankId)
  | relocation (b : BankId)
  | clearUnitEnd (b : BankId)
  | firingStageEnd (b : BankId)
  | repointReadEnd (k : Fin 256) (b : BankId)
  | fetchComplete (k : Fin 256) (n : Nat) (rx : List Byte)
  | suspendedEntry (b : BankId)
  | deferredGrant (b : BankId)
  | autoResume (b : BankId)
  | standstill
  | lapse (k : Fin 256)
  | sample
  | kilnDuty
  | slideDuty
  | scrubDuty
  | tidyKiln
  | poll (a : AnnexId) (p : PartnerId) (sr : Byte) (rx : List Byte)
  | partnerTimeout (a : AnnexId) (p : PartnerId)
  | rdsEdgeMissing (a : AnnexId) (p : PartnerId) (rx : List Byte)
  | modf (a : AnnexId) (p : PartnerId)
  | boot (inp : BootIn)
  | journalRepair
  | bootEnd
  | declarePeriod (tx : Tx) (n : PortId) (v : Word)
  | pacePolicy (tx : Tx) (v : Word)
  | waits (tx : Tx) (n : PortId) (v : Word)
  | len (tx : Tx) (n : PortId) (v : Word)
  | chainModeEnable (tx : Tx) (n : PortId) (v : Word)
  | booten (tx : Tx) (n : PortId) (v : Word)
  | subscriberMask (tx : Tx) (n : PortId) (v : Word)
  | quota (tx : Tx) (i : SubId) (v : Word)
  | forget (tx : Tx) (v : Word)
  | eventSet (tx : Tx) (v : Word)
  | eventClr (tx : Tx) (v : Word)
  | ledgerSel (tx : Tx) (v : Word)
  | empty (tx : Tx) (v : Word)
  | mapmode (tx : Tx) (v : Word)
  | plumbWrite (tx : Tx) (b : Fin 64) (v : Word)
  | tampWrite (tx : Tx) (g : GalId) (v : Word)
  | kilnAt (tx : Tx) (v : Word)
  | fixmax (tx : Tx) (v : Word)
  | meterBurstWrite (tx : Tx) (i : SubId) (peak : Bool) (v : Word)
  | fill (tx : Tx) (i : SubId) (v : Word)
  | clearmax (tx : Tx) (v : Word)
  | tokenwait (tx : Tx) (v : Word)
  | pumpWrite (tx : Tx) (g : GalId) (clearPump : Bool) (v : Word)
  | peakclr (tx : Tx) (v : Word)
  | minclr (tx : Tx) (v : Word)
  | gateEnable (tx : Tx) (g : GateId) (v : Word)
  | gateDisable (tx : Tx) (g : GateId) (v : Word)
  | save (tx : Tx) (g : GateId) (v : Word)
  | privWrite (tx : Tx) (v : Word)
  | lock (tx : Tx) (v : Word)
  | hide (tx : Tx) (v : Word)
  | div (tx : Tx) (a : AnnexId) (v : Word)
  | partnerEnable (tx : Tx) (a : AnnexId) (p : PartnerId) (v : Word)
  | gpioWrite (tx : Tx) (a : AnnexId) (v : Word)
  | manualOn (tx : Tx) (a : AnnexId) (v : Word)
  | manualon (a : AnnexId)
  | manualOff (tx : Tx) (a : AnnexId) (v : Word)
  | annexEnable (tx : Tx) (a : AnnexId) (v : Word)
  | annexDisable (tx : Tx) (a : AnnexId) (v : Word)
  | reclaim (tx : Tx) (a : AnnexId) (v : Word)
  | fencedClear (tx : Tx) (a : AnnexId) (p : PartnerId) (v : Word)
  | wpLow
  | supplyGroupLoss (grp : Fin 5)
  | supplyGroupReturn (grp : Fin 5)
  deriving DecidableEq, Repr

end Sys2Proof
end

