-- ==== Sys2Proof/Machine/Sparse.lean ====
section
/-! DEFINITION. Sparse tables: lists of key and value pairs with keys strictly rising and no entry equal to the default.
The array's cells, the course maps, the slot states and the wear counts are held so. -/
namespace Sys2Proof.Machine

/-- The value at key `k`, the default `d k` where the list has no entry. -/
def Sparse.get {α : Type} (d : Nat → α) : List (Nat × α) → Nat → α
  | [], k => d k
  | (j, v) :: r, k => if k = j then v else Sparse.get d r k

/-- Put an entry at its place among rising keys. -/
def Sparse.insert {α : Type} (k : Nat) (v : α) : List (Nat × α) → List (Nat × α)
  | [] => [(k, v)]
  | (j, w) :: r => if k < j then (k, v) :: (j, w) :: r else (j, w) :: Sparse.insert k v r

/-- Write `v` at `k`. Writing the default removes the entry, so equal tables are equal lists. -/
def Sparse.put {α : Type} [DecidableEq α] (d : Nat → α) (l : List (Nat × α)) (k : Nat) (v : α) : List (Nat × α) :=
  let l' := l.filter (fun e => e.1 ≠ k)
  if v = d k then l' else Sparse.insert k v l'

/-- Return every key from `lo` up to, not including, `hi` to its default. -/
def Sparse.wipe {α : Type} (l : List (Nat × α)) (lo hi : Nat) : List (Nat × α) :=
  l.filter (fun e => !(decide (lo ≤ e.1) && decide (e.1 < hi)))

/-- Keys strictly rising. -/
def Sparse.rising {α : Type} : List (Nat × α) → Bool
  | [] => true
  | [_] => true
  | (j, _) :: (k, v) :: r => decide (j < k) && Sparse.rising ((k, v) :: r)

/-- The canonical form. -/
def Sparse.wf {α : Type} [DecidableEq α] (d : Nat → α) (l : List (Nat × α)) : Bool :=
  Sparse.rising l && l.all (fun e => decide (e.2 ≠ d e.1))

/-- What an unlisted cell of the array reads as: a cleared cell (R269: 0xFF in data and ECC, 0b111 in the mark).
Log entry 10 (DESIGN CHOICE). -/
def Memory.blank (a : Nat) : BitVec 8 := if a % 10 = 9 then 0x07 else 0xFF

/-- One cell of the array.
Log entry 10 (DESIGN CHOICE). -/
def Memory.read (m : List Host.Cell) (a : Nat) : BitVec 8 := Sparse.get Memory.blank m a

/-- Log entry 10 (DESIGN CHOICE). -/
def Memory.write (m : List Host.Cell) (a : Nat) (v : BitVec 8) : List Host.Cell := Sparse.put Memory.blank m a v

/-- The canonical form of the array's cells. -/
def Memory.wf (m : List Host.Cell) : Bool := Sparse.wf Memory.blank m

end Sys2Proof.Machine
end

