-- ==== Sys2Proof/Config.lean ====
section
/-! DEFINITION. The free values: what the spec leaves open and the FY16 nevertheless fixes in each run. None has a
body, so no proof can learn a value. Each is applied to State.freeCtr, a counter that a use advances. -/
namespace Sys2Proof

/-- Which of several equally permitted FREE ledger slots or yard slots is taken (R213 "take any FREE slot", R256).
Log entry 9 (DESIGN CHOICE). -/
opaque Config.freePick : Nat → Nat

/-- An outcome of which both are valid (R32, R553). -/
opaque Config.freeBool : Nat → Bool

/-- The 75 cells of a stone that a cut or failed pulse train leaves open: 64 data bits, 8 ECC bits, 3 mark bits
(R629, R630). -/
opaque Config.freeCells : Nat → BitVec 75

/-- The words that a journal copy cut short holds (12_levels_marks_lifecycle.md, Table 12.6). -/
opaque Config.freeWord : Nat → BitVec 64

/-- Width in ps of a firing pulse, which the spec does not give (R360). -/
opaque Config.freeWidth : Nat → Nat

end Sys2Proof
end

