-- ==== Sys2Proof/Machine/State.lean ====
section
/-! DEFINITION. The state of the FY16 block as plain data, the reasons a step can stop, and the state after reset.
INVENTORY.md lists every field with the rule that names it. -/
namespace Sys2Proof.Machine

/-- Reasons a step stops with a fault. -/
inductive Fault where
  /-- Raised by PACE_EDGE and BOOT when VCC is sensed above 3,630 mV, which is 3,600 mV and the accuracy of the sensor
  (R524, R548): behaviour outside the operating conditions is not specified (00_scope.md). Safe: the model stops where the
  hardware may do anything. -/
  | outsideOperatingConditions
  deriving DecidableEq, Repr

/-- Reasons a step gives a command no meaning. -/
inductive Refusal where
  /-- Raised by an arm of `exec` whose command has no meaning yet. Safe: nothing can be proved of it. -/
  | notModelled (mnemonic : String)
  deriving DecidableEq, Repr

/-! ### Host ports (02 to 05) -/

/-- What a CS# rise still has to do for the transaction it ends. -/
inductive RiseAct where
  /-- ARM sets ARMED (R178) -/
  | arm
  /-- a PROPOSE puts the port on trial (R128) -/
  | trialEnter (code : BitVec 4)
  /-- the trial ends without CONFIRM (R130, R136) -/
  | trialEnd (result : BitVec 4)
  /-- CONFIRM puts the trial mode in force (R138) -/
  | confirm (code : BitVec 4)
  /-- REVERT (R140) -/
  | revert
  /-- SOFT RESET (R552) -/
  | softReset
  /-- a register value that its chapter puts into force at the rise (R580) -/
  | regAct (r : BitVec 12) (v : Word)
  deriving DecidableEq, Repr

/-- What a reply carries after the bytes that it holds so far. -/
inductive Feed where
  /-- 1s until CS# rises (R99, Table 05.1) -/
  | ones
  /-- the next stone of the port's fetch (R172, R176) -/
  | stones
  /-- a strobed fetch that has stopped: no more HnRDS edges (R108, R173) -/
  | still
  /-- each lane's Ehrif sequence over and over, from its transfer `t` on (R137) -/
  | ehrif (t : Nat)
  /-- the status block (R189) -/
  | status
  /-- SFDP bytes from the given address on (R191) -/
  | sfdp (addr : Nat)
  /-- record blocks: PEEK, the records driven whole in this reply, and the one being driven (R204 to R207) -/
  | records (peek : Bool) (done : List Nat) (now : Option Nat)
  /-- progress records (R62) -/
  | progress
  deriving DecidableEq, Repr

/-- The reply of a port's transaction: whether the port drives nothing, the status byte, the data bytes decided so far and
what follows them, and how many reply bits have been driven, the status byte's among them. The status byte is fixed when
its first bit is driven (R97); before that it stands as the decision left it. -/
structure Reply where
  silent : Bool
  status : Byte
  data   : List Byte
  feed   : Feed
  bits   : Nat
  /-- the records that it drives or has driven (R253) -/
  shown  : List Nat
  deriving DecidableEq, Repr

/-- A direct fetch under way on a port (R172, R176, R293). -/
structure FetchRun where
  raw    : Bool
  /-- where it began: an address, or a PADDR for a RAW FETCH -/
  first  : BitVec 32
  /-- the next stone to be driven -/
  addr   : BitVec 32
  /-- stones decided so far -/
  index  : Nat
  /-- the next stone has passed its gate -/
  passed : Bool
  /-- DEVTIME at which the next stone is ready (Table 07.6) -/
  ready  : BitVec 64
  /-- DEVTIME when the first stone of the current row was driven -/
  rowAt  : BitVec 64
  flips  : Flips
  rx     : List Byte
  deriving DecidableEq, Repr

/-- The port's fetch is held (R104, R105). -/
structure Hold where
  /-- the hold began after the status byte (R108) -/
  afterStatus : Bool
  /-- tick boundaries crossed since the hold began -/
  ticks       : Nat
  /-- HOLD_LIMIT in force when the hold began -/
  limit       : BitVec 20
  deriving DecidableEq, Repr

/-- An entry of a subscriber's deduplication memory: the sequence of a committed packet, the operation's name, and its
result once it has completed (Deduplication, 06). -/
structure Dedup where
  seq    : Byte
  op     : Nat
  result : Option Byte
  deriving DecidableEq, Repr

/-- What framing and admission made of a packet whose payload is still to come. -/
inductive UploadState where
  /-- every check passed: the operation, in ADMITTING, and the operations of its sequence that its subscriber's memory held
  at check 2 -/
  | admitted (id : Nat) (known : List Nat)
  /-- admission ended it with a code, the slot it had held, and whether it was for want of a yard slot -/
  | refused (code : Byte) (slot : Option (Fin 256)) (full : Bool)
  /-- a repeat (R229) -/
  | again (d : Dedup)
  /-- a field rule is broken (R198) -/
  | badAlign
  deriving DecidableEq, Repr

/-- A LEDGER_LAY or HAUL packet whose payload is under way on a port (R199). -/
structure Upload where
  op    : Byte
  pkt   : Packet
  state : UploadState
  deriving DecidableEq, Repr

/-- One host port: its pins, its registers 0x100 + 0x20·n to 0x113 + 0x20·n, and its open transaction. -/
structure Port where
  csLow        : Bool
  /-- after a device-wide reset: CS# was low, and does not count until it has risen (R556) -/
  waitRise     : Bool
  /-- HnCHAIN.EN was 1 when CS# fell: the transaction is a chain frame (R158) -/
  chainFrame   : Bool
  /-- opcode of the transaction decoded since CS# fell, if any -/
  txOp         : Option Byte
  atRise       : List RiseAct
  reply        : Reply
  /-- rising SCK edges since the host's last bit: cycles of the wait phase, then of the reply (R85) -/
  cycle        : Nat
  /-- the reply transfers of the SCK cycle under way, first and second; none where it has none (R101, R104) -/
  cell         : Option (Byte × Byte)
  /-- the last reply transfer driven; 1s before the first (R86, R104) -/
  level        : Byte
  fetch        : Option FetchRun
  hold         : Option Hold
  upload       : Option Upload
  /-- the chain shifter and the rising SCK edges of the chain frame (R160 to R162) -/
  shifter      : BitVec 128
  frameEdges   : Nat
  /-- the bank that this transaction's fetch reads, or met busy, last: its fetch ends at the rise (R323, R325) -/
  fetchBank    : Option BankId
  /-- that fetch streams from the bank: it has neither stopped nor been held nor met the bank busy -/
  reading      : Bool
  /-- the stall guard closed an open gate since this port's last progress record (Table 02.4) -/
  guarded      : Bool
  /-- mA of port tokens held, and whether the last pace edge saw the CS# low (Table 10.4) -/
  tokens       : Nat
  seenLow      : Bool
  -- HnMODE
  mode         : BitVec 4
  plain        : Bool
  pol3         : Bool
  -- HnTIMING and HnLEN: as written, as put up for the next transaction, and in force (R114)
  waits        : BitVec 5
  waitsSet     : BitVec 5
  waitsNow     : BitVec 5
  holdLimit    : BitVec 20
  holdLimitSet : BitVec 20
  holdLimitNow : BitVec 20
  len          : BitVec 14
  lenSet       : BitVec 14
  lenNow       : BitVec 14
  -- HnPERIOD: as written, and in force for pace edges (R43)
  period       : BitVec 32
  declared     : Bool
  periodNow    : BitVec 32
  declaredNow  : Bool
  -- HnPORT_STAT
  holds        : BitVec 16
  crcerrs      : BitVec 16
  modeConflict : Bool
  badset       : Bool
  badop        : Bool
  holdExpired  : Bool
  underrun     : Bool
  -- HnCMD
  stones       : BitVec 16
  result       : Byte
  lastop       : Byte
  units        : BitVec 16
  armed        : Bool
  notarmed     : Bool
  stopped      : Bool
  eccfail      : Bool
  eccfix       : Bool
  pktbad       : Bool
  -- HnSUBS
  mask         : BitVec 32
  subx         : Bool
  dflt         : BitVec 5
  -- HnTRAIN, HnTAPS, HnDRIFT
  edge         : BitVec 8
  silent       : BitVec 8
  silenceLimit : BitVec 4
  reverts      : BitVec 8
  chosen       : Byte
  trainResult  : BitVec 4
  vqband       : BitVec 2
  trial        : Bool
  trialMode    : BitVec 4
  /-- the trial has had a successful SWEEP (R131) -/
  swept        : Bool
  trialTaps    : BitVec 40
  override     : Bool
  freeze       : Bool
  taps         : BitVec 40
  drift        : Vector (BitVec 8) 8
  -- HnCHAIN
  latches      : BitVec 16
  rejects      : BitVec 16
  chipid       : BitVec 3
  chainWpx     : Bool
  lastbad      : Bool
  lastok       : Bool
  booten       : Bool
  chainEn      : Bool
  deriving DecidableEq, Repr

/-! ### Pace (02) -/

structure Pace where
  holder     : Option PortId
  /-- synchronising edges the holder still owes before its first pace edge (R35) -/
  sync       : Nat
  /-- under the fixed policy, the old holder that paces until the nominated port's first pace edge (R34) -/
  oldPacer   : Option PortId
  /-- synchronising edges that this old holder still owes (R35) -/
  oldSync    : Nat
  policy     : Bool
  fixedPort  : PortId
  devtime    : BitVec 64
  guardTrips : BitVec 32
  handovers  : BitVec 16
  badperiod  : Bool
  /-- the last pace edge was pulse-qualified (R52) -/
  qualified  : Bool
  /-- tick boundaries crossed by the last pace edge (R49) -/
  crossed    : Nat
  /-- galleries whose open gates a trip closed, until the next pace edge records them (R59) -/
  guardGals  : BitVec 4
  /-- divider of the pump clock (R532) -/
  pdiv       : BitVec 4
  /-- how far the work of the last pace edge has come in the order of Table 10.3, as `EdgeStep` counts (R392) -/
  stage      : Nat
  deriving DecidableEq, Repr

/-! ### Ledger (06) -/

/-- Slot states of Table 06.1 other than FREE: a slot that no operation holds is FREE. -/
inductive OpState where
  | admitting
  | queued
  | running
  | suspended
  | complete
  deriving DecidableEq, Repr

/-- Where an operation lives: a ledger slot, or a port's direct-operation slot (R181). -/
inductive Origin where
  | ledger (k : Fin 256)
  | direct (p : PortId)
  deriving DecidableEq, Repr

/-- Meter colours (R385); `none` for ledger-only operations. -/
inductive Colour where
  | green
  | yellow
  | none
  deriving DecidableEq, Repr

/-- The kinds of a REPOINT, and of a move (R350, R365). -/
inductive MoveKind where
  | slide
  | kilnSwap
  | scrub
  | relocation
  deriving DecidableEq, Repr

/-- A ledger FETCH, or the staging of a HAUL's chunk, that reads stone by stone (R293, R420, R519). -/
structure ReadRun where
  /-- DEVTIME at which the next stone is ready (Table 07.6) -/
  ready : BitVec 64
  /-- the next stone has passed its gate -/
  gated : Bool
  /-- the next stone is read as a first stone is: it is one, or it was held -/
  cold  : Bool
  flips : Flips
  deriving DecidableEq, Repr

/-- The next chunk of a HAUL, staged in its other yard slot while the one before is written (R518): the first of its stones,
its slot, its reading, the stones so far, the result that has stopped it (0xFF for none), and whether it is staged. -/
structure Ahead where
  start  : Nat
  slot   : Fin 256
  run    : ReadRun
  data   : List Word
  stop   : Byte
  staged : Bool
  deriving DecidableEq, Repr

/-- A REPOINT's read of a block (R636): stones read, DEVTIME at which the next is ready, corrected and uncorrectable ones. -/
structure BlockRead where
  next  : Nat
  ready : BitVec 64
  fixes : Nat
  bad   : Nat
  flips : Flips
  deriving DecidableEq, Repr

/-- What a dispatched operation is at. A step after the first is offered again once it is `ready` (R383). -/
inductive Work where
  /-- not dispatched yet -/
  | waiting
  /-- a FETCH that reads stones into the yard -/
  | fetching (r : ReadRun)
  /-- a lay, clear or firing that its bank runs -/
  | onBank
  /-- a REPOINT that reads a block -/
  | reading (r : BlockRead)
  /-- a REPOINT whose next block is to be read -/
  | readReady
  /-- a move whose next row is to be copied -/
  | rowReady
  /-- a move whose source is to be cleared -/
  | srcClearReady
  /-- a KILN whose slot is to be fired -/
  | fireReady
  /-- a window lay or clear that waits for a partner's poll -/
  | partner
  /-- a HAUL whose next chunk is due -/
  | chunkReady
  /-- a dispatched HAUL chunk whose source stones are being staged -/
  | staging (r : ReadRun)
  /-- a step of a move that waits for WP# high (R633) -/
  | wpWait
  /-- a LEVEL_RAISE or REGRESS that writes the journal, or a REGRESS that drains or regresses -/
  | lifecycle
  /-- a dispatched window lay or clear, or a staged HAUL chunk for a window, that waits at a disabled gate -/
  | gateHeld
  deriving DecidableEq, Repr

/-- One operation: a ledger slot's content (R193, R208, R211) or a direct operation. -/
structure Op where
  /-- the model's own name of the operation, in commit order -/
  id        : Nat
  origin    : Origin
  port      : PortId
  sub       : SubId
  seq       : Byte
  opcode    : Byte
  addr      : BitVec 32
  count     : BitVec 16
  after     : Byte
  wait      : Byte
  signal    : Byte
  flags     : Byte
  colour    : Colour
  /-- the admission charge (R381) -/
  charge    : Nat
  /-- yard slot taken at admission -/
  yard      : Option (Fin 256)
  /-- HAUL: source address of its payload -/
  src       : BitVec 32
  /-- LAY: the payload stones -/
  payload   : List Word
  state     : OpState
  work      : Work
  /-- the operation its AFTER waits for, if it was in the memory and not complete (R233) -/
  awaits    : Option Nat
  latched   : Bool
  marked    : Bool
  result    : Byte
  /-- progress word at completion (R245) -/
  progress  : BitVec 16
  units     : BitVec 32
  /-- pulses applied to the unit in progress (Table 06.4) -/
  position  : Nat
  epoch     : Byte
  admitted  : BitVec 32
  stamp     : BitVec 32
  /-- completion order, for COLLECT (R205) -/
  completed : Nat
  /-- tick boundaries crossed since its STAMP (R253) -/
  age       : Nat
  dupl      : Bool
  uncertain : Bool
  corrected : Bool
  bad       : Bool
  /-- a row copy of its move has corrected a stone (R208, R349) -/
  copyFixed : Bool
  /-- FETCH: the stones staged with its record -/
  fetched   : List Word
  /-- HAUL: the yard slot of the chunk in progress, and the chunk after it (R518) -/
  stage     : Option (Fin 256) := none
  ahead     : Option Ahead := none
  /-- port that is driving the record (R207) -/
  driving   : Option PortId
  /-- kind of a REPOINT -/
  kind      : MoveKind
  /-- ticks token-short and DEVTIME of the first such edge (R403), ticks waited for the floor (R348) -/
  short     : Nat
  shortAt   : Option (BitVec 64)
  floorTicks: Nat
  /-- another operation was dispatched in its place on the last dispatch edge (WHY 7) -/
  passed    : Bool
  /-- blocks done of a REPOINT; bytes or erase units confirmed of a window operation; firing time in ps of a KILN whose
  firing has ended -/
  index     : Nat
  /-- mA of tokens held -/
  tokens    : Nat
  /-- committed on this pace edge -/
  fresh     : Bool
  deriving DecidableEq, Repr

/-- A taken yard slot: its number, the operation it serves and the stones staged in it. -/
structure YardEntry where
  slot  : Fin 256
  owner : Nat
  data  : List Word
  deriving DecidableEq, Repr

structure Ledger where
  ops        : List Op
  nextId     : Nat
  nextDone   : Nat
  yard       : List YardEntry
  events     : BitVec 64
  lapses     : BitVec 16
  cycles     : BitVec 16
  aftermiss  : Bool
  sel        : BitVec 8
  view0      : Word
  view1      : Word
  view2      : Word
  view3      : Word
  standCount : BitVec 32
  standOldest: BitVec 8
  standWaiters : BitVec 9
  standFlag  : Bool
  dedupOff   : BitVec 32
  dedupSub   : BitVec 5
  yardFulls  : BitVec 16
  lapseLimit : BitVec 32
  standLimit : BitVec 32
  deriving DecidableEq, Repr

/-! ### Subscribers and galleries (06, 10) -/

structure Leaf where
  maxdelay : BitVec 20
  delay    : BitVec 20
  maxdepth : BitVec 9
  depth    : BitVec 9
  deriving DecidableEq, Repr

structure Sub where
  cir     : BitVec 32
  cbs     : BitVec 32
  pir     : BitVec 32
  pbs     : BitVec 32
  /-- bucket contents with 16 fraction bits -/
  tc      : Nat
  tp      : Nat
  weight  : Vector (BitVec 8) 4
  greens  : BitVec 16
  yellows : BitVec 16
  reds    : BitVec 16
  reserve : BitVec 6
  max     : BitVec 9
  quotax  : Bool
  last    : Byte
  dedup   : List Dedup
  leaf    : Vector Leaf 4
  deriving DecidableEq, Repr

/-- A charge pump (14): its register and whether its output has reached the target (R531). -/
structure Pump where
  changes   : BitVec 16
  running   : Bool
  ready     : Bool
  reglow    : Bool
  override  : Bool
  freeze    : Bool
  lean      : BitVec 8
  setStages : BitVec 4
  setPhase  : BitVec 4
  stages    : BitVec 4
  phase     : BitVec 4
  deriving DecidableEq, Repr

structure Gal where
  weight     : Vector (BitVec 8) 4
  vg         : BitVec 48
  vs         : Vector (BitVec 48) 4
  fs         : Vector (BitVec 48) 4
  /-- finish tags of the leaves, leaf (s, v) at 4·s + v -/
  fl         : Vector (BitVec 48) 128
  /-- leaves and services that had something to offer when last looked at (R396) -/
  awake      : BitVec 128
  svcAwake   : BitVec 4
  dispatches : BitVec 32
  floors     : BitVec 16
  lastslot   : BitVec 8
  lastledger : Bool
  lastsvc    : BitVec 2
  lsel       : BitVec 8
  /-- the gallery has dispatched on this pace edge (R393) -/
  busy       : Bool
  -- GgTAMP
  lastpulses : BitVec 16
  tampEdge   : Bool
  tampOver   : Bool
  tampFreeze : Bool
  tampLean   : BitVec 8
  setWidth   : BitVec 6
  setHeight  : BitVec 5
  width      : BitVec 6
  height     : BitVec 5
  lpump      : Pump
  cpump      : Pump
  deriving DecidableEq, Repr

/-! ### Banks (07, 08, 09) -/

/-- Bank states of Table 08.1. -/
inductive BankState where
  | idle
  | laying
  | clearing
  | firing
  | suspending
  | suspended
  | nestlay
  deriving DecidableEq, Repr

/-- Slot states of Table 07.3. -/
inductive SlotState where
  | mapped
  | gap
  | reserve
  | footing
  | factoryBad
  | grownBad
  | kiln
  deriving DecidableEq, Repr

/-- What a unit of a clear is: a logical block with its slot, a footing sector of a block, or a mark page. -/
inductive UnitRef where
  | block (slot : Nat)
  | sector (slot : Nat) (k : Nat)
  | page (p : Nat)
  deriving DecidableEq, Repr

/-- A pulse in progress: device time since it started and its width, both in ps (R55). -/
structure Pulse where
  elapsed : Nat
  width   : Nat
  /-- height code of a lay pulse (R371); 0 for the others, whose height the spec does not give -/
  height  : Nat
  deriving DecidableEq, Repr

/-- A lay that a bank runs: the operation (none for nothing of the ledger), the physical stones it targets with their
75 target cells, which of them verified so far, and what its checks found. -/
structure LayRun where
  op       : Nat
  /-- physical stone index and target cells, in ascending address order -/
  targets  : List (Nat × BitVec 75)
  verified : BitVec 64
  /-- a target stone failed the blank check (R302) -/
  relaid   : Bool
  /-- a stone was refused at the gate (R301) -/
  denied   : Bool
  /-- target stones still to be decided at a disabled gate (R423) -/
  held     : Bool
  /-- a row copy of a move -/
  copy     : Bool
  /-- device time that counts towards the lay time, in ps (R306) -/
  time     : Nat
  /-- device time of the blank-check reads still to pass, in ps (R628) -/
  blank    : Nat
  pulses   : Nat
  pulse    : Option Pulse
  /-- largest F of any pulse so far, in hundredths (R534) -/
  stretch  : Nat
  deriving DecidableEq, Repr

/-- What a clear unit belongs to. -/
inductive ClearFor where
  | operation
  | moveSource
  | firing
  | regression
  deriving DecidableEq, Repr

/-- A clear unit or firing that a bank runs or holds suspended. -/
structure ClearRun where
  /-- the operation, 0 for the regression sequence -/
  op       : Nat
  purpose  : ClearFor
  unit     : UnitRef
  /-- logical block of the unit -/
  lblock   : Nat
  /-- the unit waits at its disabled gate (R423) -/
  held     : Bool
  /-- every cell verified on the last pulse -/
  verified : Bool
  /-- clearing time of the unit, in ps (R310) -/
  time     : Nat
  pulses   : Nat
  pulse    : Option Pulse
  stretch  : Nat
  /-- the bank is between two units: the next one has not started (R312) -/
  boundary : Bool
  /-- this is still the edge on which the boundary came: fetches may start (R312, R313) -/
  serving  : Bool
  /-- in the firing stages of a KILN: firing time of this stage in ps, and the stage 0 or 1 (R360) -/
  fireTime : Nat
  stage    : Nat
  /-- the stage length has been reached and the clear inside the firing runs (R360) -/
  inClear  : Bool
  /-- mA that a regression clear holds (R453); the tokens of an operation stand in its Op -/
  tokens   : Nat
  deriving DecidableEq, Repr

/-- A move in progress on the bank (R349). -/
structure Move where
  op     : Nat
  kind   : MoveKind
  lblock : Nat
  src    : Nat
  dst    : Nat
  /-- next row to copy -/
  row    : Nat
  /-- stones (row·64 + stone) the failed lay did not verify (R330) -/
  skip   : List Nat
  /-- a stone read as uncorrectable (R350) -/
  uncorr : Bool
  /-- the course map names dst already (R282) -/
  mapped : Bool
  deriving DecidableEq, Repr

/-- A step of a move or firing that waits for WP# high (R633). -/
inductive WpStep where
  | mapChange
  | retireDst
  | retireSrc
  | nextState
  | firedEnd (ok : Bool)
  deriving DecidableEq, Repr

/-- Valid entries of a bank's bad-block record (Table 07.4). -/
structure Bbt where
  factory  : List (BitVec 10)
  /-- cause, stamp, slot; oldest first -/
  grown    : List (BitVec 4 × BitVec 32 × BitVec 10)
  overflow : Bool
  deriving DecidableEq, Repr

/-- What the plinth keeps of a bank: course map, slot states, gap, bad-block record and tidy list. The map and the slot
states are sparse: what is not listed is as at shipment of a bank without bad slots (R280). -/
structure BankRec where
  /-- logical block to slot -/
  map   : List (Nat × Nat)
  slots : List (Nat × SlotState)
  gap   : Option Nat
  bbt   : Bbt
  tidy  : List Nat
  deriving DecidableEq, Repr

/-- A relocation under R330: its block, the stones (row·64 + stone) that the failed lay did not verify, and its REPOINT
once one has been admitted. -/
structure Reloc where
  block : Nat
  skip  : List Nat
  op    : Option Nat
  /-- it has been submitted at least once -/
  tried : Bool
  deriving DecidableEq, Repr

structure Bank where
  state       : BankState
  clear       : Option ClearRun
  lay         : Option LayRun
  -- BnCTRL as written (acts at the rise, R315) and the policy of a suspension in progress
  unlimited   : Bool
  autoSuspend : Bool
  suspPolicy  : Bool
  -- BnSUSP
  minrun      : BitVec 20
  resumewait  : BitVec 20
  -- BnSTAT
  hostsusp    : Bool
  deferred    : Bool
  /-- the deferral was lodged by a SUSPEND (R321) -/
  deferHost   : Bool
  /-- relocations of R330 that are due, queued or running; RELOCPEND tells whether there is one -/
  relocs      : List Reloc
  noreserve   : Bool
  /-- the bank was WORN when last looked at (R335) -/
  worn        : Bool
  /-- ticks of run (R317), ps since the grant (Table 08.1), ticks since the last fetch ended (R323): 2^20, which no
  RESUMEWAIT exceeds, where none has ended since reset -/
  run         : Nat
  suspPs      : Nat
  quiet       : Nat
  /-- a RESUME lifted the suspension, which takes effect later (R324) -/
  resumeDue   : Bool
  -- BnTALLY
  suspends    : BitVec 16
  starve      : BitVec 16
  layfails    : BitVec 16
  clearfails  : BitVec 16
  -- BnWSEL, BnUPKEEP
  wselFoot    : Bool
  wselSector  : BitVec 4
  wselSlot    : BitVec 10
  moves       : BitVec 16
  swaps       : BitVec 16
  since       : BitVec 16
  nogap       : Bool
  overdue     : Bool
  /-- moves under way on the bank, each with its operation -/
  moving      : List Move
  /-- steps that wait for WP# high, oldest first, each with its operation (R633) -/
  wpSteps     : List (Nat × WpStep)
  -- BnPLUMB
  plumbEdge   : Bool
  plumbOver   : Bool
  plumbFreeze : Bool
  plumbLean   : BitVec 8
  setref      : BitVec 6
  ref         : BitVec 6
  /-- course map, slot states, gap, bad-block record, tidy list as the FY16 holds them -/
  kept        : BankRec
  /-- counts used since boot, by slot or by 1000 + footing sector: clears, firings (R337, R338, R562) -/
  wear        : List (Nat × Nat × Nat)
  deriving DecidableEq, Repr

/-! ### Gates (11) -/

structure Gate where
  en      : Bool
  strict  : Bool
  regions : Vector Word 8
  epoch   : BitVec 32
  denies  : BitVec 16
  wpx     : Bool
  fault   : BitVec 2
  faulta  : BitVec 3
  faultb  : BitVec 3
  deriving DecidableEq, Repr

/-- A gate's image in the plinth (11, Gate images in the plinth). -/
structure GateImage where
  en      : Bool
  strict  : Bool
  regions : Vector Word 8
  deriving DecidableEq, Repr

/-! ### Annex (13) -/

/-- One exchange with a partner (13): what the FY16 sends with the select low. In `mode` 3 every byte goes out on four lanes
(R489), in any other mode the opcode on one; `bytes` are opcode, address and data, `clocks` mode clocks driven at 1,
`dummy` dummy cycles, and `reads` the bytes that the partner drives then. -/
structure Exchange where
  partner : PartnerId
  mode    : BitVec 3
  bytes   : List Byte
  clocks  : Nat
  dummy   : Nat
  reads   : Nat
  deriving DecidableEq, Repr

structure Partner where
  -- ANX_PCFGp
  dtrop    : Byte
  dtrdummy : BitVec 5
  maxmode  : BitVec 3
  userds   : Bool
  en       : Bool
  -- ANX_PMAPp
  base     : BitVec 13
  size     : BitVec 5
  -- ANX_PMODEp
  state    : BitVec 2
  mode     : BitVec 3
  addr4    : Bool
  confblank: Bool
  page     : BitVec 4
  effsize  : BitVec 5
  erasesz  : BitVec 5
  eraseop  : Byte
  dummy    : BitVec 5
  id       : BitVec 24
  /-- opcode and mode clocks of the read mode chosen, and typical times from SFDP in ticks (R494) -/
  readop   : Byte
  clocks   : BitVec 3
  progTyp  : Nat
  eraseTyp : Nat
  -- ANX_PSTATp
  losts    : BitVec 16
  timeouts : BitVec 16
  lastres  : Byte
  mapfault : Bool
  fenced   : Bool
  /-- the operation that makes the partner busy (R499) -/
  owner    : Option Nat
  /-- a page program or erase has been sent and is not confirmed -/
  inFlight : Bool
  /-- ticks since its select rose, and consecutive polls that read 0xFF (R495, R496) -/
  sentTicks: Nat
  ffPolls  : Nat
  /-- a poll has run on this edge (R494) -/
  polled   : Bool
  /-- the command in flight is an erase -/
  erasing  : Bool
  deriving DecidableEq, Repr

structure Annex where
  en       : Bool
  /-- a write of EN = 0 waits for the last running operation (R511) -/
  enOff    : Bool
  manual   : Bool
  manualon : Bool
  modfs    : BitVec 16
  reclaimx : Bool
  nostrobe : Bool
  badset   : Bool
  gpioConf : Bool
  modf     : Bool
  yielded  : Bool
  div      : BitVec 7
  sellow   : BitVec 4
  sckout   : Bool
  sckoe    : Bool
  dqout    : BitVec 4
  dqoe     : BitVec 4
  /-- levels that the pins would have without the FY16: selects, AnSCK, AnRDS, AnDQ (R601 "Pins") -/
  selIn    : BitVec 4
  sckIn    : Bool
  rdsIn    : Bool
  dqIn     : BitVec 4
  cmdset   : Word
  timeout  : Word
  partners : Vector Partner 4
  /-- the exchanges since the last pace edge, in order -/
  sent     : List Exchange
  /-- a READ that streams: its partner, whose select is low, and the partner address that comes next (R490, R498) -/
  stream   : Option (PartnerId × Nat)
  /-- how far the exchanges due on this edge have come: polls by partner, then the others (R497) -/
  turn     : Nat
  /-- pace edges for which a released select is not sensed (R512) -/
  unsensed : Vector Nat 4
  deriving DecidableEq, Repr

/-! ### Life-cycle, plinth, boot (12, 15) -/

/-- One journal copy: its two words, and whether a cut write left it failing its CRC. -/
structure JCopy where
  w0     : Word
  w1     : Word
  broken : Bool
  deriving DecidableEq, Repr

/-- What a journal write is for. -/
inductive JPurpose where
  | raise (op : Nat)
  | begin
  | done
  | repair
  deriving DecidableEq, Repr

/-- A journal record being written: the copy (false A, true B) and the words. -/
structure JWrite where
  copy    : Bool
  w0      : Word
  w1      : Word
  purpose : JPurpose
  deriving DecidableEq, Repr

structure Life where
  level    : BitVec 2
  regPending : Bool
  toclear  : BitVec 16
  cleared  : BitVec 16
  failed   : BitVec 8
  stuck    : Bool
  wpwait   : Bool
  codex    : Bool
  lvlx     : Bool
  wpx      : Bool
  jbad     : Bool
  phase    : BitVec 2
  priv     : BitVec 32
  lock     : BitVec 16
  hide     : BitVec 16
  jselCopy : Bool
  jselWord : Bool
  /-- regression: next unit to look at of each gallery, and the tries of the unit being cleared (R453) -/
  cursor   : Vector Nat 4
  tries    : Vector Nat 4
  /-- the final writes of R453 before the REGRESS_DONE record have been queued -/
  finals   : Bool
  deriving DecidableEq, Repr

/-- The configuration record of the plinth (Table 15.2, Table 15.5). -/
structure CfgRec where
  priv    : BitVec 32
  lock    : BitVec 16
  hide    : BitVec 16
  mapmode : BitVec 64
  booten  : BitVec 8
  deriving DecidableEq, Repr

/-- A plinth record in its two copies, and whether each copy's CRC checks (R559). -/
structure Copies (α : Type) where
  c1 : α
  v1 : Bool
  c2 : α
  v2 : Bool
  deriving DecidableEq, Repr

/-- A wear record: bank, slot (or 1000 + footing sector), clears and firings. -/
structure WearRec where
  bank    : Fin 64
  slot    : Nat
  clears  : Nat
  firings : Nat
  deriving DecidableEq, Repr

/-- The content of one plinth write. -/
inductive PlinthData where
  | config (c : CfgRec)
  | image (g : GateId) (i : GateImage)
  | bank (b : Fin 64) (r : BankRec)
  | wear (w : WearRec)
  deriving DecidableEq, Repr

/-- The plinth: journal, configuration, gate images, bank records, wear counts, and the writes under way in order: the
first of `queue` is being written once it has `begun`, its second copy if `second`. -/
structure Plinth where
  jA     : JCopy
  jB     : JCopy
  jwrite : Option JWrite
  config : Copies CfgRec
  images : Vector (Copies GateImage) 66
  banks  : Vector (Copies BankRec) 64
  /-- wear records written at least once; the counts of any other slot are 0 -/
  wear   : List (Copies WearRec)
  queue  : List PlinthData
  begun  : Bool
  second : Bool
  deriving DecidableEq, Repr

structure Boot where
  /-- boot step 1 to 7; 0 when boot has ended -/
  step   : BitVec 3
  cycles : BitVec 32
  imgbad : BitVec 7
  cfgbad : Bool
  copy2  : Bool
  jskip  : Bool
  jwait  : Bool
  closed : BitVec 64
  boots  : BitVec 16
  softx  : Bool
  cause  : BitVec 2
  deriving DecidableEq, Repr

/-! ### Power, trace, global registers, map selectors (01, 07, 09, 10, 14, 16) -/

structure Power where
  budget     : BitVec 10
  brownouts  : BitVec 16
  peak       : BitVec 16
  badset     : Bool
  brownseen  : Bool
  brown      : Bool
  /-- the analog detector is tripped (R543) -/
  detector   : Bool
  /-- what the last trip cut, until a pace edge counts it (R547): bank numbers, 64 the mark array, 65 a plinth write -/
  brownCut   : List Nat
  min        : BitVec 16
  mv         : BitVec 16
  hold       : Bool
  temp       : BitVec 8
  -- COST0, COST1, TOKENS, TOKEN_STAT
  cost0      : Word
  cost1      : Word
  tokens     : Word
  reservations : BitVec 16
  /-- the reserved operation (R403) -/
  reserved   : Option Nat
  -- SAMPLE_CTRL, SAMPLE_STAT, and ticks since the last sample
  sampleFreeze : Bool
  sampleScope  : BitVec 3
  sampleInt    : BitVec 32
  missed       : BitVec 16
  samples      : BitVec 16
  sampleStamp  : BitVec 32
  sampleCount  : Nat
  deriving DecidableEq, Repr

structure Upkeep where
  pause     : Bool
  floorwait : BitVec 32
  slideInt  : BitVec 16
  kilnAt    : BitVec 16
  nextbank  : BitVec 6
  nextblock : BitVec 9
  fixmax    : BitVec 8
  scrubInt  : BitVec 32
  /-- ticks since the last scrub commit -/
  scrubTicks: Nat
  defers    : BitVec 16
  relocs    : BitVec 16
  badset    : Bool
  freezeTamp  : Bool
  freezePlumb : Bool
  /-- the house has submitted or been refused a packet on this edge (R341, R570) -/
  houseDone : Bool
  /-- it has passed over a kiln or slide duty for want of WP# on this edge (R355) -/
  passedOver : Bool
  deriving DecidableEq, Repr

structure Trace where
  entries : Vector Word 64
  next    : BitVec 6
  fill    : BitVec 7
  total   : BitVec 32
  freeze  : Bool
  deriving DecidableEq, Repr

structure Glob where
  cfgports  : BitVec 8
  inten     : Bool
  regwrites : BitVec 16
  denynum   : BitVec 12
  denyport  : BitVec 3
  noreg     : Bool
  regdeny   : Bool
  /-- INT_STAT causes [6:0] and DIRECT [39:32] -/
  causes    : BitVec 7
  direct    : BitVec 8
  /-- of these, the bits that were set on this pace edge (R596) -/
  freshCauses : BitVec 7
  freshDirect : BitVec 8
  maskCauses : BitVec 7
  maskCompl  : BitVec 8
  maskDirect : BitVec 8
  violInfo  : Word
  violAddr  : Word
  violLost  : BitVec 32
  /-- the recorded violation fell on this pace edge (R434) -/
  violFresh : Bool
  -- map registers (07)
  mapBank   : BitVec 6
  mapBlock  : BitVec 9
  mapSlot   : BitVec 10
  bbtBank   : BitVec 6
  bbtWord   : BitVec 6
  mapmode   : BitVec 64
  deferred  : BitVec 16
  mapWpx    : Bool
  badsel    : Bool
  deriving DecidableEq, Repr

/-- Pins and factory values. -/
structure Pins where
  /-- WP# as the last pace edge sampled it (R468), and the level of the pin -/
  wp      : Bool
  wpPin   : Bool
  /-- supply groups at 1.7 V or more: VCCQ0 to VCCQ3, then VCCQA (R526) -/
  supply  : BitVec 5
  uid     : BitVec 128
  grade   : Byte
  year    : Byte
  week    : Byte
  chipid  : BitVec 3
  deriving DecidableEq, Repr

/-- The whole FY16 block, with the queue of commands that wait. -/
structure State where
  ports   : Vector Port 8
  pace    : Pace
  ledger  : Ledger
  subs    : Vector Sub 32
  gals    : Vector Gal 4
  banks   : Vector Bank 65
  gates   : Vector Gate 66
  annex   : Vector Annex 2
  life    : Life
  plinth  : Plinth
  boot    : Boot
  power   : Power
  upkeep  : Upkeep
  trace   : Trace
  glob    : Glob
  pins    : Pins
  /-- cells of the array, ten to a stone (INVENTORY.md, Memory and ordering) -/
  mem     : List Host.Cell
  /-- stones that received a lay pulse and neither verified nor were cleared since: the blank check refuses them (R629) -/
  touched : List Nat
  /-- the model's own counter: how many free values (Config) have been used -/
  freeCtr : Nat
  pending : List Instr
  deriving DecidableEq, Repr

/-! ### Reset values: Table 17.2 (R600), and log entry 4 for what the spec does not give -/

/-- A reply that drives nothing. -/
def Reply.none : Reply := { silent := true, status := 0xFF, data := [], feed := .ones, bits := 0, shown := [] }

def Port.reset (n : PortId) : Port where
  csLow := false
  waitRise := false
  chainFrame := false
  txOp := Option.none
  atRise := []
  reply := Reply.none
  cycle := 0
  cell := Option.none
  level := 0xFF
  fetch := Option.none
  hold := Option.none
  upload := Option.none
  shifter := 0
  frameEdges := 0
  fetchBank := Option.none
  reading := false
  guarded := false
  tokens := 0
  seenLow := false
  mode := 0
  plain := true
  pol3 := false
  waits := 8
  waitsSet := 8
  waitsNow := 8
  holdLimit := 0x30000
  holdLimitSet := 0x30000
  holdLimitNow := 0x30000
  len := 4096
  lenSet := 4096
  lenNow := 4096
  period := 0
  declared := false
  periodNow := 0
  declaredNow := false
  holds := 0
  crcerrs := 0
  modeConflict := false
  badset := false
  badop := false
  holdExpired := false
  underrun := false
  stones := 0
  result := 0xFF
  lastop := 0
  units := 0
  armed := false
  notarmed := false
  stopped := false
  eccfail := false
  eccfix := false
  pktbad := false
  mask := BitVec.ofNat 32 (2 ^ n.val)
  subx := false
  dflt := BitVec.ofNat 5 n.val
  edge := 0
  silent := 0
  silenceLimit := 8
  reverts := 0
  chosen := 0xFF
  trainResult := 0
  vqband := 0
  trial := false
  trialMode := 0
  swept := false
  trialTaps := 0x8421084210
  override := false
  freeze := false
  taps := 0x8421084210
  drift := Vector.replicate 8 0
  latches := 0
  rejects := 0
  chipid := 0
  chainWpx := false
  lastbad := false
  lastok := false
  booten := false
  chainEn := false

/-- Log entry 70 (DESIGN CHOICE). -/
def Pace.reset : Pace where
  holder := none
  sync := 0
  oldPacer := none
  oldSync := 0
  policy := false
  fixedPort := 0
  devtime := 0
  guardTrips := 0
  handovers := 0
  badperiod := false
  qualified := false
  crossed := 0
  guardGals := 0
  pdiv := 1
  stage := 0

def Ledger.reset : Ledger where
  ops := []
  nextId := 1
  nextDone := 0
  yard := []
  events := 0
  lapses := 0
  cycles := 0
  aftermiss := false
  sel := 0
  view0 := 0
  view1 := 0
  view2 := 0
  view3 := 0
  standCount := 0
  standOldest := 0
  standWaiters := 0
  standFlag := false
  dedupOff := 0
  dedupSub := 0
  yardFulls := 0
  lapseLimit := 0x1000000
  standLimit := 0x10000

def Leaf.reset : Leaf := { maxdelay := 0, delay := 0, maxdepth := 0, depth := 0 }

def Sub.reset (s : SubId) : Sub where
  cir := 0xFFFFFFFF
  cbs := 0xFFFFFFFF
  pir := 0xFFFFFFFF
  pbs := 0xFFFFFFFF
  tc := 0xFFFFFFFF * 65536
  tp := 0xFFFFFFFF * 65536
  weight := Vector.replicate 4 16
  greens := 0
  yellows := 0
  reds := 0
  reserve := if s.val = 31 then 8 else 0
  max := 256
  quotax := false
  last := 0
  dedup := []
  leaf := Vector.replicate 4 Leaf.reset

def Pump.reset : Pump where
  changes := 0
  running := false
  ready := false
  reglow := false
  override := false
  freeze := false
  lean := 0
  setStages := 4
  setPhase := 8
  stages := 4
  phase := 8

def Gal.reset : Gal where
  weight := #v[64, 32, 16, 16]
  vg := 0
  vs := Vector.replicate 4 0
  fs := Vector.replicate 4 0
  fl := Vector.replicate 128 0
  awake := 0
  svcAwake := 0
  dispatches := 0
  floors := 0
  lastslot := 0xFF
  lastledger := false
  lastsvc := 0
  lsel := 0
  busy := false
  lastpulses := 0
  tampEdge := false
  tampOver := false
  tampFreeze := false
  tampLean := 0
  setWidth := 10
  setHeight := 16
  width := 10
  height := 16
  lpump := Pump.reset
  cpump := Pump.reset

/-- A bank's record at shipment without factory-bad slots: nothing differs from the identity map (R280).
Log entry 4 (DESIGN CHOICE). -/
def BankRec.shipment : BankRec where
  map := []
  slots := []
  gap := some 512
  bbt := { factory := [], grown := [], overflow := false }
  tidy := []

def Bank.reset : Bank where
  state := .idle
  clear := none
  lay := none
  unlimited := false
  autoSuspend := false
  suspPolicy := false
  minrun := 1024
  resumewait := 16
  hostsusp := false
  deferred := false
  deferHost := false
  relocs := []
  noreserve := false
  worn := false
  run := 0
  suspPs := 0
  quiet := 0x100000
  resumeDue := false
  suspends := 0
  starve := 0
  layfails := 0
  clearfails := 0
  wselFoot := false
  wselSector := 0
  wselSlot := 0
  moves := 0
  swaps := 0
  since := 0
  nogap := false
  overdue := false
  moving := []
  wpSteps := []
  plumbEdge := false
  plumbOver := false
  plumbFreeze := false
  plumbLean := 0
  setref := 32
  ref := 32
  kept := BankRec.shipment
  wear := []

def Gate.reset : Gate where
  en := false
  strict := false
  regions := Vector.replicate 8 0
  epoch := 0
  denies := 0
  wpx := false
  fault := 0
  faulta := 0
  faultb := 0

/-- Every gate image at shipment (11, Gate images in the plinth).
Log entry 4 (DESIGN CHOICE); log entry 54 (DEDUCED). -/
def GateImage.shipment : GateImage := { en := true, strict := false, regions := Vector.replicate 8 0 }

def Partner.reset : Partner where
  dtrop := 0
  dtrdummy := 0
  maxmode := 4
  userds := false
  en := false
  base := 0
  size := 16
  state := 0
  mode := 0
  addr4 := false
  confblank := false
  page := 0
  effsize := 0
  erasesz := 0
  eraseop := 0
  dummy := 0
  id := 0
  readop := 0
  clocks := 0
  progTyp := 0
  eraseTyp := 0
  losts := 0
  timeouts := 0
  lastres := 0xFF
  mapfault := false
  fenced := false
  owner := none
  inFlight := false
  sentTicks := 0
  ffPolls := 0
  polled := false
  erasing := false

/-- Log entry 4 (DESIGN CHOICE). -/
def Annex.reset : Annex where
  en := false
  enOff := false
  manual := false
  manualon := false
  modfs := 0
  reclaimx := false
  nostrobe := false
  badset := false
  gpioConf := false
  modf := false
  yielded := false
  div := 8
  sellow := 0
  sckout := false
  sckoe := false
  dqout := 0
  dqoe := 0
  selIn := 0xF
  sckIn := false
  rdsIn := true
  dqIn := 0xF
  cmdset := 0x0B4220D8020605B7
  timeout := 0x0040000000004000
  partners := Vector.replicate 4 Partner.reset
  sent := []
  stream := none
  turn := 0
  unsensed := Vector.replicate 4 0

def Life.reset : Life where
  level := 0
  regPending := false
  toclear := 0
  cleared := 0
  failed := 0
  stuck := false
  wpwait := false
  codex := false
  lvlx := false
  wpx := false
  jbad := false
  phase := 0
  priv := 0
  lock := 0
  hide := 0
  jselCopy := false
  jselWord := false
  cursor := Vector.replicate 4 0
  tries := Vector.replicate 4 0
  finals := false

/-- Log entry 4 (DESIGN CHOICE). -/
def CfgRec.shipment : CfgRec :=
  { priv := 1, lock := 0, hide := 0, mapmode := 0xFFFFFFFFFFFFFFFF, booten := 0 }

def Copies.both {α : Type} (a : α) : Copies α := { c1 := a, v1 := true, c2 := a, v2 := true }

/-- The plinth as shipped: journal copy A holds LEVEL_SET 0 with GEN 1, copy B with GEN 0 (12, The journal). STAMP is 0;
the low 16 bits of word 1 are the CRC-16 of Table 12.4.
Log entry 4 (DESIGN CHOICE). -/
def Plinth.shipment : Plinth where
  jA := { w0 := 0x4A4E010000000001, w1 := 0x000000000000FA89, broken := false }
  jB := { w0 := 0x4A4E010000000000, w1 := 0x00000000000042E8, broken := false }
  jwrite := none
  config := Copies.both CfgRec.shipment
  images := Vector.replicate 66 (Copies.both GateImage.shipment)
  banks := Vector.replicate 64 (Copies.both BankRec.shipment)
  wear := []
  queue := []
  begun := false
  second := false

/-- Log entry 26 (DEDUCED). -/
def Boot.reset : Boot where
  step := 1
  cycles := 0
  imgbad := 0
  cfgbad := false
  copy2 := false
  jskip := false
  jwait := false
  closed := 0
  boots := 0
  softx := false
  cause := 0

def Power.reset : Power where
  budget := 60
  brownouts := 0
  peak := 0
  badset := false
  brownseen := false
  brown := false
  detector := false
  brownCut := []
  min := 0
  mv := 0
  hold := false
  temp := 0
  cost0 := 0x0000100000080001
  cost1 := 0x0001000000000200
  tokens := 0x0000040004260B09
  reservations := 0
  reserved := none
  sampleFreeze := false
  sampleScope := 4
  sampleInt := 1024
  missed := 0
  samples := 0
  sampleStamp := 0
  sampleCount := 0

def Upkeep.reset : Upkeep where
  pause := false
  floorwait := 0x4000
  slideInt := 64
  kilnAt := 20000
  nextbank := 0
  nextblock := 0
  fixmax := 8
  scrubInt := 0x10000
  scrubTicks := 0
  defers := 0
  relocs := 0
  badset := false
  freezeTamp := false
  freezePlumb := false
  houseDone := false
  passedOver := false

def Trace.reset : Trace :=
  { entries := Vector.replicate 64 0, next := 0, fill := 0, total := 0, freeze := false }

def Glob.reset : Glob where
  cfgports := 0xFF
  inten := true
  regwrites := 0
  denynum := 0
  denyport := 0
  noreg := false
  regdeny := false
  causes := 0
  direct := 0
  freshCauses := 0
  freshDirect := 0
  maskCauses := 0
  maskCompl := 0
  maskDirect := 0
  violInfo := 0
  violAddr := 0
  violLost := 0
  violFresh := false
  mapBank := 0
  mapBlock := 0
  mapSlot := 0
  bbtBank := 0
  bbtWord := 0
  mapmode := 0
  deferred := 0
  mapWpx := false
  badsel := false

/-- Pins idle high, every supply present; UID and test date at 0, grade FY16-H8C, straps 0: log entry 4.
Log entry 4 (DESIGN CHOICE). -/
def Pins.reset : Pins :=
  { wp := true, wpPin := true, supply := 0x1F, uid := 0, grade := 0x43, year := 0, week := 1, chipid := 0 }

/-- The block as power-on reset releases it, on a part as shipped, before its first pace edge (R529, R600, Table 17.2).
BOOT_STAT.STEP is 1: boot has not begun.
Log entry 4 (DESIGN CHOICE); log entry 10 (DESIGN CHOICE). -/
def State.reset : State where
  ports := Vector.ofFn Port.reset
  pace := Pace.reset
  ledger := Ledger.reset
  subs := Vector.ofFn Sub.reset
  gals := Vector.replicate 4 Gal.reset
  banks := Vector.replicate 65 Bank.reset
  gates := Vector.replicate 66 Gate.reset
  annex := Vector.replicate 2 Annex.reset
  life := Life.reset
  plinth := Plinth.shipment
  boot := Boot.reset
  power := Power.reset
  upkeep := Upkeep.reset
  trace := Trace.reset
  glob := Glob.reset
  pins := Pins.reset
  mem := []
  touched := []
  freeCtr := 0
  pending := []

end Sys2Proof.Machine
end

