-- ==== Sys2Proof/Machine/Flags.lean ====
section
/-! DEFINITION. The code computations of the spec: byte order, CRC-16 (R192), the stone's ECC and laid mark (R266 to
R271), the status byte (Table 03.5) and the pulse-stretch factor (Table 14.1). -/
namespace Sys2Proof.Machine

/-! ### Bytes, most-significant first (R4) -/

def be16 (v : BitVec 16) : List Byte := [v.extractLsb' 8 8, v.extractLsb' 0 8]

def be32 (v : BitVec 32) : List Byte :=
  [v.extractLsb' 24 8, v.extractLsb' 16 8, v.extractLsb' 8 8, v.extractLsb' 0 8]

def be64 (v : BitVec 64) : List Byte := be32 (v.extractLsb' 32 32) ++ be32 (v.extractLsb' 0 32)

/-! ### CRC-16/CCITT-FALSE (R192) -/

def crcBit (c : BitVec 16) : BitVec 16 := if c.getLsbD 15 then (c <<< 1) ^^^ 0x1021 else c <<< 1

def crcByte (c : BitVec 16) (b : Byte) : BitVec 16 :=
  let x := c ^^^ (b ++ (0 : BitVec 8))
  crcBit (crcBit (crcBit (crcBit (crcBit (crcBit (crcBit (crcBit x)))))))

def crc16 (bs : List Byte) : BitVec 16 := bs.foldl crcByte 0xFFFF

/-- The bytes followed by their CRC, as every block of a reply ends. -/
def withCrc (bs : List Byte) : List Byte := bs ++ be16 (crc16 bs)

/-! ### The stone (07): cells [63:0] data, [71:64] ECC, [74:72] laid mark -/

/-- Code position of data bit `i`: positions from 3 on that are no power of two (ECC placement, 07). -/
def dataPos (i : Nat) : Nat :=
  if i < 1 then i + 3 else if i < 4 then i + 4 else if i < 11 then i + 5
  else if i < 26 then i + 6 else if i < 57 then i + 7 else i + 8

/-- Parity of the low `n` bits of a number. -/
def parityBelow (n : Nat) (f : Nat → Bool) : Bool := (List.range n).foldl (fun a i => a ^^ f i) false

/-- ECC[j] for j = 0 to 6: the XOR of every data bit whose code position has bit j set (R267). -/
def eccBit (d : Word) (j : Nat) : Bool := parityBelow 64 (fun i => d.getLsbD i && (dataPos i).testBit j)

def ecc7 (d : Word) : BitVec 7 :=
  BitVec.ofBool (eccBit d 6) ++ BitVec.ofBool (eccBit d 5) ++ BitVec.ofBool (eccBit d 4) ++ BitVec.ofBool (eccBit d 3)
    ++ BitVec.ofBool (eccBit d 2) ++ BitVec.ofBool (eccBit d 1) ++ BitVec.ofBool (eccBit d 0)

/-- The ECC byte of R267: ECC[7] makes the parity of all 72 bits even. -/
def eccOf (d : Word) : Byte :=
  let e := ecc7 d
  BitVec.ofBool (parityBelow 64 d.getLsbD ^^ parityBelow 7 e.getLsbD) ++ e

/-- Cells of a cleared stone (R269). -/
def cellsBlank : BitVec 75 := BitVec.allOnes 75

/-- Cells that a lay of data `d` aims at: the data, its ECC, and mark 0b000 (R301). -/
def cellsOf (d : Word) : BitVec 75 := (0 : BitVec 3) ++ eccOf d ++ d

def cellsData (c : BitVec 75) : Word := c.extractLsb' 0 64
def cellsEcc (c : BitVec 75) : Byte := c.extractLsb' 64 8
def cellsMark (c : BitVec 75) : BitVec 3 := c.extractLsb' 72 3

/-- A stone reads as laid when at least two of its mark bits read 0 (R270). -/
def markLaid (m : BitVec 3) : Bool :=
  (!m.getLsbD 0 && !m.getLsbD 1) || (!m.getLsbD 0 && !m.getLsbD 2) || (!m.getLsbD 1 && !m.getLsbD 2)

/-- What a read of one stone yields: the data driven, whether ECC corrected it or could not, and what the corrected bit
adds to the plumb loop's LEAN (R368). -/
structure StoneRead where
  data  : Word
  laid  : Bool
  fixed : Bool
  bad   : Bool
  lean  : Int
  deriving DecidableEq, Repr

/-- LEAN's share of a corrected bit: a bit read as 1 that should be 0 adds 1, the other way subtracts 1 (R368). -/
def leanOf (readAs : Bool) : Int := if readAs then 1 else -1

/-- The data bit at code position `p`, if one lies there. -/
def bitAtPos (p : Nat) : Option Nat := (List.range 64).find? (fun i => dataPos i == p)

/-- ECC outcome of a laid stone (R268, Table 07.2). -/
def eccDecide (d : Word) (e : Byte) : StoneRead :=
  let syn : BitVec 7 := ecc7 d ^^^ e.extractLsb' 0 7
  let par := parityBelow 64 d.getLsbD ^^ parityBelow 8 e.getLsbD
  let s := syn.toNat
  if s = 0 then
    if par then { data := d, laid := true, fixed := true, bad := false, lean := leanOf (e.getLsbD 7) }
    else { data := d, laid := true, fixed := false, bad := false, lean := 0 }
  else if par then
    if s = 1 ∨ s = 2 ∨ s = 4 ∨ s = 8 ∨ s = 16 ∨ s = 32 ∨ s = 64 then
      { data := d, laid := true, fixed := true, bad := false, lean := leanOf (e.getLsbD (Nat.log2 s)) }
    else match bitAtPos s with
      | some i => { data := d ^^^ (1 <<< i), laid := true, fixed := true, bad := false, lean := leanOf (d.getLsbD i) }
      | none => { data := d, laid := true, fixed := false, bad := true, lean := 0 }
  else { data := d, laid := true, fixed := false, bad := true, lean := 0 }

/-- A read of a stone's cells: the mark vote first (R270, R271), then ECC. -/
def readStone (c : BitVec 75) : StoneRead :=
  if markLaid (cellsMark c) then eccDecide (cellsData c) (cellsEcc c)
  else { data := cellsData c, laid := false, fixed := false, bad := false, lean := 0 }

/-- The ten bytes of RAW FETCH (R176). -/
def rawBytes (c : BitVec 75) : List Byte := be64 (cellsData c) ++ [cellsEcc c, (0 : BitVec 5) ++ cellsMark c]

/-! ### Cells in the array -/

/-- Number of a physical stone: bank, slot, row, stone (R264, R278).
Log entry 10 (DESIGN CHOICE). -/
def stoneIx (bank slot row stone : Nat) : Nat := ((bank * 544 + slot) * 128 + row) * 64 + stone

/-- Number of a mark page's stone, after the 64 banks (R276).
Log entry 10 (DESIGN CHOICE). -/
def markIx (page stone : Nat) : Nat := 64 * 544 * 8192 + page * 128 + stone

/-- The 75 cells of a physical stone.
Log entry 10 (DESIGN CHOICE). -/
def readCells (m : List Host.Cell) (n : Nat) : BitVec 75 :=
  let b := fun k => Memory.read m (10 * n + k)
  (b 9).extractLsb' 0 3 ++ b 8 ++ (b 0 ++ b 1 ++ b 2 ++ b 3 ++ b 4 ++ b 5 ++ b 6 ++ b 7)

/-- The ten cells (bytes) that hold a stone's 75 cells. -/
def cellBytes (c : BitVec 75) : List Byte := rawBytes c

def writeBytes (m : List Host.Cell) (a : Nat) : List Byte → List Host.Cell
  | [] => m
  | b :: r => writeBytes (Memory.write m a b) (a + 1) r

/-- Log entry 10 (DESIGN CHOICE). -/
def writeCells (m : List Host.Cell) (n : Nat) (c : BitVec 75) : List Host.Cell := writeBytes m (10 * n) (cellBytes c)

/-- Clear the stones from number `lo` up to, not including, `hi`. -/
def blankStones (m : List Host.Cell) (lo hi : Nat) : List Host.Cell := Sparse.wipe m (10 * lo) (10 * hi)

/-! ### The status byte (Table 03.5) -/

/-- The condition that ended or stopped a command; at most one is shown (R98). -/
inductive Cond where
  | ok
  | notReady
  | held
  | rfsd
  | deny
  | crcx
  /-- CYCLE: none of RDY, HELD, RFSD, DENY, CRCX (Table 05.9) -/
  | cycle
  /-- a repeat whose original has ended, or is still pending (Table 05.9) -/
  | repeatDone
  | repeatPending
  deriving DecidableEq, Repr

def statusByte (c : Cond) (attn boot : Bool) : Byte :=
  BitVec.ofBool (c == .ok || c == .repeatDone) ++ BitVec.ofBool (c == .held) ++ BitVec.ofBool (c == .rfsd)
    ++ BitVec.ofBool (c == .deny) ++ BitVec.ofBool attn ++ BitVec.ofBool (c == .repeatDone || c == .repeatPending)
    ++ BitVec.ofBool (c == .crcx) ++ BitVec.ofBool boot

/-! ### The Ehrif pattern (R132, Table 04.3) -/

def ehrifWords : Vector (BitVec 32) 8 :=
  #v[0x5A3C96F0, 0x0FF0A55A, 0xC3E17B24, 0x1D8E6B39, 0xF00F3CC3, 0x6D92B54A, 0x84217BDE, 0xE71829D6]

/-- What lane `k` carries in transfer `t` of its sequence: the pattern rotated by `k` words, each word most-significant
bit first. -/
def ehrifBit (k : Fin 8) (t : Nat) : Bool :=
  (ehrifWords[(k.val + t / 32) % 8]'(Nat.mod_lt _ (by decide))).getLsbD (31 - t % 32)

/-! ### Pulse stretch -/

/-- F of Table 14.1 in hundredths, by the holder's declared period in ps. -/
def stretchOf (p : Nat) : Nat :=
  if p ≤ 125000 then 100 else if p ≤ 250000 then 125 else if p ≤ 500000 then 160 else 220

/-- PDIV for a PERIOD of `p` ps (R532).
Log entry 70 (DESIGN CHOICE). -/
def pdivOf (p : Nat) : BitVec 4 := BitVec.ofNat 4 (max 1 ((40000 + p - 1) / p))

end Sys2Proof.Machine
end

