-- ==== Sys2Proof/Machine/Operands.lean ====
section
/-! DEFINITION. Operand forms: addresses (R262 to R264, R290), packets' field rules (Table 05.6, Table 05.7), ledger
opcodes, register numbers (Table 17.1) and the sparse forms of course map and slot states. -/
namespace Sys2Proof.Machine

/-! ### Addresses -/

/-- The regions of Table 07.1. -/
inductive Region where
  | main
  | window (a : AnnexId)
  | marks
  | info
  | unmapped
  deriving DecidableEq, Repr

def regionOf (a : BitVec 32) : Region :=
  let n := a.toNat
  if n < 0x80000000 then .main
  else if n < 0xA0000000 then .window 0
  else if n < 0xC0000000 then .window 1
  else if n < 0xC0004000 then .marks
  else if 0xC0010000 ≤ n ∧ n < 0xC0010400 then .info
  else .unmapped

/-- Bank A[30:25], block A[24:16], row A[15:9], stone A[8:3] (R264). -/
def addrBank (a : BitVec 32) : Fin 64 := (a.extractLsb' 25 6).toFin
def addrBlock (a : BitVec 32) : Nat := (a.extractLsb' 16 9).toNat
def addrRow (a : BitVec 32) : Nat := (a.extractLsb' 9 7).toNat
def addrStone (a : BitVec 32) : Nat := (a.extractLsb' 3 6).toNat

/-- Mark page of a mark address, and the stone within the page (R276). -/
def markPage (a : BitVec 32) : Nat := (a.extractLsb' 10 4).toNat
def markStone (a : BitVec 32) : Nat := (a.extractLsb' 3 7).toNat

def bankIx (b : Fin 64) : BankId := b.castSucc

/-- The mark array's place among the banks. -/
def markBank : BankId := 64

/-- Gallery b mod 4 (R265); the mark array is dispatched by G0 (R277). -/
def galOf (b : BankId) : GalId := ⟨b.val % 4, Nat.mod_lt _ (by decide)⟩

/-- The two footing blocks (R272). -/
def isFooting (b : BankId) (block : Nat) : Bool := (b.val == 0 && block == 0) || (b.val == 63 && block == 511)

/-- Slot that holds a bank's footing block for good (R274). -/
def footingSlot (b : BankId) (slot : Nat) : Bool := (b.val == 0 && slot == 0) || (b.val == 63 && slot == 511)

/-- Stone address: ADDR[2:0] ignored (R171). -/
def stoneAddr (a : BitVec 32) : BitVec 32 := a &&& ~~~ (7 : BitVec 32)

/-- All stones `count` from `a` lie within one row of 512 B. -/
def withinRow (a : BitVec 32) (count : Nat) : Bool := addrStone a + count ≤ 64

/-- The gate that stands before an address, if one does (R411). -/
def gateOf (a : BitVec 32) : Option GateId :=
  match regionOf a with
  | .main => some ⟨(addrBank a).val, by omega⟩
  | .window n => some ⟨64 + n.val, by omega⟩
  | _ => none

/-- The bank that serves an address: its bank, or the mark array for mark and info pages (R277). -/
def bankOfAddr (a : BitVec 32) : Option BankId :=
  match regionOf a with
  | .main => some (bankIx (addrBank a))
  | .marks => some markBank
  | .info => some markBank
  | _ => none

/-- PADDR fields (Table 07.5). -/
def paddrBank (a : BitVec 32) : Fin 64 := (a.extractLsb' 26 6).toFin
def paddrSlot (a : BitVec 32) : Nat := (a.extractLsb' 16 10).toNat
def paddrStoneIx (a : BitVec 32) : Nat :=
  stoneIx (paddrBank a).val (paddrSlot a) (a.extractLsb' 9 7).toNat (a.extractLsb' 3 6).toNat

/-! ### Course map and slot states (07) -/

/-- Slot of a logical block where the map lists no other: the block's own number (R280). -/
def BankRec.slotOf (r : BankRec) (block : Nat) : Nat := Sparse.get (fun k => k) r.map block

/-- State of a slot where none is listed: FOOTING, MAPPED to 511, GAP at 512, RESERVE above (R280). -/
def defaultSlot (b : BankId) (k : Nat) : SlotState :=
  if footingSlot b k then .footing else if k < 512 then .mapped else if k = 512 then .gap else .reserve

def BankRec.slotState (r : BankRec) (b : BankId) (k : Nat) : SlotState := Sparse.get (defaultSlot b) r.slots k

def BankRec.setSlot (r : BankRec) (b : BankId) (k : Nat) (s : SlotState) : BankRec :=
  { r with slots := Sparse.put (defaultSlot b) r.slots k s }

def BankRec.setMap (r : BankRec) (block slot : Nat) : BankRec :=
  { r with map := Sparse.put (fun k => k) r.map block slot }

/-- Slots in a given state, ascending. -/
def BankRec.slotsIn (r : BankRec) (b : BankId) (s : SlotState) : List Nat :=
  (List.range 544).filter (fun k => r.slotState b k == s)

/-- Reserve count (R279). -/
def BankRec.reserveCount (r : BankRec) (b : BankId) : Nat := (r.slotsIn b .reserve).length

/-- Logical block that a slot holds, if any. -/
def BankRec.blockOf (r : BankRec) (slot : Nat) : Option Nat :=
  (List.range 512).find? (fun l => r.slotOf l == slot)

/-! ### Ledger opcodes (Table 05.7) -/

def opFetch : Byte := 0x01
def opLay : Byte := 0x02
def opClear : Byte := 0x03
def opClearFoot : Byte := 0x04
def opHaul : Byte := 0x05
def opKiln : Byte := 0x06
def opSignal : Byte := 0x07
def opCancel : Byte := 0x08
def opFence : Byte := 0x09
def opSuspend : Byte := 0x0B
def opResume : Byte := 0x0C
def opRepoint : Byte := 0x0D
def opRegress : Byte := 0x0E
def opLevelRaise : Byte := 0x0F

/-- The opcodes of Table 05.7. -/
def ledgerOpcode (op : Byte) : Bool := decide (1 ≤ op.toNat ∧ op.toNat ≤ 15) && op != 0x0A

/-- Service of a ledger opcode, none for ledger-only ones. -/
def svcOf (op : Byte) : Option SvcId :=
  if op = opFetch then some 0
  else if op = opLay ∨ op = opHaul then some 1
  else if op = opClear ∨ op = opClearFoot ∨ op = opSuspend ∨ op = opResume then some 2
  else if op = opKiln ∨ op = opRepoint then some 3
  else none

/-- Ledger-only opcodes skip the meter (check 6) and queue in no leaf (R380). -/
def ledgerOnly (op : Byte) : Bool := (svcOf op).isNone

/-- Only a bank base: bits [30:25], all others 0. -/
def bankBase (a : BitVec 32) : Bool := a &&& ~~~ (0x7E000000 : BitVec 32) = 0

/-- Bytes 0 to 13 of a packet with opcode `op`. -/
def packetBytes (p : Packet) (op : Byte) : List Byte :=
  [op, p.flags, p.sub, p.seq] ++ be32 p.addr ++ be16 p.count ++ [p.after, p.wait, p.signal, p.zero]

/-- WAIT and SIGNAL name an event, or 0xFF for none (Table 05.6). -/
def eventField (e : Byte) : Bool := e.toNat < 64 || e == 0xFF

/-- The rules of Table 05.6. -/
def commonRules (p : Packet) : Bool :=
  (p.flags &&& 0xFC == 0) && (p.sub &&& 0xE0 == 0) && eventField p.wait && eventField p.signal && (p.zero == 0)

/-- The rules of Table 05.7. `mapEnd` is the first window offset past the partner map that holds ADDRESS, when some
enabled partner's map holds it. -/
def fieldRules (op : Byte) (p : Packet) (mapEnd : Option Nat) : Bool :=
  let a := p.addr
  let c := p.count.toNat
  if op = opFetch then
    (a &&& 7 == 0) && decide (1 ≤ c ∧ c ≤ 64) && withinRow a c && (regionOf a != .unmapped)
  else if op = opLay then
    (a &&& 7 == 0) && decide (1 ≤ c ∧ c ≤ 64) && withinRow a c && (regionOf a != .unmapped) && (regionOf a != .info)
  else if op = opClear then
    (a &&& 0xFFFF == 0) && decide (1 ≤ c ∧ c ≤ 512) &&
      (match regionOf a with
       | .main => decide (addrBlock a + c ≤ 512)
       | .window _ => (match mapEnd with
          | some e => decide (a.toNat % 0x20000000 + c * 0x10000 ≤ e)
          | none => decide (a.toNat % 0x20000000 + c * 0x10000 ≤ 0x20000000))
       | _ => false)
  else if op = opClearFoot then
    (a &&& 0xFFF == 0) && (regionOf a == .main) && isFooting (bankIx (addrBank a)) (addrBlock a) && decide (1 ≤ c) &&
      decide ((a.extractLsb' 12 4).toNat + c ≤ 16)
  else if op = opHaul then (a &&& 7 == 0) && decide (1 ≤ c)
  else if op = opKiln then bankBase a && decide (c ≤ 543)
  else if op = opSignal ∨ op = opFence then (a == 0) && decide (c = 0)
  else if op = opCancel then (a &&& ~~~ (0x1FFF : BitVec 32) == 0) && decide (c = 0)
  else if op = opSuspend ∨ op = opResume then bankBase a && decide (c = 0)
  else if op = opRepoint then
    (a &&& 0xFFFF == 0) && (regionOf a == .main) && decide (1 ≤ c ∧ addrBlock a + c ≤ 512)
  else if op = opRegress then decide (c = 0)
  else if op = opLevelRaise then decide (c = 1 ∨ c = 2)
  else false

/-! ### Result codes (Table 05.11) -/

def rDone : Byte := 0x00
def rCorrected : Byte := 0x01
def rDenied : Byte := 0x10
def rRed : Byte := 0x11
def rFull : Byte := 0x12
def rUndeclared : Byte := 0x13
def rCycle : Byte := 0x14
def rBadAlign : Byte := 0x15
def rNotSusp : Byte := 0x16
def rUnsettled : Byte := 0x17
def rRelaid : Byte := 0x20
def rUncorr : Byte := 0x21
def rLayFail : Byte := 0x22
def rClearFail : Byte := 0x23
def rAbsent : Byte := 0x30
def rLost : Byte := 0x31
def rFault : Byte := 0x32
def rTimeout : Byte := 0x33
def rCancelled : Byte := 0x40
def rLapsed : Byte := 0x41

end Sys2Proof.Machine
end

