-- ==== Sys2Proof/Machine/Ops.lean ====
section
/-! DEFINITION. The named operations over the state that the meanings share: parts of the state, trace, tokens, causes,
events, completion, the yard, plinth writes, slots, gates and meters. -/
namespace Sys2Proof.Machine

/-- What a command answers. -/
abbrev Outcome := Host.Outcome State Fault Refusal

/-- What a row of work on a pace edge answers: without a pace holder there is no pace edge, and nothing changes (R26).
Log entry 5 (DESIGN CHOICE); log entry 6 (DEDUCED). -/
def State.onEdge (s t : State) : Outcome := .next (if s.pace.holder.isSome then t else s)

/-- Places of the rows in the order of work of Table 10.3 (R392): operations that end on the edge, the last step of R237,
host packets in port order (R223), the house (R341), the reservation (R403), the galleries in order, and samples. -/
def orderEnds : Nat := 30
def orderEvents : Nat := 35
def orderPacket (p : PortId) : Nat := 40 + p.val
def orderHouse : Nat := 48
def orderReserve : Nat := 50
def orderGallery (g : GalId) : Nat := 51 + g.val
def orderSample : Nat := 60

/-- A row of work that Table 10.3 gives a place: taken on a pace edge whose work has not gone past that place yet. A row that
comes out of the order changes nothing.
Log entry 6 (DEDUCED). -/
def State.onStep (k : Nat) (s t : State) : Outcome :=
  .next (if s.pace.holder.isSome && decide (s.pace.stage ≤ k) then { t with pace := { t.pace with stage := k } } else s)

/-! ### Parts of the state -/

def State.port (s : State) (p : PortId) : Port := s.ports[p.val]
def State.bank (s : State) (b : BankId) : Bank := s.banks[b.val]
def State.gal (s : State) (g : GalId) : Gal := s.gals[g.val]
def State.sub (s : State) (i : SubId) : Sub := s.subs[i.val]
def State.gate (s : State) (g : GateId) : Gate := s.gates[g.val]
def State.anx (s : State) (a : AnnexId) : Annex := s.annex[a.val]
def State.partner (s : State) (a : AnnexId) (p : PartnerId) : Partner := (s.anx a).partners[p.val]

def State.modPort (s : State) (p : PortId) (f : Port → Port) : State :=
  { s with ports := s.ports.set p.val (f (s.port p)) }
def State.modBank (s : State) (b : BankId) (f : Bank → Bank) : State :=
  { s with banks := s.banks.set b.val (f (s.bank b)) }
def State.modGal (s : State) (g : GalId) (f : Gal → Gal) : State :=
  { s with gals := s.gals.set g.val (f (s.gal g)) }
def State.modSub (s : State) (i : SubId) (f : Sub → Sub) : State :=
  { s with subs := s.subs.set i.val (f (s.sub i)) }
def State.modGate (s : State) (g : GateId) (f : Gate → Gate) : State :=
  { s with gates := s.gates.set g.val (f (s.gate g)) }
def State.modAnx (s : State) (a : AnnexId) (f : Annex → Annex) : State :=
  { s with annex := s.annex.set a.val (f (s.anx a)) }
def State.modPartner (s : State) (a : AnnexId) (p : PartnerId) (f : Partner → Partner) : State :=
  s.modAnx a (fun x => { x with partners := x.partners.set p.val (f x.partners[p.val]) })
def State.modLedger (s : State) (f : Ledger → Ledger) : State := { s with ledger := f s.ledger }
def State.modLife (s : State) (f : Life → Life) : State := { s with life := f s.life }
def State.modPower (s : State) (f : Power → Power) : State := { s with power := f s.power }
def State.modUpkeep (s : State) (f : Upkeep → Upkeep) : State := { s with upkeep := f s.upkeep }
def State.modGlob (s : State) (f : Glob → Glob) : State := { s with glob := f s.glob }
def State.modPlinth (s : State) (f : Plinth → Plinth) : State := { s with plinth := f s.plinth }
def State.modBoot (s : State) (f : Boot → Boot) : State := { s with boot := f s.boot }
def State.modPace (s : State) (f : Pace → Pace) : State := { s with pace := f s.pace }

/-- Run `f` over a list of items from the left, as the spec's "for each" loops. -/
def forEach {α : Type} (l : List α) (f : State → α → State) (s : State) : State := l.foldl f s

def allPorts : List PortId := List.finRange 8
def allBanks : List BankId := List.finRange 65
def mainBanks : List (Fin 64) := List.finRange 64
def allGals : List GalId := List.finRange 4
def allSubs : List SubId := List.finRange 32
def allGates : List GateId := List.finRange 66
def allAnnex : List AnnexId := List.finRange 2
def allPartners : List PartnerId := List.finRange 4

/-! ### Time -/

/-- DEVTIME[51:20], the stamp of records (Table 02.2). -/
def State.stamp (s : State) : BitVec 32 := s.pace.devtime.extractLsb' 20 32

/-- DEVTIME[43:20], the TICK of a trace entry. -/
def State.tick24 (s : State) : BitVec 24 := s.pace.devtime.extractLsb' 20 24

/-- Device time in ps since `t`, modulo 2^64 (R50). -/
def State.since (s : State) (t : BitVec 64) : Nat := (s.pace.devtime - t).toNat

/-- Device period per pace edge of port `p` (R49). -/
def Port.edgePs (p : Port) : Nat := if p.declaredNow then p.periodNow.toNat else 20000

/-- The port whose edges are pace edges: under R34 the old holder until the new one's first. -/
def Pace.pacer (p : Pace) : Option PortId := match p.oldPacer with
  | some o => some o
  | none => p.holder

/-- A holder's edges are pulse-qualified (R52). -/
def Port.qualifies (p : Port) : Bool := p.declaredNow && decide (p.periodNow.toNat ≤ 1000000)

/-- CS# counts as low (R556). -/
def Port.low (p : Port) : Bool := p.csLow && !p.waitRise

/-! ### Level, boot, privilege (12, 15) -/

def State.booting (s : State) : Bool := s.boot.step != 0

/-- The BOOT bit (R565). -/
def State.bootBit (s : State) : Bool := s.booting || s.life.regPending

/-- LEVEL.LEVEL: SEALED while regression is pending (R439). -/
def State.levelNow (s : State) : BitVec 2 := if s.life.regPending then 1 else s.life.level

def State.isOpen (s : State) : Bool := s.levelNow == 0

/-- R440. -/
def State.privileged (s : State) (i : SubId) : Bool := decide (i.val ≠ 31) && s.life.priv.getLsbD i.val

/-- Bank `b` is closed (Table 15.5). -/
def State.closedBank (s : State) (b : Fin 64) : Bool := s.boot.closed.getLsbD b.val

/-- The region of an address, a closed bank's addresses being unmapped (Table 15.5). -/
def State.region (s : State) (a : BitVec 32) : Region :=
  match regionOf a with
  | .main => if s.closedBank (addrBank a) then .unmapped else .main
  | r => r

/-- The FY16 is draining for a REGRESS (R450). -/
def State.draining (s : State) : Bool := s.life.phase == 1

/-! ### Trace ring (R20 to R23) -/

def traceWord (tick : BitVec 24) (action : Byte) (slot : Option (Fin 256)) (bank : Nat) (arg : BitVec 16) : Word :=
  tick ++ action ++ (match slot with | some k => BitVec.ofNat 8 k.val | none => (0xFF : BitVec 8))
    ++ BitVec.ofNat 6 bank ++ BitVec.ofBool slot.isNone ++ (0 : BitVec 1) ++ arg

def Trace.add (t : Trace) (w : Word) : Trace :=
  if t.freeze then t
  else { t with entries := t.entries.set t.next.toNat w t.next.isLt, next := t.next + 1,
                fill := if t.fill.toNat < 64 then t.fill + 1 else t.fill, total := t.total + 1 }

/-- One trace entry. Bank 64, the mark array, is written as 0 (Table 01.7). -/
def State.addTrace (s : State) (action : Byte) (slot : Option (Fin 256)) (bank : Nat) (arg : BitVec 16) : State :=
  { s with trace := s.trace.add (traceWord s.tick24 action slot (if bank < 64 then bank else 0) arg) }

def tStage : Byte := 0x01
def tEccFix : Byte := 0x02
def tEccFail : Byte := 0x03
def tAdmit : Byte := 0x10
def tRefuse : Byte := 0x11
def tDispatch : Byte := 0x12
def tSuspend : Byte := 0x13
def tResume : Byte := 0x14
def tComplete : Byte := 0x15
def tHold : Byte := 0x16
def tStandstill : Byte := 0x17
def tGrant : Byte := 0x20
def tRelease : Byte := 0x21
def tPulses : Byte := 0x22
def tPump : Byte := 0x23
def tAbort : Byte := 0x24
def tGuard : Byte := 0x25

/-! ### INT_STAT (Table 16.5) -/

def cStandstill : BitVec 7 := 0x01
def cViol : BitVec 7 := 0x02
def cGate : BitVec 7 := 0x04
def cWorn : BitVec 7 := 0x08
def cAnnex : BitVec 7 := 0x10
def cBrown : BitVec 7 := 0x20
def cLevel : BitVec 7 := 0x40

/-- Causes of INT_STAT are set (Table 16.5).
Log entry 68 (DEDUCED). -/
def State.cause (s : State) (c : BitVec 7) : State :=
  s.modGlob (fun g => { g with causes := g.causes ||| c, freshCauses := g.freshCauses ||| c })

/-! ### Free values -/

/-- Log entry 9 (DESIGN CHOICE). -/
def State.useFree (s : State) : State := { s with freeCtr := s.freeCtr + 1 }

/-- One of several equally permitted choices: the free value picks.
Log entry 9 (DESIGN CHOICE). -/
def State.pick {α : Type} (s : State) (l : List α) : Option α := l[Config.freePick s.freeCtr % l.length]?

/-! ### Operations -/

def Op.slot (o : Op) : Option (Fin 256) := match o.origin with
  | .ledger k => some k
  | .direct _ => none

def Op.isDirect (o : Op) : Bool := match o.origin with
  | .ledger _ => false
  | .direct _ => true

/-- An operation that the house submitted (R16, R412). A direct command of a port whose DEFAULT names S31 is none (R413). -/
def Op.house (o : Op) : Bool := o.sub == 31 && !o.isDirect

def Ledger.findOp (l : Ledger) (id : Nat) : Option Op := l.ops.find? (fun o => o.id == id)

def State.op? (s : State) (id : Nat) : Option Op := s.ledger.findOp id

/-- Log entry 55 (DEDUCED). -/
def State.opOfSlot (s : State) (k : Fin 256) : Option Op := s.ledger.ops.find? (fun o => o.origin == .ledger k)

/-- Log entry 55 (DEDUCED). -/
def State.opOfDirect (s : State) (p : PortId) : Option Op := s.ledger.ops.find? (fun o => o.origin == .direct p)

def State.opOfRef (s : State) : OpRef → Option Op
  | .slot k => s.opOfSlot k
  | .direct p => s.opOfDirect p

def State.modOp (s : State) (id : Nat) (f : Op → Op) : State :=
  s.modLedger (fun l => { l with ops := l.ops.map (fun o => if o.id == id then f o else o) })

def State.dropOp (s : State) (id : Nat) : State :=
  s.modLedger (fun l => { l with ops := l.ops.filter (fun o => o.id != id) })

/-- The bank of an operation for trace entries and dispatch: none for windows, and for ledger-only opcodes. A KILN,
REPOINT, SUSPEND or RESUME names its bank in ADDRESS[30:25]. -/
def Op.bankOf (o : Op) : Option BankId :=
  if o.isDirect then bankOfAddr o.addr
  else if ledgerOnly o.opcode then none
  else bankOfAddr o.addr

/-- The trace BANK field of an operation: 0 when none. -/
def Op.traceBank (o : Op) : Nat := match o.bankOf with
  | some b => b.val
  | none => 0

def State.traceOp (s : State) (action : Byte) (o : Op) (arg : BitVec 16) : State :=
  s.addTrace action o.slot o.traceBank arg

/-- Slots of a subscriber in states 1 to 5, and of all (R213). -/
def State.held (s : State) (i : SubId) : Nat :=
  (s.ledger.ops.filter (fun o => !o.isDirect && o.sub == i)).length
def State.heldSlots (s : State) : Nat := (s.ledger.ops.filter (fun o => !o.isDirect)).length

/-- Uncollected records of a port's mask (R216). -/
def State.recordsFor (s : State) (p : PortId) : List Op :=
  s.ledger.ops.filter (fun o => !o.isDirect && o.state == .complete && (s.port p).mask.getLsbD o.sub.val)

def State.attn (s : State) (p : PortId) : Bool := !(s.recordsFor p).isEmpty

/-- COMPL bit of a port (R597). -/
def State.compl (s : State) (p : PortId) : Bool := (s.recordsFor p).any (fun o => !o.flags.getLsbD 1)

/-- DIRECT_BUSY (R181). -/
def State.directBusy (s : State) (p : PortId) : Bool := (s.opOfDirect p).isSome

/-! ### Tokens (R400 to R402) -/

/-- mA held by ports. -/
def State.portTokens (s : State) : Nat := (s.ports.toList.map (·.tokens)).sum

def State.regTokens (s : State) : Nat :=
  (s.banks.toList.map (fun b => match b.clear with | some c => c.tokens | none => 0)).sum

/-- mA held in all. -/
def State.heldTokens (s : State) : Nat :=
  s.portTokens + (s.ledger.ops.map (·.tokens)).sum + s.regTokens

/-- PEAK follows the most tokens held (Table 14.3). -/
def State.notePeak (s : State) : State :=
  if s.power.peak.toNat < s.heldTokens then s.modPower (fun w => { w with peak := BitVec.ofNat 16 s.heldTokens }) else s

def State.tokLay (s : State) : Nat := (s.power.tokens.extractLsb' 0 8).toNat
def State.tokClear (s : State) : Nat := (s.power.tokens.extractLsb' 8 8).toNat
def State.tokKiln (s : State) : Nat := (s.power.tokens.extractLsb' 16 8).toNat
def State.tokPort (s : State) : Nat := (s.power.tokens.extractLsb' 24 8).toNat
def State.tokenWait (s : State) : Nat := (s.power.tokens.extractLsb' 32 20).toNat

/-- The tokens fit the budget on this edge (R401). -/
def State.fits (s : State) (mA : Nat) : Bool := decide (mA + s.heldTokens ≤ s.power.budget.toNat)

def State.grant (s : State) (o : Op) (bank : Nat) (mA : Nat) : State :=
  ((s.modOp o.id (fun x => { x with tokens := mA })).addTrace tGrant o.slot bank (BitVec.ofNat 16 mA)).notePeak

/-- Return what operation `id` took (R402). -/
def State.release (s : State) (id : Nat) (bank : Nat) : State := match s.op? id with
  | some o => (s.modOp id (fun x => { x with tokens := 0 })).addTrace tRelease o.slot bank (BitVec.ofNat 16 o.tokens)
  | none => s

/-- A reservation of operation `id` ends (R405). -/
def State.endReservation (s : State) (id : Nat) : State :=
  if s.power.reserved = some id then s.modPower (fun w => { w with reserved := none }) else s

/-! ### Yard (R256 to R258) -/

def State.yardFree (s : State) : Nat := 256 - s.ledger.yard.length

/-- Yard slots that no operation holds. -/
def State.freeYardSlots (s : State) : List (Fin 256) :=
  (List.finRange 256).filter (fun k => !s.ledger.yard.any (fun e => e.slot == k))

/-- Whether subscriber `i` may take a yard slot (R258). -/
def State.yardOpen (s : State) (i : SubId) : Bool :=
  if i = 31 then decide (0 < s.yardFree) else decide (4 < s.yardFree)

/-- Take a free yard slot, one of several equally permitted, and fill it: a STAGE entry (Table 01.6).
Log entry 29 (DEDUCED). -/
def State.takeYard (s : State) (owner : Nat) (slot : Option (Fin 256)) (bank : Nat) (data : List Word) :
    State × Option (Fin 256) :=
  match s.pick s.freeYardSlots with
  | none => (s, none)
  | some k =>
    let s1 := s.useFree.modLedger (fun l => { l with yard := { slot := k, owner := owner, data := data } :: l.yard })
    (if data.isEmpty then s1 else s1.addTrace tStage slot bank (BitVec.ofNat 16 k.val), some k)

/-- Free the yard slots of an operation. -/
def State.freeYard (s : State) (owner : Nat) : State :=
  s.modLedger (fun l => { l with yard := l.yard.filter (fun e => e.owner != owner) })

/-- The yard slot of a HAUL's chunk in progress. -/
def Op.chunkSlot (o : Op) : Option (Fin 256) := if o.opcode = opHaul then o.stage else none

/-- Yard slot of the data that an operation stages now: of a HAUL's chunk, else the one taken at admission. -/
def Op.stageSlot (o : Op) : Option (Fin 256) := match o.chunkSlot with
  | some k => some k
  | none => o.yard

/-- Fill an operation's yard slots with data, of a HAUL that of its chunk: a STAGE entry (Table 01.6).
Log entry 29 (DEDUCED). -/
def State.fillYard (s : State) (o : Op) (data : List Word) : State :=
  let s1 := s.modLedger (fun l => { l with yard := l.yard.map (fun e =>
    if e.owner == o.id && (o.chunkSlot.isNone || o.chunkSlot == some e.slot) then { e with data := data } else e) })
  match o.stageSlot with
  | some k => s1.traceOp tStage o (BitVec.ofNat 16 k.val)
  | none => s1

/-- Drain an operation's yard slot: a STAGE entry (Table 01.6).
Log entry 29 (DEDUCED). -/
def State.drainYard (s : State) (o : Op) : State := match o.stageSlot with
  | some k => s.traceOp tStage o (BitVec.ofNat 16 k.val)
  | none => s

/-- Operation `y` was committed earlier than `x`. Names follow the order of commits; one in ADMITTING is yet to commit. -/
def Op.before (y x : Op) : Bool := y.state != .admitting && (x.state == .admitting || decide (y.id < x.id))

/-! ### Events and waits (R235 to R237) -/

def State.eventSet (s : State) (e : Byte) : Bool := decide (e.toNat < 64) && s.ledger.events.getLsbD e.toNat

/-- Waits latch on the events as they stand (R235).
Log entry 41 (DEDUCED). -/
def State.latchWaits (s : State) : State :=
  s.modLedger (fun l => { l with ops := l.ops.map (fun o =>
    if (o.state == .queued || o.state == .admitting) && s.eventSet o.wait then { o with latched := true } else o) })

def State.raiseEvent (s : State) (e : Byte) : State :=
  if e.toNat < 64 then s.modLedger (fun l => { l with events := l.events ||| (1 <<< e.toNat) }) else s

/-! ### Progress (R243 to R245, Table 06.4) -/

def percent (done total : Nat) : BitVec 16 := if total = 0 then 0 else BitVec.ofNat 16 (min 10000 (10000 * done / total))

def positionWord (n : Nat) : BitVec 16 := 0x8000 ||| BitVec.ofNat 16 (min n 0x7FFF)

/-- Firing time elapsed and firing length of a KILN, in ps (R361). -/
def State.firingProgress (s : State) (o : Op) : Nat × Nat :=
  let ended := (o.index, if 350000000000 < o.index then 600000000000 else 350000000000)
  match o.bankOf.bind (fun b => (s.bank b).clear) with
  | some c => if c.op == o.id && c.purpose == .firing then
      (if c.stage = 0 then (c.fireTime, 350000000000) else (350000000000 + c.fireTime, 600000000000))
    else ended
  | none => ended

/-- Target stones of a lay verified so far. -/
def LayRun.units (l : LayRun) : Nat := ((List.range l.targets.length).filter (fun i => l.verified.getLsbD i)).length

/-- Units that an operation has done so far (Table 06.4, Table 06.13): the stones that a running lay has laid count before it
ends. -/
def State.unitsNow (s : State) (o : Op) : Nat :=
  o.units.toNat + (match (s.banks.toList.filterMap Bank.lay).find? (fun l => l.op == o.id && !l.copy) with
    | some l => l.units
    | none => 0)

def State.progressOf (s : State) (o : Op) (completing : Bool) : BitVec 16 :=
  let pos := o.flags.getLsbD 0
  let n := s.unitsNow o
  let c := o.count.toNat
  if o.opcode = opFetch ∨ o.opcode = opLay ∨ o.opcode = opHaul ∨ o.opcode = opRepoint then
    if pos then positionWord n else percent n c
  else if o.opcode = opClear ∨ o.opcode = opClearFoot then
    if pos then positionWord o.position else percent n c
  else if o.opcode = opKiln then percent (s.firingProgress o).1 (s.firingProgress o).2
  else if o.opcode = opRegress then percent s.life.cleared.toNat s.life.toclear.toNat
  else if completing then 10000 else 0

/-- The progress word of a slot in any state. -/
def State.progressNow (s : State) (o : Op) : BitVec 16 :=
  match o.state with
  | .complete => o.progress
  | .queued => if o.flags.getLsbD 0 && (o.opcode == opFetch || o.opcode == opLay || o.opcode == opHaul
      || o.opcode == opRepoint || o.opcode == opClear || o.opcode == opClearFoot) then 0x8000 else 0
  | _ => s.progressOf o false

/-! ### Completion (R208, R183, R219, R236, R257) -/

/-- Some port has bit 31 in its mask. -/
def State.houseCollected (s : State) : Bool := s.ports.toList.any (fun p => p.mask.getLsbD 31)

/-- Post a direct operation's result (R183).
Log entry 68 (DEDUCED). -/
def State.postDirect (s : State) (p : PortId) (o : Op) (result : Byte) : State :=
  ((s.modPort p (fun x => { x with result := result, units := BitVec.ofNat 16 o.units.toNat })).modGlob
    (fun g => { g with direct := g.direct ||| (1 <<< p.val), freshDirect := g.freshDirect ||| (1 <<< p.val) })).dropOp o.id

/-- Enter an operation's result in its subscriber's deduplication memory (R227). -/
def State.dedupResult (s : State) (o : Op) (result : Byte) : State :=
  s.modSub o.sub (fun u => { u with dedup := u.dedup.map (fun d => if d.op == o.id then { d with result := some result } else d) })

/-- The operation leaves a record in its slot; a house record that no port can collect is freed at once (R219). -/
def State.leaveRecord (s : State) (o : Op) (result : Byte) : State :=
  let s1 := s.dedupResult o result
  if o.house && !s.houseCollected then (s1.freeYard o.id).dropOp o.id
  else (s1.modOp o.id (fun x => { x with
      state := .complete, result := result, progress := s.progressOf o true, stamp := s.stamp,
      completed := s.ledger.nextDone, age := 0, tokens := 0 })).modLedger
      (fun l => { l with nextDone := l.nextDone + 1 })

/-- Operation `id` completes with `result`: COMPLETE entry, record or direct result, yard slot, events, waits. A yard
slot taken for a ledger FETCH stays with its record (R257) unless the FETCH was cancelled before it ran (R247).
Log entry 41 (DEDUCED). -/
def State.completeWith (latch : Bool) (s : State) (id : Nat) (result : Byte) : State := match s.op? id with
  | none => s
  | some o =>
    let s1 := (s.traceOp tComplete o ((0 : BitVec 8) ++ result)).endReservation id
    let s2 := if o.opcode == opFetch && !o.isDirect && o.state != .queued then s1 else s1.freeYard id
    let s3 := match o.origin with
      | .direct p => s2.postDirect p o result
      | .ledger _ => s2.leaveRecord o result
    let s4 := if o.isDirect then s3 else s3.raiseEvent o.signal
    if latch then s4.latchWaits else s4

/-- Completion in step 3 of an edge: events are set, then waits latch (R237).
Log entry 41 (DEDUCED). -/
def State.complete (s : State) (id : Nat) (result : Byte) : State := State.completeWith true s id result

/-! ### Plinth writes (R559, R469) -/

/-- Mark the first copy of the record at the head of the queue as being written. -/
def Copies.begin1 {α : Type} (c : Copies α) : Copies α := { c with v1 := false }

def Copies.write1 {α : Type} (c : Copies α) (a : α) : Copies α := { c with c1 := a, v1 := true, v2 := false }

def Copies.write2 {α : Type} (c : Copies α) (a : α) : Copies α := { c with c2 := a, v2 := true }

def Copies.newest {α : Type} (c : Copies α) : Option (α × Bool) :=
  if c.v1 then some (c.c1, false) else if c.v2 then some (c.c2, true) else none

def sameWear (w : WearRec) (c : Copies WearRec) : Bool := c.c1.bank == w.bank && c.c1.slot == w.slot

/-- Apply a change to the two copies of the record a write names. -/
def Plinth.onCopies (p : Plinth) (d : PlinthData) (f : {α : Type} → Copies α → α → Copies α) : Plinth := match d with
  | .config c => { p with config := f p.config c }
  | .image g i => { p with images := p.images.set g.val (f p.images[g.val] i) }
  | .bank b r => { p with banks := p.banks.set b.val (f p.banks[b.val] r) }
  | .wear w =>
    if p.wear.any (sameWear w) then { p with wear := p.wear.map (fun c => if sameWear w c then f c w else c) }
    else { p with wear := f { c1 := { w with clears := 0, firings := 0 }, v1 := true,
                              c2 := { w with clears := 0, firings := 0 }, v2 := true } w :: p.wear }

/-- Start the write at the head of the queue: its first copy is being written.
Log entry 47 (DEDUCED). -/
def Plinth.startHead (p : Plinth) : Plinth := match p.queue with
  | d :: _ => { p.onCopies d (fun c _ => c.begin1) with second := false, begun := true }
  | [] => p

/-- The write at the head of the queue begins where it may: one that waits in the queue begins only while WP# is high
(R469).
Log entry 47 (DEDUCED). -/
def Plinth.goOn (p : Plinth) (wp : Bool) : Plinth := if p.begun || !wp then p else p.startHead

/-- A plinth write is made (only while WP# is high, R469; the callers test it).
Log entry 47 (DEDUCED). -/
def Plinth.enqueue (p : Plinth) (d : PlinthData) : Plinth := ({ p with queue := p.queue ++ [d] } : Plinth).goOn true

def State.plinthWrite (s : State) (d : PlinthData) : State := s.modPlinth (fun p => p.enqueue d)

/-- The configuration record as the registers stand. -/
def State.configNow (s : State) : CfgRec :=
  { priv := s.life.priv, lock := s.life.lock, hide := s.life.hide, mapmode := s.glob.mapmode,
    booten := (allPorts.foldl (fun (a : BitVec 8) p => if (s.port p).booten then a ||| (1 <<< p.val) else a) 0) }

def State.writeConfig (s : State) : State := s.plinthWrite (.config s.configNow)

/-- A bank's record to the plinth. The mark array has none. -/
def State.writeBankRec (s : State) (b : BankId) : State :=
  if h : b.val < 64 then s.plinthWrite (.bank ⟨b.val, h⟩ (s.bank b).kept) else s

/-! ### Blank stones (R301, R303, R629) -/

/-- The blank check passes a stone whose cells all read 1 and that no lay has left partly pulsed. -/
def State.blankStone (s : State) (n : Nat) : Bool := readCells s.mem n == cellsBlank && !s.touched.contains n

/-- A lay has pulsed a stone and left it short of verified. -/
def State.touch (s : State) (n : Nat) : State :=
  { s with touched := if s.touched.contains n then s.touched else n :: s.touched }

/-- Every cell of the stones from `lo` up to, not including, `hi` has verified blank. -/
def State.blankOut (s : State) (lo hi : Nat) : State :=
  { s with mem := blankStones s.mem lo hi, touched := s.touched.filter (fun n => !(decide (lo ≤ n) && decide (n < hi))) }

/-! ### Wear counts (R337 to R339, R378) -/

/-- Key of a unit in the wear counts: the slot, or 1000 + footing sector. -/
def UnitRef.wearKey : UnitRef → Option Nat
  | .block k => some k
  | .sector _ k => some (1000 + k)
  | .page _ => none

/-- Counts in the plinth: clears, firings, and whether the second copy or none was valid (Table 15.5). -/
def State.plinthWear (s : State) (b : BankId) (key : Nat) : Nat × Nat × Bool :=
  match s.plinth.wear.find? (fun c => c.c1.bank.val == b.val && c.c1.slot == key) with
  | none => (0, 0, false)
  | some c => match c.newest with
    | some (w, second) => (w.clears, w.firings, second)
    | none => (s.upkeep.kilnAt.toNat, 0, true)

/-- Counts the FY16 keeps (R378): those used since boot, else the plinth's.
Log entry 58 (DEDUCED). -/
def State.wearOf (s : State) (b : BankId) (key : Nat) : Nat × Nat :=
  match (s.bank b).wear.find? (fun e => e.1 == key) with
  | some e => e.2
  | none => ((s.plinthWear b key).1, (s.plinthWear b key).2.1)

/-- Set counts, on first use noting COPY2 (Table 15.5), and write them to the plinth unless WP# is low (R339). -/
def State.setWear (s : State) (b : BankId) (key clears firings : Nat) : State :=
  let first := ((s.bank b).wear.find? (fun e => e.1 == key)).isNone
  let s1 := if first && (s.plinthWear b key).2.2 then s.modBoot (fun x => { x with copy2 := true }) else s
  let s2 := s1.modBank b (fun x => { x with wear := (key, clears, firings) :: x.wear.filter (fun e => e.1 != key) })
  if h : b.val < 64 then
    if s.pins.wp then s2.plinthWrite (.wear { bank := ⟨b.val, h⟩, slot := key, clears := clears, firings := firings }) else s2
  else s2

/-- One clear is added to a unit's count (R337); a slot that reaches 24,000 sets OVERDUE and the bank-worn cause (R364). -/
def State.addClear (s : State) (b : BankId) (u : UnitRef) : State := match u.wearKey with
  | none => s
  | some key =>
    let w := s.wearOf b key
    let s1 := s.setWear b key (w.1 + 1) w.2
    if key < 1000 ∧ w.1 + 1 = 24000 then (s1.modBank b (fun x => { x with overdue := true })).cause cWorn else s1

/-! ### Slots (R278, R279, R289, R335, R358) -/

/-- WORN is looked at again: entering it sets the cause (R335). -/
def State.noteWorn (s : State) (b : BankId) : State :=
  let w := decide ((s.bank b).kept.reserveCount b < 4)
  let s1 := s.modBank b (fun x => { x with worn := w })
  if w && !(s.bank b).worn then s1.cause cWorn else s1

/-- The lowest-numbered RESERVE slot that no move has taken as its destination (R331, R353, Table 09.2).
Log entry 16 (DEDUCED); log entry 69 (DEDUCED). -/
def State.spareSlot (s : State) (b : BankId) : Option Nat :=
  ((s.bank b).kept.slotsIn b .reserve).find? (fun k => !(s.bank b).moving.any (fun m => m.dst == k))

/-- A bank without a gap takes the lowest RESERVE slot as its gap; without one NOGAP is set (R358).
Log entry 27 (DEDUCED). -/
def State.refillGap (s : State) (b : BankId) : State :=
  match (s.bank b).kept.gap with
  | some _ => s.modBank b (fun x => { x with nogap := false })
  | none => match s.spareSlot b with
    | some k => s.modBank b (fun x => { x with kept := { (x.kept.setSlot b k .gap) with gap := some k }, nogap := false })
    | none => s.modBank b (fun x => { x with nogap := true })

/-- What follows every change of a bank's slots: the gap, WORN, the plinth record. -/
def State.settleSlots (s : State) (b : BankId) : State := ((s.refillGap b).noteWorn b).writeBankRec b

/-- Change a bank's kept record and settle it. -/
def State.modKept (s : State) (b : BankId) (f : BankRec → BankRec) : State :=
  (s.modBank b (fun x => { x with kept := f x.kept })).settleSlots b

/-- A slot taken from the gap leaves the bank without one until R358 acts. -/
def BankRec.dropGap (r : BankRec) (k : Nat) : BankRec := if r.gap = some k then { r with gap := none } else r

/-- Append a grown entry, or set OVERFLOW (R289). -/
def Bbt.grow (t : Bbt) (cause : BitVec 4) (stamp : BitVec 32) (slot : Nat) : Bbt :=
  if t.grown.length < 31 then { t with grown := t.grown ++ [(cause, stamp, BitVec.ofNat 10 slot)] }
  else { t with overflow := true }

def retLayFail : BitVec 4 := 1
def retClearFail : BitVec 4 := 2
def retRepoint : BitVec 4 := 3
def retKiln : BitVec 4 := 4

/-- A slot is retired (R289). -/
def BankRec.retire (r : BankRec) (b : BankId) (k : Nat) (cause : BitVec 4) (stamp : BitVec 32) : BankRec :=
  { ((r.dropGap k).setSlot b k .grownBad) with bbt := r.bbt.grow cause stamp k }

/-- Tidy list of a bank (R568). -/
def BankRec.tidyAdd (r : BankRec) (k : Nat) : BankRec := if r.tidy.contains k then r else { r with tidy := r.tidy ++ [k] }
/-- Log entry 31 (DEDUCED). -/
def BankRec.tidyDrop (r : BankRec) (k : Nat) : BankRec := { r with tidy := r.tidy.filter (· != k) }

/-! ### Gates (11) -/

/-- One violation to be recorded (R432). -/
structure Violation where
  gate    : GateId
  sub     : SubId
  port    : PortId
  direct  : Bool
  write   : Bool
  cause   : BitVec 3
  region  : BitVec 3
  slot    : Option (Fin 256)
  opcode  : Byte
  addr    : BitVec 32
  deriving DecidableEq, Repr

def regEn (r : Word) : Bool := r.getLsbD 0
def regSize (r : Word) : Nat := (r.extractLsb' 7 5).toNat
def regBase (r : Word) : Nat := (r.extractLsb' 12 20).toNat * 4096

/-- Region `r` matches an address: a[31:SIZE] = BASE[31:SIZE] (R417). -/
def regMatches (r : Word) (a : BitVec 32) : Bool := regEn r && decide (a.toNat / 2 ^ regSize r = regBase r / 2 ^ regSize r)

/-- The matching region, of which there is at most one in an enabled gate (R417). -/
def Gate.matching (g : Gate) (a : BitVec 32) : Option (Fin 8) :=
  (List.finRange 8).find? (fun i => regMatches g.regions[i.val] a)

/-- The decision of R417 for an enabled gate: `none` permits, `some (cause, region)` refuses. -/
def Gate.decide (g : Gate) (priv isOpen : Bool) (sub : SubId) (write : Bool) (a : BitVec 32) :
    Option (BitVec 3 × BitVec 3) :=
  match g.matching a with
  | some i =>
    let r := g.regions[i.val]
    let bit := if priv then (if write then r.getLsbD 2 else r.getLsbD 1) else (if write then r.getLsbD 4 else r.getLsbD 3)
    if r.getLsbD (32 + sub.val) && bit then none else some (0, BitVec.ofNat 3 i.val)
  | none =>
    if g.strict then some (2, 0)
    else if !priv then some (1, 0)
    else if isOpen || !write then none
    else some (3, 0)

/-- The decision of a gate on an address for a subscriber, as privilege and level stand (R419). -/
def State.gateAsk (s : State) (g : GateId) (sub : SubId) (write : Bool) (a : BitVec 32) : Option (BitVec 3 × BitVec 3) :=
  (s.gate g).decide (s.privileged sub) s.isOpen sub write a

def violWord (s : State) (v : Violation) : Word :=
  (1 : BitVec 1) ++ BitVec.ofNat 7 v.gate.val ++ BitVec.ofNat 5 v.sub.val ++ BitVec.ofNat 3 v.port.val
    ++ BitVec.ofBool v.direct ++ (0 : BitVec 1) ++ BitVec.ofBool v.write ++ v.cause ++ v.region ++ (0 : BitVec 7)
    ++ (match v.slot with | some k => BitVec.ofNat 8 k.val | none => (0xFF : BitVec 8)) ++ v.opcode
    ++ (s.gate v.gate).epoch.extractLsb' 0 16

/-- Place of a recorded violation in the order of R434: gate, then direct commands by port, then ledger slots. -/
def violRank (w : Word) : Nat :=
  (w.extractLsb' 56 7).toNat * 1024
    + (if w.getLsbD 47 then (w.extractLsb' 48 3).toNat else 512 + (w.extractLsb' 24 8).toNat)

/-- A gate refuses a stone, a granule or a KILN (R432). Of several violations of one pace edge the first in the order of R434
is recorded, and the others are lost.
Log entry 68 (DEDUCED). -/
def State.violate (s : State) (v : Violation) : State :=
  let s1 := s.modGate v.gate (fun g => { g with denies := g.denies + 1 })
  let w := violWord s v
  if s.glob.violInfo.getLsbD 63 then
    s1.modGlob (fun g =>
      if g.violFresh ∧ violRank w < violRank g.violInfo then
        { g with violInfo := w, violAddr := s.stamp ++ v.addr, violLost := g.violLost + 1 }
      else { g with violLost := g.violLost + 1 })
  else (s1.modGlob (fun g => { g with violInfo := w, violAddr := s.stamp ++ v.addr, violFresh := true })).cause cViol

/-- Every enabled gate's epoch rises (R431).
Log entry 22 (DEDUCED). -/
def State.bumpEpochs (s : State) : State :=
  { s with gates := s.gates.map (fun g => if g.en then { g with epoch := g.epoch + 1 } else g) }

/-- A region is well formed for gate `g` (R415). -/
def regWellFormed (g : GateId) (r : Word) : Bool :=
  let z := regSize r
  let base := regBase r
  let lo := if g.val < 64 then g.val * 0x2000000 else if g.val = 64 then 0x80000000 else 0xA0000000
  let len := if g.val < 64 then 0x2000000 else 0x20000000
  decide (12 ≤ z) && decide (z ≤ (if g.val < 64 then 25 else 29)) && decide (base % 2 ^ z = 0)
    && decide (lo ≤ base) && decide (base + 2 ^ z ≤ lo + len)

/-- Two well-formed regions overlap when the base of the smaller lies in the larger (R416). -/
def regOverlap (r q : Word) : Bool :=
  let z := max (regSize r) (regSize q)
  decide (regBase r / 2 ^ z = regBase q / 2 ^ z)

/-- Pairs of region numbers, lower first, in the order of R427. -/
def regPairs : List (Fin 8 × Fin 8) :=
  (List.finRange 8).flatMap (fun i => ((List.finRange 8).filter (fun j => decide (i.val < j.val))).map (fun j => (i, j)))

/-- The first fault of the enable check: kind and regions (R427). -/
def Gate.firstFault (gi : GateId) (g : Gate) : Option (BitVec 2 × BitVec 3 × BitVec 3) :=
  match (List.finRange 8).find? (fun i => regEn g.regions[i.val] && !regWellFormed gi g.regions[i.val]) with
  | some i => some (1, BitVec.ofNat 3 i.val, BitVec.ofNat 3 i.val)
  | none => match regPairs.find? (fun p => regEn g.regions[p.1.val] && regEn g.regions[p.2.val]
      && regOverlap g.regions[p.1.val] g.regions[p.2.val]) with
    | some p => some (2, BitVec.ofNat 3 p.1.val, BitVec.ofNat 3 p.2.val)
    | none => none

/-- The enable check and what it sets (R426, R427). -/
def State.enableGate (s : State) (gi : GateId) : State := match (s.gate gi).firstFault gi with
  | none => s.modGate gi (fun g => { g with en := true, epoch := g.epoch + 1, fault := 0 })
  | some (k, a, b) => (s.modGate gi (fun g => { g with fault := k, faulta := a, faultb := b })).cause cGate

/-! ### Meters (R381, R384 to R389) -/

def State.costFetch (s : State) : Nat := (s.power.cost0.extractLsb' 0 16).toNat
def State.costLay (s : State) : Nat := (s.power.cost0.extractLsb' 16 16).toNat
def State.costClear (s : State) : Nat := (s.power.cost0.extractLsb' 32 32).toNat
def State.costClearFoot (s : State) : Nat := (s.power.cost1.extractLsb' 0 32).toNat
def State.costKiln (s : State) : Nat := (s.power.cost1.extractLsb' 32 32).toNat

/-- The admission charge of Table 10.1. A direct CLEAR FOOTING counts one sector. -/
def State.chargeOf (s : State) (op : Byte) (count : Nat) : Nat :=
  if op = opFetch then count * s.costFetch
  else if op = opLay then count * s.costLay
  else if op = opClear then count * s.costClear
  else if op = opClearFoot then count * s.costClearFoot
  else if op = opHaul then count * (s.costFetch + s.costLay)
  else if op = opKiln then s.costKiln
  else if op = opRepoint then count * (8192 * s.costFetch + 8192 * s.costLay + s.costClear)
  else 0

/-- One meter's colour for charge `b` (R385): red is `none`. -/
def Sub.colourOf (u : Sub) (b : Nat) : Option Colour :=
  if u.tp < b * 65536 then none else if u.tc < b * 65536 then some .yellow else some .green

/-- The meter after colouring (R385, R389). -/
def Sub.charged (u : Sub) (b : Nat) : Sub := match u.colourOf b with
  | none => { u with reds := u.reds + 1 }
  | some .yellow => { u with tp := u.tp - b * 65536, yellows := u.yellows + 1 }
  | some _ => { u with tp := u.tp - b * 65536, tc := u.tc - b * 65536, greens := u.greens + 1 }

/-- R386: the charge is added back, each bucket capped at its burst; the counts of R389 stay. -/
def Sub.refund (u : Sub) (c : Colour) (b : Nat) : Sub := match c with
  | .green => { u with tp := min (u.pbs.toNat * 65536) (u.tp + b * 65536), tc := min (u.cbs.toNat * 65536) (u.tc + b * 65536) }
  | .yellow => { u with tp := min (u.pbs.toNat * 65536) (u.tp + b * 65536) }
  | .none => u

/-- Refill by the tick boundaries crossed (R384). -/
def Sub.refill (u : Sub) (crossed : Nat) : Sub :=
  { u with tc := min (u.cbs.toNat * 65536) (u.tc + crossed * u.cir.toNat),
           tp := min (u.pbs.toNat * 65536) (u.tp + crossed * u.pir.toNat) }

end Sys2Proof.Machine
end

