-- ==== Sys2Proof/Machine/Wire.lean ====
section
/-! DEFINITION. What the transactions of a host port have in common (03, 04, 05): when a command is received, the
command phase, silence, drift, trial, the reply, and the progress record. -/
namespace Sys2Proof.Machine

/-! ### The mode a port transfers in -/

/-- The mode code of this transaction: the trial mode on trial (R129), else the mode in force. -/
def Port.txMode (p : Port) : BitVec 4 := if p.trial then p.trialMode else p.mode

def Port.strobed (p : Port) : Bool := p.txMode.getLsbD 3
def Port.ddr (p : Port) : Bool := p.txMode.getLsbD 2

/-- Lanes in use. -/
def modeLanes (m : BitVec 4) : Nat := 2 ^ (m.extractLsb' 0 2).toNat

/-- Bits per SCK cycle (Table 03.2). -/
def modeBits (m : BitVec 4) : Nat := if m.getLsbD 2 then 2 * modeLanes m else modeLanes m

/-- One lane in and one lane out: the "1S" of R186 and R197, with or without strobe. -/
def Port.oneLane (p : Port) : Bool := p.txMode.extractLsb' 0 3 == 0

/-! ### Drift tracking (R143 to R147) -/

def tapOf (taps : BitVec 40) (lane : Nat) : Nat := (taps.extractLsb' (5 * lane) 5).toNat

def setTap (taps : BitVec 40) (lane v : Nat) : BitVec 40 :=
  (taps &&& ~~~ ((0x1F : BitVec 40) <<< (5 * lane))) ||| (BitVec.ofNat 40 v <<< (5 * lane))

/-- The taps that the port samples with: those of the trial while one runs (R136), HnTAPS otherwise. -/
def Port.liveTaps (p : Port) : BitVec 40 := if p.trial then p.trialTaps else p.taps

/-- A move of a lane's tap. During a trial HnTAPS keeps its values (R139). -/
def Port.moveTap (p : Port) (k v : Nat) : Port :=
  if p.trial then { p with trialTaps := setTap p.trialTaps k v } else { p with taps := setTap p.taps k v }

/-- Move lane `k` by one if its count has reached +8 or −8 (R146, R147). -/
def Port.driftMove (p : Port) (k : Fin 8) : Port :=
  let c := p.drift[k.val].toInt
  let t := tapOf p.liveTaps k.val
  let q := { p with drift := p.drift.set k.val 0 }
  if c = 8 then (if t < 31 then q.moveTap k.val (t + 1) else { q with edge := q.edge ||| (1 <<< k.val) })
  else if c = -8 then (if 0 < t then q.moveTap k.val (t - 1) else { q with edge := q.edge ||| (1 <<< k.val) })
  else p

/-- One transfer that differs from the lane's previous one (R144). A lane at tap 0 has no early sampler, one at tap 31
no late sampler.
Log entry 51 (DEDUCED). -/
def Port.driftStep (p : Port) (d : DriftSample) : Port :=
  let t := tapOf p.liveTaps d.lane.val
  let up : BitVec 8 := if d.early && decide (0 < t) then 1 else 0
  let down : BitVec 8 := if d.late && decide (t < 31) then 1 else 0
  Port.driftMove { p with drift := p.drift.set d.lane.val (p.drift[d.lane.val] + up - down) } d.lane

/-- Drift tracking of one transaction (R143, R145).
Log entry 51 (DEDUCED). -/
def Port.track (p : Port) (l : List DriftSample) : Port :=
  if p.plain || p.freeze || p.override then p else l.foldl Port.driftStep p

/-! ### Silence (R148, R149) -/

/-- A transaction that ends without a valid command phase. SILENT stays at 255, which only a SILENCE_LIMIT of 0 lets it
reach.
Log entry 72 (DESIGN CHOICE). -/
def Port.fail (p : Port) : Port :=
  if p.plain || p.trial then p else { p with silent := if p.silent.toNat < 255 then p.silent + 1 else p.silent }

/-- SILENT has reached its limit (R149).
Log entry 59 (DEDUCED). -/
def Port.tooSilent (p : Port) : Bool := decide (0 < p.silenceLimit.toNat ∧ p.silenceLimit.toNat ≤ p.silent.toNat)

/-! ### Replies -/

def State.queueRise (s : State) (p : PortId) (a : RiseAct) : State :=
  s.modPort p (fun x => { x with atRise := x.atRise ++ [a] })

/-- The supply group of a port is at 1.7 V or more: below that the FY16 drives none of its outputs (R526). VCCQ0 serves H0
and H1, and so on.
Log entry 53 (DEDUCED). -/
def State.drives (s : State) (p : PortId) : Bool := s.pins.supply.getLsbD (p.val / 2)

/-- The reply of a transaction: the status byte of a condition, the data decided so far and what follows it. CRCX counts
in CRCERRS (Table 03.12).
Log entry 53 (DEDUCED). -/
def State.replyWith (s : State) (p : PortId) (c : Cond) (data : List Byte) (feed : Feed) : State :=
  s.modPort p (fun x => { x with
    reply := if s.drives p then
        { silent := false, status := statusByte c (s.attn p) s.bootBit, data := data, feed := feed, bits := 0, shown := [] } else Reply.none,
    crcerrs := if c == .crcx then x.crcerrs + 1 else x.crcerrs })

/-- The status byte and data, then 1s (R99). -/
def State.answer (s : State) (p : PortId) (c : Cond) (data : List Byte) : State := s.replyWith p c data .ones

/-- Drive nothing for the rest of the transaction. -/
def State.hush (s : State) (p : PortId) : State := s.modPort p (fun x => { x with reply := Reply.none })

/-- Drive nothing, counted as a silent failure of R82, R186 or R197. -/
def State.hushBad (s : State) (p : PortId) : State :=
  (s.hush p).modPort p (fun x => { x with crcerrs := x.crcerrs + 1 })

/-! ### The command phase -/

/-- A command on port `p` is received: CS# is low and counts (R556), the port is not in a chain frame (R158), no opcode
has been decoded since CS# fell, and some port paces the FY16 (R28).
Log entry 66 (DEDUCED). -/
def State.hears (s : State) (p : PortId) : Bool :=
  (s.port p).low && !(s.port p).chainFrame && (s.port p).txOp.isNone && s.pace.holder.isSome

/-- Opcodes of Table 05.1. -/
def knownOpcode (op : Byte) : Bool :=
  [0x5A, 0xE1, 0x0C, 0x1B, 0x2A, 0x2C, 0x3C, 0x3E, 0x44, 0x45, 0x60, 0x61, 0x70, 0x7E, 0x7C, 0xB0, 0x8D, 0xF0].any
    (fun (k : Byte) => k == op)

/-- The command phase of opcode `op` is complete on a port: LASTOP, drift (R145), SILENT (R148), and what ends the
transaction here: a complement mismatch (R82) or an unknown opcode (R90). The flag says whether it goes on. A mismatch is a
completed command phase like any other, and leaves no trace entry, whatever the opcode was.
Log entry 73 (DEDUCED). -/
def State.commandPhase (s : State) (p : PortId) (op : Byte) (compl : Bool) (drift : List DriftSample) : State × Bool :=
  let s1 := s.modPort p (fun x => Port.track { x with txOp := some op, lastop := op } drift)
  if (s.port p).ddr && !compl then ((s1.hushBad p).modPort p Port.fail, false)
  else if !knownOpcode op then ((s1.hush p).modPort p (fun x => Port.fail { x with badop := true }), false)
  else (s1.modPort p (fun x => { x with silent := 0 }), true)

/-- What a transaction that R129 does not accept leaves for its rise: the trial ends as abandoned (R130). -/
def State.abandon (s : State) (p : PortId) : State := s.queueRise p (.trialEnd 6)

/-- A transaction's command phase, and whether the command goes on to its own checks. `inTrial` holds for TRAIN, which
sees to R129 itself.
Log entry 1 (DESIGN CHOICE); log entry 45 (DEDUCED); log entry 56 (DEDUCED). -/
def State.begin (s : State) (tx : Tx) (op : Byte) (inTrial : Bool) : State × Bool :=
  let p := tx.port
  if !s.hears p then (s, false)
  else
    let s0 := s.modPort p (fun x => { x with cycle := tx.waited, cell := none, level := 0xFF })
    match s0.commandPhase p op tx.compl tx.drift with
    | (s1, false) => (if (s.port p).trial then s1.abandon p else s1, false)
    | (s1, true) =>
      if (s.port p).trial && !inTrial then ((s1.answer p .notReady []).abandon p, false) else (s1, true)

/-- The decision comes before the status byte begins: with strobe always (R103), without strobe in the wait phase (R94).
Log entry 12 (DEDUCED). -/
def State.inTime (s : State) (tx : Tx) : Bool :=
  (s.port tx.port).strobed || decide (tx.waited ≤ (s.port tx.port).waitsNow.toNat)

/-- The status byte of a command that was not carried out in time: RDY at 0 and no other condition (R94, R201). Its bits
have gone out since the wait phase ended.
Log entry 12 (DEDUCED). -/
def State.tooLate (s : State) (tx : Tx) : State :=
  (s.answer tx.port .notReady []).modPort tx.port (fun x => { x with
    reply := { x.reply with bits := (tx.waited - x.waitsNow.toNat) * modeBits x.txMode } })

/-- A command whose reply is ready at its decision (R92, R122, R582).
Log entry 12 (DEDUCED). -/
def State.run2 (s : State) (tx : Tx) (op : Byte) (inTrial : Bool) (body : State → State) : State :=
  match s.begin tx op inTrial with
  | (s1, false) => s1
  | (s1, true) => if s1.inTime tx then body s1 else s1.tooLate tx

/-! ### Progress record (Table 02.4) -/

/-- A bank has a pulse train running: a lay, clear or firing whose train has started, a mark page's clear in a regression
among them (R453), whose bank stays IDLE. -/
def Bank.pulsing (b : Bank) : Bool :=
  (match b.lay with | some l => l.pulse.isSome || decide (0 < l.pulses) | none => false)
  || (match b.clear with
    | some c => (b.state == .clearing || b.state == .firing || (match c.unit with | .page _ => true | _ => false))
        && (c.pulse.isSome || decide (0 < c.pulses))
    | none => false)

/-- Banks whose Table 08.1 state is not IDLE. A bank that only a ledger FETCH or a REPOINT reads is IDLE and does not count.
Log entry 74 (DEDUCED). -/
def State.busyBanks (s : State) : Nat := (mainBanks.filter (fun b => (s.bank (bankIx b)).state != .idle)).length

/-- FLAGS of a progress record. HOLDER and bits [2:0] tell the holder: under R34 the nominated port from the moment it
takes pace, although the old holder's edges go on (Table 02.1).
Log entry 74 (DEDUCED). -/
def State.progressFlags (s : State) (p : PortId) : Byte :=
  BitVec.ofBool (s.pace.holder == some p) ++ BitVec.ofBool (s.banks.toList.any Bank.pulsing)
    ++ BitVec.ofBool (s.port p).guarded ++ BitVec.ofBool s.ledger.standFlag ++ BitVec.ofBool s.bootBit
    ++ (match s.pace.holder with | some h => BitVec.ofNat 3 h.val | none => (0 : BitVec 3))

def State.progressRecord (s : State) (p : PortId) : List Byte :=
  [s.progressFlags p, BitVec.ofNat 8 s.busyBanks] ++ be16 (BitVec.ofNat 16 (s.recordsFor p).length) ++ be32 s.stamp

/-- A record is being sent on the port: GUARDED starts afresh from the edge that its content was taken on, even if the
record is then cut part-way.
Log entry 74 (DEDUCED). -/
def State.recordSent (s : State) (p : PortId) : State := s.modPort p (fun x => { x with guarded := false })

end Sys2Proof.Machine
end

