-- ==== Sys2Proof/Machine/Partners.lean ====
section
/-! DEFINITION. Annex partners (13): maps, effective size, probe, read modes, exchanges, losses. The bytes that a
partner drives come as an operand, in the order of the exchanges; a byte that is not there reads 0xFF (R472). -/
namespace Sys2Proof.Machine

/-! ### Maps (R480 to R484) -/

/-- A window address lies in a partner's map (R482). -/
def Partner.holds (p : Partner) (a : BitVec 32) : Bool :=
  p.en && decide (a.toNat % 0x20000000 / 2 ^ p.size.toNat = p.base.toNat * 65536 / 2 ^ p.size.toNat)

/-- The partner whose map holds a window address. -/
def Annex.owner (x : Annex) (a : BitVec 32) : Option PartnerId :=
  allPartners.find? (fun p => x.partners[p.val].holds a)

/-- Partner address of a window address (R482). -/
def Partner.addrOf (p : Partner) (a : BitVec 32) : Nat := a.toNat % 2 ^ p.size.toNat

/-- The map check of R481. -/
def Annex.mapCheck (x : Annex) (p : PartnerId) : Bool :=
  let q := x.partners[p.val]
  let z := q.size.toNat
  decide (16 ≤ z ∧ z ≤ 29) && decide (q.base.toNat * 65536 % 2 ^ z = 0)
    && (allPartners.all (fun r => r == p || !x.partners[r.val].en ||
      (let w := max z x.partners[r.val].size.toNat
       decide (q.base.toNat * 65536 / 2 ^ w ≠ x.partners[r.val].base.toNat * 65536 / 2 ^ w))))

/-- End of the partner map that holds a window address, as an offset in the window: the bound of a CLEAR (Table 05.7). -/
def Annex.mapEnd (x : Annex) (a : BitVec 32) : Option Nat :=
  match x.owner a with
  | some p => let z := x.partners[p.val].size.toNat; some ((a.toNat % 0x20000000 / 2 ^ z + 1) * 2 ^ z)
  | none => none

/-- The stone at a window address lies below the effective size (R484). -/
def Partner.inside (p : Partner) (a : BitVec 32) : Bool :=
  p.holds a && decide (p.addrOf a + 8 ≤ 2 ^ p.effsize.toNat)

/-! ### Exchanges -/

/-- The next `n` bytes that a partner drives, 0xFF where it drives none, and the rest.
Log entry 49 (DESIGN CHOICE). -/
def drive (n : Nat) (rx : List Byte) : List Byte × List Byte :=
  (rx.take n ++ List.replicate (n - rx.length) 0xFF, rx.drop n)

def leWord (b : List Byte) : BitVec 32 := (b.getD 3 0) ++ (b.getD 2 0) ++ (b.getD 1 0) ++ (b.getD 0 0)

def beWord64 (b : List Byte) : Word :=
  (b.getD 0 0) ++ (b.getD 1 0) ++ (b.getD 2 0) ++ (b.getD 3 0) ++ (b.getD 4 0) ++ (b.getD 5 0) ++ (b.getD 6 0)
    ++ (b.getD 7 0)

/-- Stones from bytes, most-significant byte first (R266). -/
def stonesOf (n : Nat) (b : List Byte) : List Word := (List.range n).map (fun i => beWord64 (b.drop (8 * i)))

/-- Fields of ANX_CMDSET (Table 13.7). -/
def Annex.rdOp (x : Annex) : Byte := x.cmdset.extractLsb' 56 8
def Annex.rdDummy (x : Annex) : BitVec 5 := x.cmdset.extractLsb' 51 5
def Annex.cmdAddr4 (x : Annex) : Bool := x.cmdset.getLsbD 50
def Annex.cmdPage (x : Annex) : BitVec 4 := x.cmdset.extractLsb' 46 4
def Annex.cmdEraseSz (x : Annex) : BitVec 5 := x.cmdset.extractLsb' 41 5
def Annex.cmdEraseOp (x : Annex) : Byte := x.cmdset.extractLsb' 32 8
def Annex.ppOp (x : Annex) : Byte := x.cmdset.extractLsb' 24 8
def Annex.wrenOp (x : Annex) : Byte := x.cmdset.extractLsb' 16 8
def Annex.rdsrOp (x : Annex) : Byte := x.cmdset.extractLsb' 8 8
def Annex.en4bOp (x : Annex) : Byte := x.cmdset.extractLsb' 0 8
def Annex.progLimit (x : Annex) : Nat := (x.timeout.extractLsb' 0 32).toNat
def Annex.eraseLimit (x : Annex) : Nat := (x.timeout.extractLsb' 32 32).toNat

/-- A select that is released is not sensed for two AnSCK cycles of DIV pace edges (R476, R512). -/
def Annex.release (x : Annex) (p : PartnerId) : Annex := { x with unsensed := x.unsensed.set p.val (2 * x.div.toNat) }

/-- A READ that streams ends: its select is released (R498). -/
def Annex.endRead (x : Annex) : Annex := match x.stream with
  | some (p, _) => { x.release p with stream := none }
  | none => x

/-- An exchange that is over in its step: a READ that streams has ended before it (R497, R498).
Log entry 49 (DESIGN CHOICE). -/
def Annex.exchange (x : Annex) (e : Exchange) : Annex :=
  let y := x.endRead
  { y.release e.partner with sent := y.sent ++ [e] }

def State.send (s : State) (a : AnnexId) (e : Exchange) : State := s.modAnx a (fun x => x.exchange e)

/-- Address bytes of a partner command. -/
def addrBytes (four : Bool) (a : Nat) : List Byte :=
  if four then be32 (BitVec.ofNat 32 a) else (be32 (BitVec.ofNat 32 a)).drop 1

def Partner.addrBytes (p : Partner) (a : Nat) : List Byte := Sys2Proof.Machine.addrBytes p.addr4 a

/-- WREN, RDSR, page program and erase go out in 1-1-1, to a partner in 4-4-4 in that mode (R489): `bytes`, and then `reads`
bytes of the partner. -/
def Partner.command (q : Partner) (p : PartnerId) (bytes : List Byte) (reads : Nat) : Exchange :=
  { partner := p, mode := if q.mode = 3 then 3 else 0, bytes := bytes, clocks := 0, dummy := 0, reads := reads }

/-- An exchange in 1-1-1. -/
def plainExchange (p : PartnerId) (bytes : List Byte) (dummy reads : Nat) : Exchange :=
  { partner := p, mode := 0, bytes := bytes, clocks := 0, dummy := dummy, reads := reads }

/-- The two-cycle exit from 4-4-4: 0xFF on four lanes (R486). -/
def exit444 (p : PartnerId) : Exchange := { partner := p, mode := 3, bytes := [0xFF], clocks := 0, dummy := 0, reads := 0 }

/-! ### Probe (R485 to R488) -/

/-- Least n with 2^n ≤ v < 2^(n+1). -/
def floorLog (v : Nat) : Nat := Nat.log2 v

/-- Ticks for a time in ns, rounded up (R494).
Log entry 48 (PRESUMED). -/
def ticksOfNs (ns : Nat) : Nat := (ns * 1000 + 1048575) / 1048576

/-- DWORD10 typical erase time of type i, JESD216A: count [4:0] + 1 in units of 1, 16, 128 or 1,000 ms.
Log entry 48 (PRESUMED). -/
def eraseTypNs (d : BitVec 32) (i : Nat) : Nat :=
  let c := (d.extractLsb' (4 + 7 * i) 5).toNat + 1
  let u := (d.extractLsb' (9 + 7 * i) 2).toNat
  c * (if u = 0 then 1 else if u = 1 then 16 else if u = 2 then 128 else 1000) * 1000000

/-- DWORD11 typical page program time, JESD216A: count [12:8] + 1 in units of 8 or 64 µs.
Log entry 48 (PRESUMED). -/
def progTypNs (d : BitVec 32) : Nat :=
  let c := (d.extractLsb' 8 5).toNat + 1
  c * (if d.getLsbD 13 then 64 else 8) * 1000

/-- The BFPT as DWORDs, DWORD i at index i − 1. -/
def bfptOf (b : List Byte) (n : Nat) : List (BitVec 32) := (List.range n).map (fun i => leWord (b.drop (4 * i)))

def dword (t : List (BitVec 32)) (i : Nat) : BitVec 32 := t.getD (i - 1) 0

/-- The SFDP header passes Table 13.2. -/
def headerOk (h : List Byte) : Bool :=
  h.getD 0 0 == 0x53 && h.getD 1 0 == 0x46 && h.getD 2 0 == 0x44 && h.getD 3 0 == 0x50 && h.getD 5 0 == 1
    && h.getD 8 0 == 0 && h.getD 15 0 == 0xFF && decide (9 ≤ (h.getD 11 0).toNat)
    && (let ptr := (h.getD 12 0).toNat + 256 * (h.getD 13 0).toNat + 65536 * (h.getD 14 0).toNat
        decide (ptr % 4 = 0) && decide (ptr ≤ 0xFFC0))

/-- Density in bits (JESD216): bit 31 of DWORD2 tells 2^N from N + 1. Above 2^32 it is taken as 2^32.
Log entry 48 (PRESUMED). -/
def densityBits (d : BitVec 32) : Nat :=
  let n := (d.extractLsb' 0 31).toNat
  if d.getLsbD 31 then (if n < 32 then 2 ^ n else 2 ^ 32) else min (n + 1) (2 ^ 32)

/-- The BFPT passes Table 13.2. -/
def bfptOk (t : List (BitVec 32)) : Bool :=
  (dword t 1).extractLsb' 17 2 != 3 && decide (2 ^ 19 ≤ densityBits (dword t 2))

def goodOp (o : Byte) : Bool := o != 0 && o != 0xFF

/-- Erase types of DWORD8 and DWORD9 that are accepted: number, size log2, opcode. -/
def eraseTypes (t : List (BitVec 32)) : List (Nat × Nat × Byte) :=
  ([0, 1, 2, 3].map (fun i =>
      let d := dword t (8 + i / 2)
      (i, (d.extractLsb' (16 * (i % 2)) 8).toNat, d.extractLsb' (16 * (i % 2) + 8) 8))).filter
    (fun e => decide (12 ≤ e.2.1 ∧ e.2.1 ≤ 16) && goodOp e.2.2)

/-- The largest accepted erase type (R491); of two equal ones the first. -/
def bestErase : List (Nat × Nat × Byte) → Option (Nat × Nat × Byte)
  | [] => none
  | e :: r => match bestErase r with
    | none => some e
    | some f => if e.2.1 < f.2.1 then some f else some e

/-- A read mode: code, opcode, mode clocks, dummy cycles, and the opcode that enters it, 0 for none. -/
structure ReadMode where
  code   : BitVec 3
  op     : Byte
  clocks : BitVec 3
  dummy  : BitVec 5
  enable : Byte
  deriving DecidableEq, Repr

/-- The 1-1-1 mode of Table 13.3 for a partner with SFDP. -/
def mode111 : ReadMode := { code := 0, op := 0x0B, clocks := 0, dummy := 8, enable := 0 }

/-- A READ of `n` bytes from a partner address in a read mode (Table 13.4). -/
def ReadMode.read (m : ReadMode) (p : PartnerId) (four : Bool) (a n : Nat) : Exchange :=
  { partner := p, mode := m.code, bytes := m.op :: addrBytes four a, clocks := m.clocks.toNat, dummy := m.dummy.toNat, reads := n }

/-- Candidates of Table 13.3 other than 1-1-1, in order. -/
def candidates (p : Partner) (t : List (BitVec 32)) : List ReadMode :=
  let d1 := dword t 1
  let d3 := dword t 3
  let d7 := dword t 7
  let d15 := dword t 15
  let m4 : List ReadMode := if d1.getLsbD 19 && p.dtrop != 0
    then [{ code := 4, op := p.dtrop, clocks := 0, dummy := p.dtrdummy, enable := 0 }] else []
  let m3 : List ReadMode := if (dword t 5).getLsbD 4 && decide (15 ≤ t.length) && d15.extractLsb' 20 3 == 0
      && (d15.getLsbD 5 || d15.getLsbD 6) && goodOp (d7.extractLsb' 24 8)
    then [{ code := 3, op := d7.extractLsb' 24 8, clocks := d7.extractLsb' 21 3, dummy := d7.extractLsb' 16 5,
            enable := if d15.getLsbD 5 then 0x38 else 0x35 }] else []
  let m2 : List ReadMode := if d1.getLsbD 21 && goodOp (d3.extractLsb' 8 8)
    then [{ code := 2, op := d3.extractLsb' 8 8, clocks := d3.extractLsb' 5 3, dummy := d3.extractLsb' 0 5, enable := 0 }] else []
  let m1 : List ReadMode := if d1.getLsbD 22 && goodOp (d3.extractLsb' 24 8)
    then [{ code := 1, op := d3.extractLsb' 24 8, clocks := d3.extractLsb' 21 3, dummy := d3.extractLsb' 16 5, enable := 0 }] else []
  (m4 ++ m3 ++ m2 ++ m1).filter (fun m => decide (m.code.toNat ≤ p.maxmode.toNat))

/-- What the choice of the read mode came to: the mode, or none where the partner was lost; the bytes left; and the
exchanges. -/
structure Confirmed where
  mode : Option ReadMode
  rx   : List Byte
  sent : List Exchange
  deriving DecidableEq, Repr

/-- R488: compare each candidate's 16 bytes with the reference; 1-1-1 is accepted without a comparison. A 1-4D-4D read with
USERDS whose AnRDS edges do not come loses the partner (R501). -/
def confirmMode (p : PartnerId) (four userds : Bool) (ref : List Byte) (rx : List Byte) : List ReadMode → Confirmed
  | [] => { mode := some mode111, rx := rx, sent := [] }
  | m :: r =>
    let enter := if m.enable = 0 then [] else [plainExchange p [m.enable] 0 0]
    let sent := enter ++ [m.read p four 0 16]
    if m.code = 4 ∧ userds ∧ rx.length < 16 then { mode := none, rx := [], sent := sent }
    else
      let d := drive 16 rx
      if d.1 = ref then { mode := some m, rx := d.2, sent := sent }
      else
        let t := confirmMode p four userds ref d.2 r
        { t with sent := sent ++ (if m.code = 3 then [exit444 p] else []) ++ t.sent }

/-- Partner after a probe that fell back to ANX_CMDSET (R486, R487). -/
def Partner.fallback (x : Annex) (p : Partner) (id : BitVec 24) (blank : Bool) : Partner :=
  { p with state := 3, mode := 0, addr4 := x.cmdAddr4, confblank := blank, page := x.cmdPage,
           effsize := BitVec.ofNat 5 (if x.cmdAddr4 then p.size.toNat else min p.size.toNat 24),
           erasesz := if 12 ≤ x.cmdEraseSz.toNat ∧ x.cmdEraseSz.toNat ≤ 16 ∧ goodOp x.cmdEraseOp then x.cmdEraseSz else 0,
           eraseop := x.cmdEraseOp, dummy := x.rdDummy, readop := x.rdOp, clocks := 0, id := id, progTyp := 0, eraseTyp := 0 }

/-- Addresses of a partner with SFDP take four bytes (DWORD1 [18:17], R486). -/
def sfdpAddr4 (t : List (BitVec 32)) : Bool :=
  let ab := (dword t 1).extractLsb' 17 2
  ab == 2 || (ab == 1 && decide (16777216 < densityBits (dword t 2) / 8))

/-- The probe sends EN4BOP: addresses are "3 or 4" and the density is above 16 MiB (R486). -/
def sendsEn4b (t : List (BitVec 32)) : Bool := (dword t 1).extractLsb' 17 2 == 1 && sfdpAddr4 t

/-- Partner after a probe that took SFDP. -/
def Partner.fromSfdp (x : Annex) (p : Partner) (id : BitVec 24) (t : List (BitVec 32)) (m : ReadMode) (blank : Bool) :
    Partner :=
  let bytes := densityBits (dword t 2) / 8
  let a4 := sfdpAddr4 t
  let z := min p.size.toNat (floorLog bytes)
  let e := bestErase (eraseTypes t)
  { p with state := 2, mode := m.code, addr4 := a4, confblank := blank,
           page := if 11 ≤ t.length then BitVec.ofNat 4 (min 9 ((dword t 11).extractLsb' 4 4).toNat)
                   else if (dword t 1).getLsbD 2 then x.cmdPage else 0,
           effsize := BitVec.ofNat 5 (if a4 then z else min z 24),
           erasesz := (match e with | some f => BitVec.ofNat 5 f.2.1 | none => 0),
           eraseop := (match e with | some f => f.2.2 | none => 0),
           dummy := m.dummy, readop := m.op, clocks := m.clocks, id := id,
           progTyp := if 11 ≤ t.length then ticksOfNs (progTypNs (dword t 11)) else 0,
           eraseTyp := (match e with
             | some f => if 10 ≤ t.length then ticksOfNs (eraseTypNs (dword t 10) f.1) else 0
             | none => 0) }

/-- What a probe came to: the partner after it, the result that ends the operation if there is one, the bytes left, and the
exchanges. -/
structure Probed where
  partner : Partner
  ends    : Option Byte
  rx      : List Byte
  sent    : List Exchange
  deriving DecidableEq, Repr

/-- The SFDP read of `n` bytes from address `a`, in 1-1-1 with 3 address bytes and 8 dummy cycles (R486). -/
def sfdpRead (p : PartnerId) (a n : Nat) : Exchange := plainExchange p (0x5A :: addrBytes false a) 8 n

/-- The probe of R486, in the order of its exchanges.
Log entry 49 (DESIGN CHOICE). -/
def probe (x : Annex) (pid : PartnerId) (p : Partner) (rx : List Byte) : Probed :=
  let d0 := drive 3 rx
  let id : BitVec 24 := (d0.1.getD 0 0) ++ (d0.1.getD 1 0) ++ (d0.1.getD 2 0)
  let e0 := [exit444 pid, plainExchange pid [0x9F] 0 3]
  if id = 0xFFFFFF ∨ id = 0 then { partner := { p with state := 1, id := id }, ends := some rAbsent, rx := d0.2, sent := e0 }
  else
    let d1 := drive 16 d0.2
    let n := min (d1.1.getD 11 0).toNat 16
    let ptr := (d1.1.getD 12 0).toNat + 256 * (d1.1.getD 13 0).toNat + 65536 * (d1.1.getD 14 0).toNat
    let d2 := if headerOk d1.1 then drive (4 * n) d1.2 else ([], d1.2)
    let t := bfptOf d2.1 n
    let good := headerOk d1.1 && bfptOk t
    let e1 := e0 ++ [sfdpRead pid 0 16] ++ (if headerOk d1.1 then [sfdpRead pid ptr (4 * n)] else [])
      ++ (if good && sendsEn4b t then [plainExchange pid [x.en4bOp] 0 0] else [])
    let four := if good then sfdpAddr4 t else x.cmdAddr4
    let ref : ReadMode := if good then mode111 else { mode111 with op := x.rdOp, dummy := x.rdDummy }
    let e2 := e1 ++ [ref.read pid four 0 16]
    let d3 := drive 16 d2.2
    let blank := d3.1.all (· == 0xFF)
    if good then
      let c := confirmMode pid four p.userds d3.1 d3.2 (candidates p t)
      match c.mode with
      | some m => { partner := p.fromSfdp x id t m blank, ends := none, rx := c.rx, sent := e2 ++ c.sent }
      | none => { partner := p, ends := some rLost, rx := c.rx, sent := e2 ++ c.sent }
    else { partner := p.fallback x id blank, ends := none, rx := d3.2, sent := e2 }

/-! ### Results, losses and fences (R501 to R505) -/

def State.lastResult (s : State) (a : AnnexId) (p : PartnerId) (r : Byte) : State :=
  s.modPartner a p (fun q => { q with lastres := r })

/-- The partner stops being busy. -/
def State.freePartner (s : State) (a : AnnexId) (p : PartnerId) : State :=
  s.modPartner a p (fun q => { q with owner := none, inFlight := false, sentTicks := 0, ffPolls := 0 })

/-- PARTNER_LOST of a partner: counted, and fenced unless the annex yielded (R502, R503). -/
def State.losePartner (s : State) (a : AnnexId) (p : PartnerId) (yielded : Bool) : State :=
  (s.modPartner a p (fun q => { q with losts := q.losts + 1, fenced := q.fenced || !yielded })).lastResult a p rLost

def State.fencePartner (s : State) (a : AnnexId) (p : PartnerId) (r : Byte) : State :=
  (s.modPartner a p (fun q =>
    { q with fenced := true, timeouts := (if r == rTimeout then q.timeouts + 1 else q.timeouts) })).lastResult a p r

/-- Probe a partner that needs it (R485): the state, the result that ends the operation if there is one, and the bytes
left. A probe that loses the partner fences it (R501, R503). -/
def State.probePartner (s : State) (a : AnnexId) (p : PartnerId) (rx : List Byte) : State × Option Byte × List Byte :=
  let q := s.partner a p
  if q.state = 0 ∨ q.state = 1 then
    let r := probe (s.anx a) p q rx
    let s1 := r.sent.foldl (fun t e => t.send a e) (s.modPartner a p (fun _ => r.partner))
    (if r.ends = some rLost then s1.losePartner a p false else s1, r.ends, r.rx)
  else (s, none, rx)

/-! ### Reads (R490, R498) -/

/-- The read mode that the probe chose. -/
def Partner.reading (q : Partner) : ReadMode := { code := q.mode, op := q.readop, clocks := q.clocks, dummy := q.dummy, enable := 0 }

/-- The next stone of a window read: a READ that has come to this partner address goes on, else a new one begins (R490,
R498). -/
def Annex.readOn (x : Annex) (p : PartnerId) (a : Nat) : Annex :=
  if x.stream = some (p, a) then { x with stream := some (p, a + 8) }
  else
    let y := x.endRead
    { y with sent := y.sent ++ [(y.partners[p.val]).reading.read p y.partners[p.val].addr4 a 8], stream := some (p, a + 8) }

/-- The reader of a window address stops: the READ that has come to it ends.
Log entry 49 (DESIGN CHOICE). -/
def Annex.stopRead (x : Annex) (p : PartnerId) (a : Nat) : Annex := if x.stream = some (p, a) then x.endRead else x

/-- Annex of a window address. -/
def windowOf (a : BitVec 32) : Option AnnexId := match regionOf a with
  | .window n => some n
  | _ => none

/-- The partner that a window address names. -/
def State.partnerAt (s : State) (a : BitVec 32) : Option (AnnexId × PartnerId) :=
  match windowOf a with
  | some n => ((s.anx n).owner a).map (fun p => (n, p))
  | none => none

/-- The window side of an operation: its address, or the source of a HAUL from a window. -/
def Op.windowAddr (o : Op) : Option (BitVec 32) :=
  if (windowOf o.addr).isSome && !ledgerOnly o.opcode then some o.addr
  else if o.opcode == opHaul && (windowOf o.src).isSome then some o.src
  else none

/-- The annex an operation uses. -/
def Op.annexOf (o : Op) : Option AnnexId := o.windowAddr.bind windowOf

/-- Some operation of the annex is RUNNING (R509, R511). -/
def State.annexRunning (s : State) (a : AnnexId) : Bool :=
  s.ledger.ops.any (fun o => o.state == .running && o.annexOf == some a)

/-- A partner that an operation keeps busy (R499).
Log entry 71 (DEDUCED). -/
def State.ownedBy (s : State) (id : Nat) : Option (AnnexId × PartnerId) :=
  (allAnnex.flatMap (fun a => allPartners.map (fun p => (a, p)))).find? (fun q => (s.partner q.1 q.2).owner == some id)

/-- The READ that has come to a window address ends with its reader. -/
def State.stopRead (s : State) (a : BitVec 32) : State := match s.partnerAt a with
  | some q => s.modAnx q.1 (fun x => x.stopRead q.2 ((s.partner q.1 q.2).addrOf a))
  | none => s

/-- The partner of an operation: the one that its window address names, or, where that was disabled meanwhile, the one it
keeps busy.
Log entry 71 (DEDUCED). -/
def State.partnerOf (s : State) (o : Op) : Option (AnnexId × PartnerId) := match o.windowAddr with
  | none => none
  | some a => match s.partnerAt a with
    | some q => some q
    | none => s.ownedBy o.id

/-- The partner that an operation keeps busy is free again (R499).
Log entry 71 (DEDUCED). -/
def State.freeOwned (s : State) (id : Nat) : State := match s.ownedBy id with
  | some q => s.freePartner q.1 q.2
  | none => s

/-- A window operation is about to end: LASTRESULT, and the partner is free again.
Log entry 71 (DEDUCED). -/
def State.freeWindow (s : State) (o : Op) (r : Byte) : State := match s.partnerOf o with
  | some ap =>
    let s0 := s.lastResult ap.1 ap.2 r
    if (s.partner ap.1 ap.2).owner = some o.id then s0.freePartner ap.1 ap.2 else s0.freeOwned o.id
  | none => s

/-- End a window operation. -/
def State.endWindow (s : State) (o : Op) (r : Byte) : State := (s.freeWindow o r).complete o.id r

/-- A loss ends an operation (R502): UNCERTAIN when a program or erase had been sent and not confirmed.
Log entry 71 (DEDUCED). -/
def State.loseOp (s : State) (o : Op) (yielded : Bool) : State :=
  match s.partnerOf o with
  | some ap =>
    let q := s.partner ap.1 ap.2
    let s1 := s.losePartner ap.1 ap.2 yielded
    let s2 := if q.owner = some o.id && q.inFlight then s1.modOp o.id (fun x => { x with uncertain := true }) else s1
    s2.endWindow o rLost
  | none => s.complete o.id rLost

end Sys2Proof.Machine
end

