-- ==== Sys2Proof/Machine/Sched.lean ====
section
/-! DEFINITION. Leaves, eligibility, WHY, offers and costs (10; the bank's side from 08 and 09, the window's from 13). -/
namespace Sys2Proof.Machine

/-! ### Leaf (R379, R380) -/

/-- Gallery of an operation. An address that no region holds (a HAUL that will end DENIED) queues on G0. -/
def Op.gal (o : Op) : GalId := match regionOf o.addr with
  | .main => galOf (bankIx (addrBank o.addr))
  | .window a => ⟨a.val, by omega⟩
  | _ => 0

/-- The operation queues on a gallery, with its service. -/
def Op.svc (o : Op) : Option SvcId := svcOf o.opcode

/-! ### Fetch times (R293, R294, Table 07.6) -/

/-- Device time from a stone's gate to its readiness (Table 07.6, R294). -/
def State.fetchPs (s : State) : BitVec 64 := if s.power.mv.toNat < 2700 then 55000 else 40000

/-- Device time in ps to read `n` stones of a row at the VCC that stands (Table 07.6).
Log entry 18 (DEDUCED). -/
def State.readTime (s : State) (n : Nat) : Nat := s.fetchPs.toNat + 4000 * (n - 1)

/-- Stones, of which the first is ready at `ready` and each next one 4 ns later, that are ready by now, at most `n`.
Log entry 18 (DEDUCED). -/
def State.stonesDue (s : State) (ready : BitVec 64) (n : Nat) : Nat :=
  let d := s.pace.devtime - ready
  if d.getLsbD 63 then 0 else min n (d.toNat / 4000 + 1)

/-! ### Links, events, fences (R233 to R241) -/

def State.afterOk (s : State) (o : Op) : Bool := match o.awaits with
  | none => true
  | some id => match s.op? id with
    | some x => x.state == .complete
    | none => true

def Op.waitOk (o : Op) : Bool := o.wait == 0xFF || o.latched

/-- The first FENCE of the subscriber committed earlier that has not completed (R241). -/
def State.fenceBefore (s : State) (o : Op) : Option Op :=
  s.ledger.ops.find? (fun x => x.opcode == opFence && !x.isDirect && x.sub == o.sub && x.before o
    && x.state != .complete)

/-- Every operation committed earlier by the subscriber has completed (R240). -/
def State.earlierDone (s : State) (o : Op) : Bool :=
  s.ledger.ops.all (fun x => x.sub != o.sub || !x.before o || x.state == .complete)

/-- The first producer of an event that has not completed. -/
def State.producer (s : State) (o : Op) : Option Op :=
  s.ledger.ops.find? (fun x => !x.isDirect && x.id != o.id && x.signal == o.wait && x.state != .complete)

/-! ### The bank's side -/

/-- Row and sector of a main-array address. -/
def addrSector (a : BitVec 32) : Nat := (a.extractLsb' 12 4).toNat

/-- A clear unit of an operation works on a block, in a footing block on a sector. -/
def ClearRun.covers (c : ClearRun) (block sector : Nat) : Bool :=
  (c.purpose == .operation) && (match c.unit with
    | .block _ => c.lblock == block
    | .sector _ k => c.lblock == block && k == sector
    | .page _ => false)

def Bank.isSuspended (b : Bank) : Bool := b.state == .suspending || b.state == .suspended || b.state == .nestlay

/-- The unsettled block of a suspended clear holds the stone (R631). A suspended firing has none; nor has the source
clear of a move, whose slot holds no block. -/
def Bank.unsettledAt (b : Bank) (block sector : Nat) : Bool :=
  b.isSuspended && (match b.clear with | some c => c.covers block sector | none => false)

/-- Some unit of the suspended clear lies in the block. -/
def Bank.unsettledBlock (b : Bank) (block : Nat) : Bool :=
  b.isSuspended && (match b.clear with | some c => c.purpose == .operation && c.lblock == block | none => false)

/-- A bank serves a fetch of a stone (Table 08.1, R312). -/
def Bank.serves (b : Bank) (block sector : Nat) : Bool := match b.state with
  | .idle => true
  | .suspended => !b.unsettledAt block sector
  | .clearing => (match b.clear with | some c => c.boundary && c.serving | none => false)
  | _ => false

/-- Another operation's move uses slot `k` or moves block `l`, or another REPOINT reads that block: two moves never share a
block or a slot.
Log entry 16 (DESIGN CHOICE). -/
def State.moveClash (s : State) (b : BankId) (o : Op) (k l : Nat) : Bool :=
  (s.bank b).moving.any (fun m => m.op != o.id && (m.src == k || m.dst == k || m.lblock == l))
  || s.ledger.ops.any (fun x => x.id != o.id && x.bankOf == some b && x.opcode == opRepoint && x.state == .running
      && (match x.work with | .reading _ => true | _ => false) && addrBlock x.addr + x.index == l)

/-- A KILN, or the next block of a REPOINT, meets no other move (`moveClash`).
Log entry 16 (DESIGN CHOICE). -/
def State.clashFree (s : State) (b : BankId) (o : Op) : Bool :=
  let r := (s.bank b).kept
  if o.opcode = opKiln then o.state != .queued || !s.moveClash b o o.count.toNat ((r.blockOf o.count.toNat).getD 512)
  else !s.moveClash b o (r.slotOf (addrBlock o.addr + o.index)) (addrBlock o.addr + o.index)

/-- The block that the slot of a KILN holds. -/
def State.kilnBlock (s : State) (b : BankId) (o : Op) : Option Nat :=
  if (s.bank b).kept.slotState b o.count.toNat == .mapped then (s.bank b).kept.blockOf o.count.toNat else none

/-- The move that operation `id` makes on a bank. -/
def Bank.moveOf (k : Bank) (id : Nat) : Option Move := k.moving.find? (fun m => m.op == id)

/-- The move of an operation goes on as `m`, or begins. -/
def Bank.putMove (k : Bank) (m : Move) : Bank :=
  { k with moving := if (k.moveOf m.op).isSome then k.moving.map (fun x => if x.op == m.op then m else x) else k.moving ++ [m] }

/-- The move of an operation has ended. -/
def Bank.dropMove (k : Bank) (id : Nat) : Bank := { k with moving := k.moving.filter (fun m => m.op != id) }

/-- Operation `x` moves, or is to move, or reads block `l` of bank `b` (R352). -/
def State.movesBlock (s : State) (b : BankId) (l : Nat) (x : Op) : Bool :=
  x.state != .complete && x.bankOf == some b && !x.isDirect &&
  ((match (s.bank b).moveOf x.id with | some m => m.lblock == l | none => false)
   || (x.opcode == opRepoint && (x.kind == .slide || x.kind == .relocation)
        && decide (addrBlock x.addr + x.index ≤ l ∧ l < addrBlock x.addr + x.count.toNat))
   || (x.opcode == opRepoint && x.state == .running && (match x.work with | .reading _ => true | _ => false)
        && l == addrBlock x.addr + x.index)
   || (x.opcode == opKiln && s.kilnBlock b x == some l))

/-- Another operation holds block `l` under R352. -/
def State.blockMoving (s : State) (b : BankId) (l : Nat) (o : Op) : Bool :=
  s.ledger.ops.any (fun x => x.id != o.id && s.movesBlock b l x)

/-- A host operation's gate is enabled (R390, R423). House operations pass no gate (R412). -/
def State.gateOpenFor (s : State) (o : Op) (a : BitVec 32) : Bool :=
  o.house || (match gateOf a with | some g => (s.gate g).en | none => true)

/-- The first dispatch of a host KILN waits for its gate; its later steps pass none (R390, R412, R414). -/
def State.kilnGateOk (s : State) (o : Op) : Bool :=
  o.opcode != opKiln || o.state != .queued || s.gateOpenFor o o.addr

/-- Blocks that a CLEAR, CLEAR_FOOT or direct clear still works on. -/
def Op.clearBlocks (o : Op) : List Nat :=
  if o.opcode == opClear then (List.range (o.count.toNat - o.units.toNat)).map (fun i => addrBlock o.addr + o.units.toNat + i)
  else [addrBlock o.addr]

/-! ### The window's side (R499, R509, R511, R514) -/

/-- A partner accepts a dispatch of the operation. -/
def State.partnerFree (s : State) (a : BitVec 32) (o : Op) : Bool := match s.partnerAt a with
  | none => true
  | some ap => match (s.partner ap.1 ap.2).owner with
    | none => true
    | some id => id == o.id

/-- The annex of a window address accepts a dispatch: a disabled annex does, to end it with PARTNER_ABSENT. -/
def State.annexFree (s : State) (a : BitVec 32) : Bool := match windowOf a with
  | none => true
  | some n => !(s.anx n).manual && (!(s.anx n).en || !(s.anx n).yielded)

def State.windowFree (s : State) (o : Op) : Bool := match o.windowAddr with
  | none => true
  | some a => s.annexFree a && s.partnerFree a o

/-! ### Steps of an operation, their tokens and costs (Table 10.2, Table 10.4) -/

/-- What the next dispatch of an operation does. -/
inductive Act where
  | fetch
  | lay
  | clear
  | suspend
  | resume
  | read
  | row
  | source
  | fire
  | nothing
  | chunk
  deriving DecidableEq, Repr

/-- A move reads this stone of its source as one to be copied (R349). -/
def State.copies (s : State) (b : BankId) (m : Move) (row stone : Nat) : Bool :=
  markLaid (cellsMark (readCells s.mem (stoneIx b.val m.src row stone))) && !m.skip.contains (row * 64 + stone)

/-- The next row of a move that holds a stone to copy, from `m.row` on. -/
def State.nextRow (s : State) (b : BankId) (m : Move) : Option Nat :=
  ((List.range 128).drop m.row).find? (fun r => (List.range 64).any (fun k => s.copies b m r k))

/-- What a KILN finds at its dispatch (Table 09.2, R355): whether it fires or swaps at all.
Log entry 32 (DEDUCED). -/
def State.kilnAct (s : State) (b : BankId) (o : Op) : Act :=
  let k := o.count.toNat
  let r := (s.bank b).kept
  if !s.pins.wp then .nothing
  else match r.slotState b k with
    | .reserve => .fire
    | .gap => if (s.spareSlot b).isSome then .fire else .nothing
    | .mapped => match s.spareSlot b, r.blockOf k with
      | some d, some l =>
        if (s.nextRow b { op := o.id, kind := .kilnSwap, lblock := l, src := k, dst := d, row := 0, skip := [],
                          uncorr := false, mapped := false }).isSome then .row else .source
      | _, _ => .nothing
    | _ => .nothing

/-- The next step of an operation that may be dispatched, if it has one. The firing of a KILN whose swap has ended waits while
WP# is low (R287, R633).
Log entry 32 (DEDUCED). -/
def State.nextAct (s : State) (o : Op) : Option Act :=
  match o.state, o.work with
  | .queued, _ =>
    if o.opcode = opFetch then some .fetch
    else if o.opcode = opLay then some .lay
    else if o.opcode = opClear ∨ o.opcode = opClearFoot then some .clear
    else if o.opcode = opHaul then some .chunk
    else if o.opcode = opSuspend then some .suspend
    else if o.opcode = opResume then some .resume
    else if o.opcode = opRepoint then some .read
    else if o.opcode = opKiln then (match o.bankOf with | some b => some (s.kilnAct b o) | none => some .nothing)
    else none
  | .running, .readReady => some .read
  | .running, .rowReady => some .row
  | .running, .srcClearReady => some .source
  | .running, .fireReady => if s.pins.wp then some .fire else none
  | .running, .chunkReady => some .chunk
  | _, _ => none

/-- An operation is staging a chunk (R517). -/
def State.stagingOp (s : State) (id : Nat) : Bool := match s.op? id with
  | some o => (match o.work with | .staging _ => true | _ => false)
  | none => false

/-- The chunk of a HAUL that is staged while the one before is written (R518). -/
def Op.nextStaged (o : Op) : Option Ahead := if o.opcode = opHaul then o.ahead else none

/-- The reading of a HAUL's next chunk while the one before is written, until it is staged or has stopped (R518). -/
def Op.aheadRun (o : Op) : Option ReadRun := match o.nextStaged with
  | some h => if h.staged || h.stop != 0xFF then none else some h.run
  | none => none

/-- The next chunk of a HAUL waits staged: its source is not needed any more (R518, R520). -/
def Op.aheadStaged (o : Op) : Bool := match o.nextStaged with
  | some h => h.staged
  | none => false

/-- Stones that a FETCH, or the staging of a chunk, has read. -/
def Op.stonesRead (o : Op) : Nat := match o.nextStaged with
  | some h => h.data.length
  | none => if o.opcode = opHaul then o.payload.length else o.fetched.length

/-- Address of the stone that it reads next. -/
def Op.nextStone (o : Op) : BitVec 32 := match o.nextStaged with
  | some h => o.src + BitVec.ofNat 32 (8 * (h.start + h.data.length))
  | none =>
    if o.opcode = opHaul then o.src + BitVec.ofNat 32 (8 * (o.units.toNat + o.payload.length))
    else o.addr + BitVec.ofNat 32 (8 * o.fetched.length)

/-- Stones of the chunk of a HAUL that begins at its stone `done` (R517). -/
def State.chunkFrom (s : State) (o : Op) (done : Nat) : Nat :=
  let left := o.count.toNat - done
  let a := o.addr + BitVec.ofNat 32 (8 * done)
  match s.partnerAt a with
  | some ap =>
    let q := s.partner ap.1 ap.2
    let pg := 2 ^ q.page.toNat
    min left (min 64 (max 1 ((pg - q.addrOf a % pg) / 8)))
  | none => min left (64 - addrStone a)

/-- Stones of the next chunk of a HAUL. -/
def State.haulChunk (s : State) (o : Op) : Nat := s.chunkFrom o o.units.toNat

/-- Tokens that a dispatch takes (Table 10.4); `none` takes none. -/
def State.tokensOf (s : State) (o : Op) : Act → Option Nat
  | .lay => if (windowOf o.addr).isSome then none else some s.tokLay
  | .clear => if (windowOf o.addr).isSome then none else some s.tokClear
  | .row => some s.tokLay
  | .source => some s.tokClear
  | .fire => some s.tokKiln
  | .chunk => if (windowOf o.addr).isSome then none else some s.tokLay
  | _ => none

/-- Dispatch cost (Table 10.2). -/
def State.costOf (s : State) (o : Op) : Act → Nat
  | .fetch => o.charge
  | .lay => o.charge
  | .clear => o.charge
  | .read => 8192 * s.costFetch
  | .row => 64 * s.costLay
  | .source => s.costClear
  | .fire => s.costKiln
  | .chunk => s.haulChunk o * (s.costFetch + s.costLay)
  | _ => 0

/-! ### Eligibility (R390) -/

/-- A lay into bank `b` is accepted at this block and sector (R299, R326, R352); the later chunks of a HAUL only in IDLE
(R383). -/
def State.layAccepted (s : State) (b : BankId) (o : Op) (a : BitVec 32) : Bool :=
  let k := s.bank b
  match k.state with
  | .idle => b == markBank || !s.blockMoving b (addrBlock a) o
  | .suspended => o.state == .queued && !k.suspPolicy && !k.unsettledAt (addrBlock a) (addrSector a) && !s.blockMoving b (addrBlock a) o
  | _ => false

/-- The target bank accepts the step (R299, R326 to R328, R352, R383, R636, Table 08.5): a step after the first only in
IDLE.
Log entry 16 (DESIGN CHOICE). -/
def State.bankAccepts (s : State) (o : Op) (act : Act) (b : BankId) : Bool :=
  let k := s.bank b
  match act with
  | .fetch => k.serves (addrBlock o.addr) (addrSector o.addr)
  | .lay => s.layAccepted b o o.addr
  | .clear => k.state == .idle && o.clearBlocks.all (fun l => !s.blockMoving b l o)
  | .suspend => true
  | .resume => true
  | .read => (k.state == .idle || (o.state == .queued && k.state == .suspended && !k.unsettledBlock (addrBlock o.addr + o.index)))
      && s.gateOpenFor o o.addr && s.clashFree b o
  | .row => k.state == .idle && s.kilnGateOk o && (o.opcode != opKiln || s.clashFree b o)
  | .source => k.state == .idle && s.kilnGateOk o && (o.opcode != opKiln || s.clashFree b o)
  | .fire => k.state == .idle && s.kilnGateOk o && (o.opcode != opKiln || s.clashFree b o)
  | .nothing => k.state == .idle && s.kilnGateOk o && (o.opcode != opKiln || s.clashFree b o)
  | .chunk => true

/-- A HAUL's main-array side accepts its next chunk (R383, R519). The source of one that is being staged already was met
then (R518). -/
def State.haulAccepts (s : State) (o : Op) : Bool :=
  let off := BitVec.ofNat 32 (8 * o.units.toNat)
  (match s.region o.addr with
    | .main => s.layAccepted (bankIx (addrBank (o.addr + off))) o (o.addr + off)
    | _ => true)
  && (o.nextStaged.isSome || match s.region o.src with
    | .main =>
      let k := s.bank (bankIx (addrBank (o.src + off)))
      if o.state == .queued then k.serves (addrBlock (o.src + off)) (addrSector (o.src + off)) else k.state == .idle
    | _ => true)

/-- The target accepts the dispatch of the operation's next step. -/
def State.targetOk (s : State) (o : Op) (act : Act) : Bool :=
  (s.windowFree o || (o.aheadStaged && (windowOf o.src).isSome)) && (if act == .chunk then s.haulAccepts o else
    match o.bankOf with
    | some b => s.bankAccepts o act b
    | none => true)

/-- Tokens are available: they fit, and no other operation is reserved (R401, R404). -/
def State.tokensFit (s : State) (o : Op) (act : Act) : Bool := match s.tokensOf o act with
  | none => true
  | some t => s.fits t
def State.notBarred (s : State) (o : Op) (act : Act) : Bool := match s.tokensOf o act with
  | none => true
  | some _ => s.power.reserved == none || s.power.reserved == some o.id

/-- Partner pages that a window lay touches (R492). -/
def State.pagesTouched (s : State) (o : Op) : Nat := match s.partnerAt o.addr with
  | some ap =>
    let q := s.partner ap.1 ap.2
    let pg := 2 ^ q.page.toNat
    let p0 := q.addrOf o.addr
    (p0 + 8 * o.count.toNat - 1) / pg - p0 / pg + 1
  | none => 1

/-- Yard slots that a dispatch takes beyond the one of admission (R492, R259): only a probed partner's page size is
known. -/
def State.extraYard (s : State) (o : Op) (act : Act) : Nat :=
  if act == .lay && (windowOf o.addr).isSome then
    (match s.partnerAt o.addr with
     | some ap => if (s.partner ap.1 ap.2).state.toNat < 2 then 0 else s.pagesTouched o - 1
     | none => 0)
  else 0

def State.yardOk (s : State) (o : Op) (act : Act) : Bool :=
  let n := s.extraYard o act
  n == 0 || (if o.sub == 31 then decide (n ≤ s.yardFree) else decide (n + 4 ≤ s.yardFree))

/-- R390. -/
def State.eligible (s : State) (o : Op) : Bool := match s.nextAct o with
  | none => false
  | some act => s.afterOk o && o.waitOk && (s.fenceBefore o).isNone && s.targetOk o act && s.tokensFit o act
      && s.notBarred o act && s.yardOk o act

/-- Every condition of R390 but the bank and the tokens holds (R312, R316, R327).
Log entry 19 (DEDUCED). -/
def State.eligibleButBank (s : State) (o : Op) : Bool :=
  o.state == .queued && s.afterOk o && o.waitOk && (s.fenceBefore o).isNone

/-- It fails R390 only on tokens (R403). -/
def State.tokenShort (s : State) (o : Op) : Bool := match s.nextAct o with
  | none => false
  | some act => s.afterOk o && o.waitOk && (s.fenceBefore o).isNone && s.targetOk o act && s.yardOk o act
      && !s.tokensFit o act

/-- Its only hindrance is that its bank is busy (R348). -/
def State.bankShort (s : State) (o : Op) : Bool := match s.nextAct o with
  | none => false
  | some act => s.afterOk o && o.waitOk && (s.fenceBefore o).isNone && !s.targetOk o act && s.tokensFit o act
      && s.notBarred o act && s.yardOk o act

/-- A host REPOINT between two blocks waits in its leaf for its gate (R423). -/
def State.waitsAtGate (s : State) (o : Op) : Bool := o.state == .running && o.work == .readReady && !s.gateOpenFor o o.addr

/-- LEDGER_VIEW2.WHY (R391, R423, Table 06.12). -/
def State.why (s : State) (o : Op) : BitVec 4 :=
  if s.waitsAtGate o then 4
  else if o.state != .queued then 0
  else if !s.afterOk o then 1
  else if !o.waitOk then 2
  else if (s.fenceBefore o).isSome || (o.opcode == opFence && !s.earlierDone o) then 3
  else match s.nextAct o with
    | none => 0
    | some act =>
      if !s.targetOk o act then 4
      else if !s.tokensFit o act || !s.notBarred o act then 5
      else if !s.yardOk o act then 6
      else if o.passed then 7 else 0

/-- LEDGER_VIEW2.BLOCKER (Table 06.12). -/
def State.blocker (s : State) (o : Op) : Option (Fin 256) :=
  if o.state != .queued then none
  else if !s.afterOk o then (o.awaits.bind s.op?).bind Op.slot
  else if !o.waitOk then (s.producer o).bind Op.slot
  else if (s.fenceBefore o).isSome then (s.fenceBefore o).bind Op.slot
  else if o.opcode == opFence then
    (s.ledger.ops.find? (fun x => !x.isDirect && x.sub == o.sub && x.before o && x.state != .complete)).bind Op.slot
  else none

/-! ### Offers (R395) -/

/-- Operations of a leaf that are eligible. -/
def State.leafOps (s : State) (g : GalId) (v : SvcId) (i : SubId) : List Op :=
  s.ledger.ops.filter (fun o => o.gal == g && o.svc == some v && o.sub == i && s.eligible o)

/-- A leaf's offer: its oldest eligible green operation, else its oldest eligible yellow one. -/
def State.offer (s : State) (g : GalId) (v : SvcId) (i : SubId) : Option Op :=
  let l := s.leafOps g v i
  match l.find? (fun o => o.colour != .yellow) with
  | some o => some o
  | none => l.head?

def leafIx (i : SubId) (v : SvcId) : Nat := 4 * i.val + v.val

/-- Subscribers whose leaves of a service offer. -/
def State.offering (s : State) (g : GalId) (v : SvcId) : List SubId := allSubs.filter (fun i => (s.offer g v i).isSome)

end Sys2Proof.Machine
end

