-- ==== Sys2Proof/Machine/Regs.lean ====
section
/-! DEFINITION. The register map (16, 17): which register a number names (R599), and what a read returns. -/
namespace Sys2Proof.Machine

/-- Every register, by its name and instance numbers. -/
inductive RegRef where
  | ident | revision | uidHi | uidLo | caps | globalCtrl | globalStat | devtime | paceCtrl | paceStat | intStat | intMask
  | violInfo | violAddr | violLost | level | lifeStat | priv | resetStat | bootStat | bootBanks
  | supplyBudget | budgetStat | vccSense | tempSense | loopFreeze | cost0 | cost1 | tamp (g : GalId) | tokens | tokenStat
  | lpump (g : GalId) | cpump (g : GalId)
  | events | eventSet | eventClr | ledgerStat | ledgerSel | view (i : Fin 4) | standstill | dedupCtrl | yardStat
  | lapseLimit | standLimit
  | mode (n : PortId) | timing (n : PortId) | len (n : PortId) | period (n : PortId) | portStat (n : PortId)
  | cmd (n : PortId) | subsReg (n : PortId) | train (n : PortId) | taps (n : PortId) | drift (n : PortId)
  | chain (n : PortId)
  | anxCtrl (a : AnnexId) | anxStat (a : AnnexId) | anxDiv (a : AnnexId) | anxGpio (a : AnnexId)
  | anxCmdset (a : AnnexId) | anxTimeout (a : AnnexId) | pcfg (a : AnnexId) (p : PartnerId)
  | pmap (a : AnnexId) (p : PartnerId) | pmode (a : AnnexId) (p : PartnerId) | pstat (a : AnnexId) (p : PartnerId)
  | galWeight (g : GalId) | vtime (g : GalId) | sched (g : GalId) | lsel (g : GalId) | vsvc (g : GalId) (v : SvcId)
  | lview (g : GalId)
  | commit (s : SubId) | peak (s : SubId) | buckets (s : SubId) | subWeight (s : SubId) | mstat (s : SubId)
  | quota (s : SubId) | seq (s : SubId) | leaf (s : SubId) (v : SvcId)
  | sampleCtrl | sampleStat
  | bankCtrl (b : Fin 64) | bankStat (b : Fin 64) | bankSusp (b : Fin 64) | tally (b : Fin 64)
  | wsel (b : Fin 64) | wview (b : Fin 64) | bankUpkeep (b : Fin 64) | plumb (b : Fin 64)
  | markLock | journalSel | journalView | mapmode | mapSel | mapView | bbtSel | bbtView | mapStat
  | upkeepCtrl | slideCtrl | kilnCtrl | scrubCtrl | upkeepStat
  | gateCtrl (g : GateId) | gateStat (g : GateId) | gateRegion (g : GateId) (i : Fin 8)
  | trace (n : Fin 64) | traceCtrl | traceStat
  | unimplemented
  deriving DecidableEq, Repr

/-- Host port block (Table 17.1). -/
def portReg (p : PortId) (off : Nat) : RegRef :=
  if off = 0x00 then .mode p else if off = 0x01 then .timing p else if off = 0x02 then .len p
  else if off = 0x03 then .period p else if off = 0x04 then .portStat p else if off = 0x05 then .cmd p
  else if off = 0x06 then .subsReg p else if off = 0x10 then .train p else if off = 0x11 then .taps p
  else if off = 0x12 then .drift p else if off = 0x13 then .chain p else .unimplemented

/-- Annex block (R523). -/
def annexReg (a : AnnexId) (off : Nat) : RegRef :=
  let p : PartnerId := ⟨off % 4, Nat.mod_lt _ (by decide)⟩
  if off = 0 then .anxCtrl a else if off = 1 then .anxStat a else if off = 2 then .anxDiv a
  else if off = 3 then .anxGpio a else if off = 4 then .anxCmdset a else if off = 5 then .anxTimeout a
  else if 0x08 ≤ off ∧ off < 0x0C then .pcfg a p else if 0x0C ≤ off ∧ off < 0x10 then .pmap a p
  else if 0x10 ≤ off ∧ off < 0x14 then .pmode a p else if 0x14 ≤ off ∧ off < 0x18 then .pstat a p
  else .unimplemented

/-- Gallery block (R409). -/
def galReg (g : GalId) (off : Nat) : RegRef :=
  if off = 0 then .galWeight g else if off = 1 then .vtime g else if off = 2 then .sched g else if off = 3 then .lsel g
  else if 4 ≤ off ∧ off < 8 then .vsvc g ⟨off % 4, Nat.mod_lt _ (by decide)⟩
  else if off = 8 then .lview g else .unimplemented

/-- Subscriber block. -/
def subReg (i : SubId) (off : Nat) : RegRef :=
  if off = 0 then .commit i else if off = 1 then .peak i else if off = 2 then .buckets i
  else if off = 3 then .subWeight i else if off = 4 then .mstat i else if off = 6 then .quota i
  else if off = 7 then .seq i else .unimplemented

def bankReg (b : Fin 64) (off : Nat) : RegRef :=
  if off = 0 then .bankCtrl b else if off = 1 then .bankStat b else if off = 2 then .bankSusp b else .tally b

def wearReg (b : Fin 64) (off : Nat) : RegRef :=
  if off = 0 then .wsel b else if off = 1 then .wview b else if off = 2 then .bankUpkeep b else .plumb b

/-- Gate block (R437). -/
def gateReg (g : GateId) (off : Nat) : RegRef :=
  if off = 0 then .gateCtrl g else if off = 1 then .gateStat g
  else if 8 ≤ off then .gateRegion g ⟨off % 8, Nat.mod_lt _ (by decide)⟩ else .unimplemented

/-- Single-instance registers (Table 16.3). -/
def singleReg (n : Nat) : RegRef := match n with
  | 0x000 => .ident | 0x001 => .revision | 0x002 => .uidHi | 0x003 => .uidLo | 0x004 => .caps | 0x005 => .globalCtrl
  | 0x006 => .globalStat | 0x007 => .devtime | 0x008 => .paceCtrl | 0x009 => .paceStat | 0x00A => .intStat
  | 0x00B => .intMask | 0x00C => .violInfo | 0x00D => .violAddr | 0x00E => .violLost | 0x00F => .level
  | 0x010 => .lifeStat | 0x011 => .priv | 0x018 => .resetStat | 0x019 => .bootStat | 0x01A => .bootBanks
  | 0x040 => .supplyBudget | 0x041 => .budgetStat | 0x042 => .vccSense | 0x043 => .tempSense | 0x045 => .loopFreeze
  | 0x046 => .cost0 | 0x047 => .cost1 | 0x048 => .tamp 0 | 0x049 => .tamp 1 | 0x04A => .tamp 2 | 0x04B => .tamp 3
  | 0x04C => .tokens | 0x04D => .tokenStat
  | 0x050 => .lpump 0 | 0x051 => .lpump 1 | 0x052 => .lpump 2 | 0x053 => .lpump 3
  | 0x054 => .cpump 0 | 0x055 => .cpump 1 | 0x056 => .cpump 2 | 0x057 => .cpump 3
  | 0x080 => .events | 0x081 => .eventSet | 0x082 => .eventClr | 0x083 => .ledgerStat | 0x084 => .ledgerSel
  | 0x085 => .view 0 | 0x086 => .view 1 | 0x087 => .view 2 | 0x088 => .view 3 | 0x089 => .standstill
  | 0x08A => .dedupCtrl | 0x08B => .yardStat | 0x08C => .lapseLimit | 0x08D => .standLimit
  | 0x480 => .sampleCtrl | 0x481 => .sampleStat
  | 0x710 => .markLock | 0x711 => .journalSel | 0x712 => .journalView
  | 0x720 => .mapmode | 0x721 => .mapSel | 0x722 => .mapView | 0x723 => .bbtSel | 0x724 => .bbtView | 0x725 => .mapStat
  | 0x730 => .upkeepCtrl | 0x731 => .slideCtrl | 0x732 => .kilnCtrl | 0x733 => .scrubCtrl | 0x734 => .upkeepStat
  | 0xE40 => .traceCtrl | 0xE41 => .traceStat
  | _ => .unimplemented

/-- The register that a number names (R599, Table 16.3, Table 17.1). -/
def regOf (r : BitVec 12) : RegRef :=
  let n := r.toNat
  if 0x100 ≤ n ∧ n < 0x200 then portReg ⟨(n - 0x100) / 0x20 % 8, Nat.mod_lt _ (by decide)⟩ (n % 0x20)
  else if 0x200 ≤ n ∧ n < 0x240 then annexReg ⟨(n - 0x200) / 0x20 % 2, Nat.mod_lt _ (by decide)⟩ (n % 0x20)
  else if 0x280 ≤ n ∧ n < 0x300 then galReg ⟨(n - 0x280) / 0x20 % 4, Nat.mod_lt _ (by decide)⟩ (n % 0x20)
  else if 0x300 ≤ n ∧ n < 0x400 then subReg ⟨(n - 0x300) / 8 % 32, Nat.mod_lt _ (by decide)⟩ (n % 8)
  else if 0x400 ≤ n ∧ n < 0x480 then
    .leaf ⟨(n - 0x400) / 4 % 32, Nat.mod_lt _ (by decide)⟩ ⟨n % 4, Nat.mod_lt _ (by decide)⟩
  else if 0x500 ≤ n ∧ n < 0x600 then bankReg ⟨(n - 0x500) / 4 % 64, Nat.mod_lt _ (by decide)⟩ (n % 4)
  else if 0x600 ≤ n ∧ n < 0x700 then wearReg ⟨(n - 0x600) / 4 % 64, Nat.mod_lt _ (by decide)⟩ (n % 4)
  else if 0x800 ≤ n ∧ n < 0xC20 then gateReg ⟨(n - 0x800) / 0x10 % 66, Nat.mod_lt _ (by decide)⟩ (n % 0x10)
  else if 0xE00 ≤ n ∧ n < 0xE40 then .trace ⟨n % 64, Nat.mod_lt _ (by decide)⟩
  else singleReg n

/-! ### Field helpers -/

/-- A field value at a bit position. -/
def fld {w : Nat} (v : BitVec w) (lo : Nat) : Word := (v.setWidth 64) <<< lo
def bit (b : Bool) (lo : Nat) : Word := fld (BitVec.ofBool b) lo

/-- Fields of one register, each in its place. -/
def fields (l : List Word) : Word := l.foldl (· ||| ·) 0

def natField (n w lo : Nat) : Word := fld (BitVec.ofNat w n) lo

/-! ### Sensed and derived values -/

/-- Least stage count for target `u` in mV (R536). -/
def sminOf (u mv : Nat) : Nat := if mv = 0 then 8 else min 8 (max 2 ((u * 100 + 85 * mv - 1) / (85 * mv) - 1))

/-- SMIN as reported: 0 until step 1 has sensed VCC (Table 17.2). -/
def State.sminField (s : State) (u : Nat) : Nat := if s.boot.step = 1 then 0 else sminOf u s.power.mv.toNat

/-- EFF of a bank (R370); 32 at release, before step 1. -/
def State.effRef (s : State) (k : Bank) : Nat :=
  if k.plumbOver then k.setref.toNat
  else if s.boot.step = 1 then 32
  else (max 0 (min 63 ((k.ref.toNat : Int) + (s.power.temp.toInt - 25) / 16))).toNat

/-- INT_STAT (Table 16.10). -/
def State.intStat (s : State) : Word :=
  fields [fld s.glob.direct 32, fld (BitVec.ofNat 8 (allPorts.foldl (fun a p => if s.compl p then a + 2 ^ p.val else a) 0)) 24,
    fld s.glob.causes 0]

def State.intMask (s : State) : Word :=
  fields [fld s.glob.maskDirect 32, fld s.glob.maskCompl 24, fld s.glob.maskCauses 0]

/-- INT# is driven low (R593). -/
def State.intOut (s : State) : Bool := s.glob.inten && (s.intStat &&& s.intMask != 0)

/-! ### Reads, chapter by chapter -/

def Port.readMode (p : Port) : Word := fields [bit p.pol3 5, bit p.plain 4, fld p.mode 0]
def Port.readTiming (p : Port) : Word := fields [fld p.holdLimit 32, fld p.waits 0]
def Port.readPeriod (p : Port) : Word := fields [bit p.declared 32, fld p.period 0]
def Port.readStat (p : Port) : Word :=
  fields [fld p.holds 48, fld p.crcerrs 32, bit p.modeConflict 5, bit p.badset 4, bit p.badop 3, bit p.holdExpired 2,
    bit p.underrun 1]
def Port.readCmd (p : Port) (busy : Bool) : Word :=
  fields [fld p.stones 48, fld p.result 40, fld p.lastop 32, fld p.units 16, bit busy 7, bit p.armed 6, bit p.notarmed 5,
    bit p.stopped 4, bit p.eccfail 3, bit p.eccfix 2, bit p.pktbad 1]
def Port.readSubs (p : Port) : Word := fields [fld p.mask 32, bit p.subx 8, fld p.dflt 0]
def Port.readTrain (p : Port) : Word :=
  fields [fld p.edge 56, fld p.silent 48, fld p.silenceLimit 40, fld p.reverts 32, fld p.chosen 24, fld p.trainResult 16,
    fld p.vqband 6, bit p.trial 5, bit p.override 1, bit p.freeze 0]
def Port.readDrift (p : Port) : Word := fields ((List.finRange 8).map (fun k => fld p.drift[k.val] (8 * k.val)))
def Port.readChain (p : Port) : Word :=
  fields [fld p.latches 48, fld p.rejects 32, fld p.chipid 8, bit p.chainWpx 4, bit p.lastbad 3, bit p.lastok 2,
    bit p.booten 1, bit p.chainEn 0]

/-- An exchange of the annex is in progress (ANX_STAT.BUSY): a READ that streams, or the read of a ledger FETCH that runs.
Every other exchange is over in the command that brings it.
Log entry 49 (DESIGN CHOICE). -/
def State.exchanging (s : State) (a : AnnexId) : Bool :=
  (s.anx a).stream.isSome || s.ledger.ops.any (fun o => o.opcode == opFetch && o.state == .running && o.annexOf == some a
    && s.gateOpenFor o o.addr && (match o.work with | .fetching _ => true | _ => false))

/-! ### Annex pins (R471 to R475, R506 to R513, R526) -/

/-- What the FY16 makes of an annex output: it does not drive it, holds it at a level, or clocks it in an exchange. -/
inductive PinOut where
  | off
  | level (high : Bool)
  | clocked
  deriving DecidableEq, Repr

/-- The annex drives its pins: VCCQA, supply group 4, is there (R526). -/
def State.annexDrives (s : State) : Bool := s.pins.supply.getLsbD 4

/-- AnSELk: low in an exchange with partner k, here a READ that streams, or as SELLOW has it; it is never driven high, and an
annex that has yielded drives none (R474, R506, R507, R513). -/
def State.selOut (s : State) (a : AnnexId) (k : PartnerId) : PinOut :=
  let x := s.anx a
  let reads := match x.stream with | some (p, _) => p == k | none => false
  if s.annexDrives && !x.yielded && (reads || (x.sellow.getLsbD k.val && !x.partners[k.val].en)) then .level false else .off

/-- AnSCK (R475, R476, R508, R513). -/
def State.sckOut (s : State) (a : AnnexId) : PinOut :=
  let x := s.anx a
  if !s.annexDrives || x.yielded then .off
  else if x.stream.isSome then .clocked
  else if x.manualon && x.sckoe then .level x.sckout else .off

/-- AnDQk, which the partner drives in the data phase of a READ (R475, R508, R513). -/
def State.annexDqOut (s : State) (a : AnnexId) (k : Fin 4) : PinOut :=
  let x := s.anx a
  if s.annexDrives && !x.yielded && x.stream.isNone && x.manualon && x.dqoe.getLsbD k.val then .level (x.dqout.getLsbD k.val)
  else .off

/-- The level of a line that reads `outside` while the FY16 does not drive it. A line that it clocks is at one level or the
other.
Log entry 50 (DESIGN CHOICE). -/
def PinOut.read (o : PinOut) (outside : Bool) (clock : Bool) : Bool := match o with
  | .off => outside
  | .level h => h
  | .clocked => clock

/-- Levels of the four selects and the four AnDQ (Table 13.7). -/
def State.selLevels (s : State) (a : AnnexId) : BitVec 4 :=
  let l := fun (k : PartnerId) => BitVec.ofBool ((s.selOut a k).read ((s.anx a).selIn.getLsbD k.val) true)
  l 3 ++ l 2 ++ l 1 ++ l 0
def State.dqLevels (s : State) (a : AnnexId) : BitVec 4 :=
  let l := fun (k : Fin 4) => BitVec.ofBool ((s.annexDqOut a k).read ((s.anx a).dqIn.getLsbD k.val) true)
  l 3 ++ l 2 ++ l 1 ++ l 0

/-- A write of EN = 0 that waits for the last running operation (R511) reads as EN 0 at once: what EN reads meanwhile the
spec does not say.
Log entry 58 (DEDUCED). -/
def Annex.readCtrl (x : Annex) : Word := fields [bit x.manual 1, bit (x.en && !x.enOff) 0]
def Annex.readStat (x : Annex) (busy : Bool) : Word :=
  fields [fld x.modfs 48, bit x.reclaimx 7, bit x.nostrobe 6, bit x.badset 5, bit x.gpioConf 4, bit x.modf 3,
    bit x.yielded 2, bit x.manualon 1, bit busy 0]
/-- ANX_GPIO: its input fields read the levels of the pins.
Log entry 50 (DESIGN CHOICE). -/
def State.readGpio (s : State) (a : AnnexId) : Word :=
  let x := s.anx a
  fields [fld (s.selLevels a) 28, fld x.sellow 24, bit ((s.sckOut a).read x.sckIn (Config.freeBool s.freeCtr)) 19,
    bit x.rdsIn 18, bit x.sckout 17, bit x.sckoe 16, fld (s.dqLevels a) 12, fld x.dqout 8, fld x.dqoe 4]
def Partner.readCfg (p : Partner) : Word :=
  fields [fld p.dtrop 56, fld p.dtrdummy 51, fld p.maxmode 16, bit p.userds 2, bit p.en 0]
def Partner.readMap (p : Partner) : Word := fields [fld p.base 16, fld p.size 0]
def Partner.readMode (p : Partner) : Word :=
  fields [fld p.state 62, fld p.mode 59, bit p.addr4 58, bit p.confblank 57, fld p.page 53, fld p.effsize 48,
    fld p.erasesz 43, fld p.eraseop 35, fld p.dummy 30, fld p.id 0]
def Partner.readStat (p : Partner) : Word :=
  fields [fld p.losts 48, fld p.timeouts 32, fld p.lastres 8, bit p.mapfault 2, bit p.fenced 1, bit p.owner.isSome 0]

def Pump.read (p : Pump) (smin : Nat) : Word :=
  fields [fld p.changes 48, natField smin 4 36, bit p.running 35, bit p.reglow 34, bit p.override 33, bit p.freeze 32,
    fld p.lean 24, fld p.setStages 12, fld p.setPhase 8, fld p.stages 4, fld p.phase 0]
def Gal.readTamp (g : Gal) : Word :=
  fields [fld g.lastpulses 48, bit g.tampEdge 42, bit g.tampOver 41, bit g.tampFreeze 40, fld g.tampLean 32, fld g.setWidth 24,
    fld g.setHeight 16, fld g.width 8, fld g.height 0]
def weightWord (w : Vector (BitVec 8) 4) : Word := fields [fld w[3] 24, fld w[2] 16, fld w[1] 8, fld w[0] 0]
def Gal.readSched (g : Gal) : Word :=
  fields [fld g.dispatches 32, fld g.floors 16, fld g.lastslot 8, bit g.lastledger 7, fld g.lastsvc 0]

/-- GgLVIEW (Table 10.8): AWAKE and the finish tag of the selected leaf or service. -/
def State.readLview (s : State) (g : GalId) : Word :=
  let x := s.gal g
  let v : SvcId := (x.lsel.extractLsb' 0 2).toFin
  let i : SubId := (x.lsel.extractLsb' 2 5).toFin
  if x.lsel.getLsbD 7 then fields [bit (!(s.offering g v).isEmpty) 63, fld x.fs[v.val] 0]
  else fields [bit (s.offer g v i).isSome 63, fld (x.fl.toList.getD (leafIx i v) 0) 0]

def Sub.readBuckets (u : Sub) : Word := fields [natField (u.tc / 65536) 32 32, natField (u.tp / 65536) 32 0]
def Sub.readMstat (u : Sub) : Word := fields [fld u.greens 48, fld u.yellows 32, fld u.reds 16]
def Sub.readQuota (u : Sub) (held : Nat) : Word :=
  fields [natField held 9 32, fld u.max 16, bit u.quotax 15, fld u.reserve 0]
def Sub.readSeq (u : Sub) : Word := fields [natField u.dedup.length 6 8, fld u.last 0]
def Leaf.read (l : Leaf) : Word := fields [fld l.maxdelay 44, fld l.delay 24, fld l.maxdepth 12, fld l.depth 0]

def BankState.code : BankState → BitVec 3
  | .idle => 0 | .laying => 1 | .clearing => 2 | .firing => 3 | .suspending => 4 | .suspended => 5 | .nestlay => 6

/-- The operation of the lay, clear or firing in progress or suspended on a bank: the lay first. -/
def Bank.currentOp (b : Bank) : Option Nat := match b.lay with
  | some l => some l.op
  | none => b.clear.map (·.op)

/-- SUSPBLOCK and SECTOR (R631). -/
def Bank.suspWord (b : Bank) : Word := match b.isSuspended, b.clear with
  | true, some c => if c.purpose == .operation then
      (match c.unit with
        | .block _ => natField c.lblock 9 40
        | .sector _ k => fields [natField c.lblock 9 40, natField k 4 36]
        | .page _ => natField 0x1FF 9 40)
    else natField 0x1FF 9 40
  | _, _ => natField 0x1FF 9 40

def State.readBankStat (s : State) (b : Fin 64) : Word :=
  let k := s.bank (bankIx b)
  let who := k.currentOp.bind s.op?
  let ident := match who with
    | some o => (match o.origin with
        | .ledger n => fields [natField n.val 8 56, bit true 49]
        | .direct p => fields [natField 0xFF 8 56, bit true 55, natField p.val 3 52])
    | none => natField 0xFF 8 56
  fields [ident, k.suspWord, bit k.worn 7, bit k.deferred 6, bit k.hostsusp 5, bit (!k.relocs.isEmpty) 4, bit k.noreserve 3,
    fld k.state.code 0]

def MoveKind.code : MoveKind → Nat
  | .slide => 1 | .kilnSwap => 2 | .scrub => 3 | .relocation => 4

/-- BnUPKEEP: MOVEKIND shows the move that began first of those under way.
Log entry 16 (DESIGN CHOICE). -/
def Bank.readUpkeep (b : Bank) : Word :=
  fields [fld b.moves 48, fld b.swaps 32, fld b.since 16,
    natField (match b.moving with | m :: _ => m.kind.code | [] => 0) 3 3, bit b.nogap 2, bit b.overdue 1]

def State.readPlumb (s : State) (k : Bank) : Word :=
  fields [bit k.plumbEdge 34, bit k.plumbOver 33, bit k.plumbFreeze 32, natField (s.effRef k) 6 24, fld k.plumbLean 16,
    fld k.setref 8, fld k.ref 0]

/-- A wear selection is in range: a slot to 543, or a footing sector in B00 and B63 (Table 09.7). -/
def Bank.wselOk (b : Fin 64) (k : Bank) : Bool :=
  if k.wselFoot then b.val == 0 || b.val == 63 else decide (k.wselSlot.toNat < 544)

/-- Log entry 58 (DEDUCED). -/
def State.readWview (s : State) (b : Fin 64) : Word :=
  let k := s.bank (bankIx b)
  if !k.wselOk b then 0
  else
    let w := s.wearOf (bankIx b) (if k.wselFoot then 1000 + k.wselSector.toNat else k.wselSlot.toNat)
    fields [natField (if k.wselFoot then 0 else w.2) 17 40, natField w.1 24 0]

def SlotState.code : SlotState → Nat
  | .mapped => 0 | .gap => 1 | .reserve => 2 | .footing => 3 | .factoryBad => 4 | .grownBad => 5 | .kiln => 6

/-- MAP_VIEW (Table 07.9): 0 for a closed bank and for a slot out of range. -/
def State.readMapView (s : State) : Word :=
  let b : Fin 64 := s.glob.mapBank.toFin
  let k := s.glob.mapSlot.toNat
  let r := (s.bank (bankIx b)).kept
  if s.closedBank b || decide (544 ≤ k) then 0
  else
    let st := r.slotState (bankIx b) k
    let holds := if st == .mapped || st == .footing then r.blockOf k else none
    fields [natField st.code 3 61, bit (s.glob.mapmode.getLsbD b.val) 60, natField (r.slotOf s.glob.mapBlock.toNat) 10 48,
      natField (holds.getD 0x3FF) 10 32, natField (r.reserveCount (bankIx b)) 6 26,
      natField (r.slotsIn (bankIx b) .factoryBad).length 4 22, natField (r.slotsIn (bankIx b) .grownBad).length 6 16,
      natField (r.gap.getD 0x3FF) 10 0]

/-- Words 1 to 39 of a bad-block record (Table 07.4). -/
def Bbt.word (t : Bbt) (i : Nat) : Word :=
  if 1 ≤ i ∧ i ≤ 8 then (match t.factory[i - 1]? with | some k => fields [bit true 63, fld k 0] | none => 0)
  else if 9 ≤ i ∧ i ≤ 39 then (match t.grown[i - 9]? with
    | some (c, st, k) => fields [bit true 63, fld c 56, fld st 16, fld k 0]
    | none => 0)
  else 0

def Bbt.crc (t : Bbt) : BitVec 16 := crc16 ((List.range 39).flatMap (fun i => be64 (t.word (i + 1))))

def Bbt.word0 (t : Bbt) : Word :=
  fields [natField 1 8 56, natField t.factory.length 8 48, natField t.grown.length 8 40, bit t.overflow 39, fld t.crc 0]

def State.readBbtView (s : State) : Word :=
  let b : Fin 64 := s.glob.bbtBank.toFin
  let t := (s.bank (bankIx b)).kept.bbt
  if s.closedBank b || decide (40 ≤ s.glob.bbtWord.toNat) then 0
  else if s.glob.bbtWord = 0 then t.word0 else t.word s.glob.bbtWord.toNat

def State.readLifeStat (s : State) : Word :=
  let l := s.life
  fields [fld l.toclear 48, fld l.cleared 32, fld l.failed 24, bit l.stuck 7, bit l.wpwait 6, bit l.codex 5, bit l.lvlx 4,
    bit l.wpx 3, bit l.jbad 2, fld l.phase 0]

/-- The gate at which a running operation waits itself: a FETCH with its next stone, a window lay or clear, a HAUL with its
next source stone while it stages and with its destination once it has (R423, R519). -/
def State.heldAt (s : State) (o : Op) : Option GateId :=
  if o.state != .running || o.house then none
  else match o.work with
    | .fetching r => if r.cold && !r.gated then gateOf o.nextStone else none
    | .staging r => if r.cold && !r.gated then gateOf o.nextStone else none
    | .gateHeld => gateOf (o.addr + BitVec.ofNat 32 (if o.opcode = opHaul then 8 * o.units.toNat else 0))
    | _ => match o.aheadRun with
      | some r => if r.cold && !r.gated then gateOf o.nextStone else none
      | none => none

/-- Accesses held at a gate now, saturating at 127 (GATE_STAT.HELD): held lays and clear units, held window steps, held
ledger FETCHes and held direct fetches. -/
def State.gateHeld (s : State) (g : GateId) : Nat :=
  if (s.gate g).en then 0
  else
    let lays := s.banks.toList.zipIdx.countP (fun (b, i) => i == g.val &&
      ((match b.lay with | some l => l.held && !s.stagingOp l.op | none => false)
       || (match b.clear with | some c => c.held && !c.boundary | none => false)))
    let ops := s.ledger.ops.countP (fun o => s.heldAt o == some g)
    let ports := s.ports.toList.countP (fun p => p.hold.isSome && (match p.fetch with
      | some f => !f.raw && !f.passed && gateOf f.addr == some g
      | none => false))
    min 127 (lays + ops + ports)

def State.readGateStat (s : State) (g : GateId) : Word :=
  let x := s.gate g
  fields [fld x.epoch 32, fld x.denies 16, natField (s.gateHeld g) 7 9, bit x.wpx 8, fld x.fault 6, fld x.faulta 3,
    fld x.faultb 0]

/-- PACE_STAT (Table 02.8). Under R34 the holder is the nominated port from the moment it takes pace.
Log entry 74 (DEDUCED). -/
def State.readPaceStat (s : State) : Word :=
  let p := s.pace
  let ok := match p.holder with | some h => (s.port h).qualifies | none => false
  fields [fld p.guardTrips 32, fld p.handovers 16, bit p.badperiod 8, bit ok 7, bit (p.holder.isSome && decide (0 < p.sync)) 6,
    bit (p.policy && p.holder == some p.fixedPort) 5,
    (match p.holder with | some h => natField h.val 3 0 | none => 0)]

def State.readLedgerStat (s : State) : Word :=
  let l := s.ledger
  let un := l.ops.countP (fun o => !o.isDirect && o.state == .complete)
  fields [fld l.lapses 48, fld l.cycles 32, bit l.aftermiss 31, natField un 9 18, natField (s.heldSlots - un) 9 9,
    natField (256 - s.heldSlots) 9 0]

def State.readYardStat (s : State) : Word :=
  let held := s.ledger.yard.countP (fun e => match s.op? e.owner with
    | some o => o.state == .complete && o.opcode == opFetch
    | none => false)
  fields [fld s.ledger.yardFulls 48, natField held 9 9, natField s.yardFree 9 0]

def State.readTokenStat (s : State) : Word :=
  let bank := match s.power.reserved.bind s.op? with
    | some o => (match o.bankOf with | some b => b.val | none => 0)
    | none => 0
  fields [fld s.power.reservations 48, bit s.power.reserved.isSome 40, natField bank 7 32, natField s.portTokens 16 16,
    natField s.heldTokens 16 0]

/-- A register's 64 bits, each field as it stands. WO fields read 0, reserved bits read 0 (R9, R588).
Log entry 58 (DEDUCED). -/
def State.regValue (s : State) : RegRef → Word
  | .ident => 0x5A50465916080200
  | .revision => 0x0000000001020043
  | .uidHi => s.pins.uid.extractLsb' 64 64
  | .uidLo => s.pins.uid.extractLsb' 0 64
  | .caps => 0x4240408040208424
  | .globalCtrl => fields [fld s.glob.cfgports 8, bit s.glob.inten 0]
  | .globalStat => fields [fld s.glob.regwrites 48, fld s.glob.denynum 32, fld s.glob.denyport 8, bit s.intOut 2,
      bit s.glob.noreg 1, bit s.glob.regdeny 0]
  | .devtime => s.pace.devtime
  | .paceCtrl => fields [natField s.pace.fixedPort.val 3 4, bit s.pace.policy 0]
  | .paceStat => s.readPaceStat
  | .intStat => s.intStat
  | .intMask => s.intMask
  | .violInfo => s.glob.violInfo
  | .violAddr => s.glob.violAddr
  | .violLost => fld s.glob.violLost 0
  | .level => fields [bit s.life.regPending 8, fld s.levelNow 0]
  | .lifeStat => s.readLifeStat
  | .priv => fld s.life.priv 0
  | .resetStat => fields [fld s.boot.boots 48, bit s.boot.softx 9, fld s.boot.cause 0]
  | .bootStat => fields [fld s.boot.cycles 32, fld s.boot.imgbad 16, bit s.boot.cfgbad 7, bit (s.boot.closed != 0) 6,
      bit s.boot.copy2 5, bit s.boot.jskip 4, bit s.boot.jwait 3, fld s.boot.step 0]
  | .bootBanks => s.boot.closed
  | .supplyBudget => fld s.power.budget 0
  | .budgetStat => fields [fld s.power.brownouts 48, fld s.power.peak 32, bit s.power.badset 2, bit s.power.brownseen 1,
      bit s.power.brown 0]
  | .vccSense => fields [fld s.power.min 48, fld s.power.mv 0]
  | .tempSense => fields [bit s.power.hold 8, fld s.power.temp 0]
  | .loopFreeze => fields [bit s.upkeep.freezeTamp 1, bit s.upkeep.freezePlumb 0]
  | .cost0 => s.power.cost0
  | .cost1 => s.power.cost1
  | .tamp g => (s.gal g).readTamp
  | .tokens => s.power.tokens
  | .tokenStat => s.readTokenStat
  | .lpump g => (s.gal g).lpump.read (s.sminField 11000)
  | .cpump g => (s.gal g).cpump.read (s.sminField 12000)
  | .events => s.ledger.events
  | .eventSet => 0
  | .eventClr => 0
  | .ledgerStat => s.readLedgerStat
  | .ledgerSel => fld s.ledger.sel 0
  | .view i => if i = 0 then s.ledger.view0 else if i = 1 then s.ledger.view1 else if i = 2 then s.ledger.view2
      else s.ledger.view3
  | .standstill => fields [fld s.ledger.standCount 32, fld s.ledger.standOldest 24, fld s.ledger.standWaiters 8,
      bit s.ledger.standFlag 0]
  | .dedupCtrl => fields [fld s.ledger.dedupOff 32, fld s.ledger.dedupSub 0]
  | .yardStat => s.readYardStat
  | .lapseLimit => fld s.ledger.lapseLimit 0
  | .standLimit => fld s.ledger.standLimit 0
  | .mode n => (s.port n).readMode
  | .timing n => (s.port n).readTiming
  | .len n => fld (s.port n).len 0
  | .period n => (s.port n).readPeriod
  | .portStat n => (s.port n).readStat
  | .cmd n => (s.port n).readCmd (s.directBusy n)
  | .subsReg n => (s.port n).readSubs
  | .train n => (s.port n).readTrain
  | .taps n => fld (s.port n).taps 0
  | .drift n => (s.port n).readDrift
  | .chain n => (s.port n).readChain
  | .anxCtrl a => (s.anx a).readCtrl
  | .anxStat a => (s.anx a).readStat (s.exchanging a)
  | .anxDiv a => fld (s.anx a).div 0
  | .anxGpio a => s.readGpio a
  | .anxCmdset a => (s.anx a).cmdset
  | .anxTimeout a => (s.anx a).timeout
  | .pcfg a p => (s.partner a p).readCfg
  | .pmap a p => (s.partner a p).readMap
  | .pmode a p => (s.partner a p).readMode
  | .pstat a p => (s.partner a p).readStat
  | .galWeight g => weightWord (s.gal g).weight
  | .vtime g => fld (s.gal g).vg 0
  | .sched g => (s.gal g).readSched
  | .lsel g => fld (s.gal g).lsel 0
  | .vsvc g v => fld (s.gal g).vs[v.val] 0
  | .lview g => s.readLview g
  | .commit i => fields [fld (s.sub i).cir 32, fld (s.sub i).cbs 0]
  | .peak i => fields [fld (s.sub i).pir 32, fld (s.sub i).pbs 0]
  | .buckets i => (s.sub i).readBuckets
  | .subWeight i => weightWord (s.sub i).weight
  | .mstat i => (s.sub i).readMstat
  | .quota i => (s.sub i).readQuota (s.held i)
  | .seq i => (s.sub i).readSeq
  | .leaf i v => (s.sub i).leaf[v.val].read
  | .sampleCtrl => fields [bit s.power.sampleFreeze 40, fld s.power.sampleScope 32, fld s.power.sampleInt 0]
  | .sampleStat => fields [fld s.power.missed 48, fld s.power.samples 32, fld s.power.sampleStamp 0]
  | .bankCtrl b => fields [bit (s.bank (bankIx b)).autoSuspend 1, bit (s.bank (bankIx b)).unlimited 0]
  | .bankStat b => s.readBankStat b
  | .bankSusp b => fields [fld (s.bank (bankIx b)).minrun 32, fld (s.bank (bankIx b)).resumewait 0]
  | .tally b => let k := s.bank (bankIx b); fields [fld k.suspends 48, fld k.starve 32, fld k.layfails 16, fld k.clearfails 0]
  | .wsel b => let k := s.bank (bankIx b); fields [bit k.wselFoot 20, fld k.wselSector 16, fld k.wselSlot 0]
  | .wview b => s.readWview b
  | .bankUpkeep b => (s.bank (bankIx b)).readUpkeep
  | .plumb b => s.readPlumb (s.bank (bankIx b))
  | .markLock => fields [fld s.life.hide 16, fld s.life.lock 0]
  | .journalSel => fields [bit s.life.jselCopy 8, bit s.life.jselWord 0]
  | .journalView => let j := if s.life.jselCopy then s.plinth.jB else s.plinth.jA
      if s.life.jselWord then j.w1 else j.w0
  | .mapmode => s.glob.mapmode
  | .mapSel => fields [fld s.glob.mapBank 32, fld s.glob.mapBlock 16, fld s.glob.mapSlot 0]
  | .mapView => s.readMapView
  | .bbtSel => fields [fld s.glob.bbtBank 32, fld s.glob.bbtWord 0]
  | .bbtView => s.readBbtView
  | .mapStat => fields [fld s.glob.deferred 48, bit s.glob.mapWpx 1, bit s.glob.badsel 0]
  | .upkeepCtrl => fields [bit s.upkeep.pause 32, fld s.upkeep.floorwait 0]
  | .slideCtrl => fld s.upkeep.slideInt 0
  | .kilnCtrl => fld s.upkeep.kilnAt 0
  | .scrubCtrl => fields [fld s.upkeep.nextbank 58, fld s.upkeep.nextblock 48, fld s.upkeep.fixmax 40, fld s.upkeep.scrubInt 0]
  | .upkeepStat => fields [fld s.upkeep.defers 48, fld s.upkeep.relocs 32, bit s.upkeep.badset 0]
  | .gateCtrl g => fields [bit (s.gate g).strict 1, bit (s.gate g).en 0]
  | .gateStat g => s.readGateStat g
  | .gateRegion g i => (s.gate g).regions[i.val]
  | .trace n => s.trace.entries[n.val]
  | .traceCtrl => bit s.trace.freeze 0
  | .traceStat => fields [fld s.trace.total 32, fld s.trace.fill 8, fld s.trace.next 0]
  | .unimplemented => 0

/-- A register that reads 0 now: outside 0x000 to 0x03F and 0x100 to 0x1FF during boot (Table 15.4), and the gates'
while regression is pending (Table 12.3). -/
def State.readsZero (s : State) (r : BitVec 12) : Bool :=
  (s.booting && !(decide (r.toNat < 0x40) || decide (0x100 ≤ r.toNat ∧ r.toNat < 0x200)))
  || (s.life.regPending && (match regOf r with
      | .gateCtrl _ => true
      | .gateStat _ => true
      | .gateRegion _ _ => true
      | _ => false))

/-- What a REGRD of register `r` returns (R586, R587). -/
def State.readReg (s : State) (r : BitVec 12) : Word := if s.readsZero r then 0 else s.regValue (regOf r)

/-- A read whose selection is out of range (R296, R378). -/
def State.badSelection (s : State) (r : BitVec 12) : Bool := !s.readsZero r && (match regOf r with
  | .mapView => decide (544 ≤ s.glob.mapSlot.toNat)
  | .bbtView => decide (40 ≤ s.glob.bbtWord.toNat)
  | .wview b => !(s.bank (bankIx b)).wselOk b
  | _ => false)

end Sys2Proof.Machine
end

