-- ==== Sys2Proof/Machine/Holder.lean ====
section
/-! DEFINITION. Who holds pace (R29 to R39): taking it, handing it over, and the change of policy. -/
namespace Sys2Proof.Machine

/-- Ports whose CS# counts as low, lowest first. -/
def State.lowPorts (s : State) : List PortId := allPorts.filter (fun p => (s.port p).low)

/-- Port `p` becomes the holder: HANDOVERS and two synchronising edges (R35, R38). A port that holds already keeps pace. -/
def State.takePace (s : State) (p : PortId) : State :=
  if s.pace.holder = some p then s
  else s.modPace (fun x => { x with holder := some p, oldPacer := none, oldSync := 0, sync := 2, handovers := x.handovers + 1 })

/-- Under the fixed policy the nominated port takes pace from the holder, whose edges remain pace edges until the nominated
port's first (R34). A holder that still owes synchronising edges goes on owing them (R35, R36); one that never got to pace
under R34 itself leaves the older pacer in place. -/
def State.nominatedTakes (s : State) (p : PortId) : State :=
  let x := s.pace
  match x.oldPacer with
  | some o => (s.takePace p).modPace (fun y => { y with oldPacer := some o, oldSync := x.oldSync })
  | none => (s.takePace p).modPace (fun y => { y with oldPacer := x.holder, oldSync := x.sync })

/-- The nominated port under the fixed policy, while its CS# is low (R33). -/
def State.nominated (s : State) : Option PortId :=
  if s.pace.policy && (s.port s.pace.fixedPort).low then some s.pace.fixedPort else none

/-- A port takes pace where none holds it: the nominated one, else the lowest-numbered low one (R29, R33). -/
def State.baton (s : State) : State := match s.nominated with
  | some p => s.takePace p
  | none => match s.lowPorts.head? with
    | some p => s.takePace p
    | none => s

/-- No port holds pace. -/
def State.dropPace (s : State) : State :=
  s.modPace (fun x => { x with holder := none, oldPacer := none, oldSync := 0, sync := 0 })

/-- The holder's CS# has risen: the lowest-numbered low port becomes the holder, or none (R31). `late` names ports whose
CS# fell less than 5 ns real before; of those each may or may not count, as the free value has it (R32). A late port that
does not count takes pace by its own fall where no other port does (R29).
Log entry 9 (DESIGN CHOICE). -/
def State.handOver (s : State) (late : BitVec 8) : State :=
  let counts := fun (p : PortId) => !late.getLsbD p.val || Config.freeBool (s.freeCtr + p.val)
  let s1 := if late = 0 then s else { s with freeCtr := s.freeCtr + 8 }
  match s1.lowPorts.find? counts with
  | some p => s1.dropPace.modPace (fun x => { x with holder := some p, sync := 2, handovers := x.handovers + 1 })
  | none => s1.dropPace.baton

/-- A pacer that has lost its CS# under R34 paces no more. -/
def State.checkOldPacer (s : State) : State := match s.pace.oldPacer with
  | some o => if (s.port o).low then s else s.modPace (fun x => { x with oldPacer := none, oldSync := 0 })
  | none => s

/-- PACE_CTRL acts (R39). -/
def State.setPolicy (s : State) (policy : Bool) (fixedPort : PortId) : State :=
  let s1 := s.modPace (fun x => { x with policy := policy, fixedPort := fixedPort })
  match s1.pace.holder, s1.nominated with
  | none, _ => s1.baton
  | some h, some n => if h = n then s1 else s1.nominatedTakes n
  | some _, none => s1

end Sys2Proof.Machine
end

