-- ==== Sys2Proof/Machine/RegWrite.lean ====
section
/-! DEFINITION. Register writes (16): which entries are taken, ignored or refused, what each register's chapter makes of a
written value, and which values act at the CS# rise that ends the writing transaction (R580). -/
namespace Sys2Proof.Machine

/-- A field of a written value. -/
def fieldOf (v : Word) (lo w : Nat) : BitVec w := v.extractLsb' lo w

/-- Access code W1C: a 1 clears the bit (Table 00.4). -/
def w1c {w : Nat} (old written : BitVec w) : BitVec w := old &&& ~~~ written
def w1cBit (old written : Bool) : Bool := old && !written

/-! ### Configuration record (15) -/

/-- The configuration record for a change of BOOTEN: the registers as they stand, but until boot step 3 has loaded them
the rest of the record as the plinth holds it.
Log entry 47 (DEDUCED). -/
def State.writeBooten (s : State) : State :=
  if s.booting && decide (s.boot.step.toNat ≤ 3) then
    match s.plinth.config.newest with
    | some (c, _) => s.plinthWrite (.config { c with booten := s.configNow.booten })
    | none => s.writeConfig
  else s.writeConfig

/-! ### Ledger views (R260, Table 06.10 to Table 06.13) -/

def OpState.code : OpState → Nat
  | .admitting => 1 | .queued => 2 | .running => 3 | .suspended => 4 | .complete => 5

def Colour.code : Colour → Byte
  | .green => 0x00 | .yellow => 0x01 | .none => 0xFF

def Op.view0 (o : Op) : Word :=
  fields [natField o.state.code 4 60, natField o.sub.val 5 48, fld o.seq 40, fld o.opcode 32, fld o.addr 0]

def Op.view1 (o : Op) : Word :=
  fields [fld o.count 48, fld o.after 40, fld o.wait 32, fld o.signal 24, fld o.flags 16, fld o.colour.code 8,
    natField (match o.yard with | some k => k.val | none => 0xFF) 8 0]

def State.view2 (s : State) (o : Op) : Word :=
  let b := s.blocker o
  fields [natField (match b with | some k => k.val | none => 0xFF) 8 56, fld (s.why o) 52, bit b.isSome 51,
    fld (if o.state == .complete then o.result else 0xFF) 40, fld (s.progressNow o) 24, fld o.epoch 16,
    bit o.yard.isSome 11, natField (if o.house then 0 else o.port.val) 3 8, bit o.marked 0]

def State.view3 (s : State) (o : Op) : Word := fields [fld o.admitted 32, natField (s.unitsNow o) 32 0]

/-- Capture the selected slot. A FREE slot has no packet, and its fields read 0 but those that read 0xFF without a yard slot,
a blocker or a result (Table 06.11, Table 06.12). COLOUR reads 0xFF for none.
Log entry 58 (DEDUCED). -/
def State.captureViews (s : State) (sel : BitVec 8) : State :=
  match s.opOfSlot sel.toFin with
  | some o => s.modLedger (fun l => { l with sel := sel, view0 := o.view0, view1 := o.view1, view2 := s.view2 o, view3 := s.view3 o })
  | none => s.modLedger (fun l => { l with
      sel := sel, view0 := 0, view1 := fields [fld (0xFF : Byte) 8, fld (0xFF : Byte) 0],
      view2 := fields [fld (0xFF : Byte) 56, fld (0xFF : Byte) 40], view3 := 0 })

/-! ### Host port registers -/

/-- HnTIMING: WAITS from 2 to 31 (R89); HOLD_LIMIT takes any value. -/
def Port.writeTiming (p : Port) (v : Word) : Port :=
  let w : BitVec 5 := fieldOf v 0 5
  let q := { p with holdLimit := fieldOf v 32 20 }
  if 2 ≤ w.toNat then { q with waits := w } else { q with badset := true }

/-- HnTIMING at the rise: up for the next transaction of the port (R114). -/
def Port.riseTiming (p : Port) (v : Word) : Port :=
  let w : BitVec 5 := fieldOf v 0 5
  let q := { p with holdLimitSet := fieldOf v 32 20 }
  if 2 ≤ w.toNat then { q with waitsSet := w } else q

/-- HnLEN: 1 to 8,192 (R112). -/
def lenOk (v : Word) : Bool := decide (1 ≤ (fieldOf v 0 14).toNat ∧ (fieldOf v 0 14).toNat ≤ 8192)

def Port.writeLen (p : Port) (v : Word) : Port :=
  if lenOk v then { p with len := fieldOf v 0 14 } else { p with badset := true }

def Port.riseLen (p : Port) (v : Word) : Port := if lenOk v then { p with lenSet := fieldOf v 0 14 } else p

/-- HnPERIOD (R40 to R42). -/
def State.writePeriod (s : State) (n : PortId) (v : Word) : State :=
  let x : BitVec 32 := fieldOf v 0 32
  if x = 0 then s.modPort n (fun p => { p with period := 0, declared := false })
  else if x.toNat < 5000 then s.modPace (fun c => { c with badperiod := true })
  else s.modPort n (fun p => { p with period := x, declared := true })

/-- HnPERIOD at the rise: pace edges of port n follow (R43). -/
def Port.risePeriod (p : Port) (v : Word) : Port :=
  let x : BitVec 32 := fieldOf v 0 32
  if x = 0 then { p with periodNow := 0, declaredNow := false }
  else if x.toNat < 5000 then p
  else { p with periodNow := x, declaredNow := true }

def Port.writeStat (p : Port) (v : Word) : Port :=
  { p with modeConflict := w1cBit p.modeConflict (v.getLsbD 5), badset := w1cBit p.badset (v.getLsbD 4),
           badop := w1cBit p.badop (v.getLsbD 3), holdExpired := w1cBit p.holdExpired (v.getLsbD 2),
           underrun := w1cBit p.underrun (v.getLsbD 1) }

def Port.writeCmd (p : Port) (v : Word) : Port :=
  { p with notarmed := w1cBit p.notarmed (v.getLsbD 5), stopped := w1cBit p.stopped (v.getLsbD 4),
           eccfail := w1cBit p.eccfail (v.getLsbD 3), eccfix := w1cBit p.eccfix (v.getLsbD 2),
           pktbad := w1cBit p.pktbad (v.getLsbD 1) }

/-- HnSUBS: DEFAULT must lie in the MASK of the same write (R217). -/
def Port.writeSubs (p : Port) (v : Word) : Port :=
  let m : BitVec 32 := fieldOf v 32 32
  let d : BitVec 5 := fieldOf v 0 5
  let q := { p with subx := w1cBit p.subx (v.getLsbD 8) }
  if m.getLsbD d.toNat then { q with mask := m, dflt := d } else { p with subx := true }

def Port.writeTrain (p : Port) (v : Word) : Port :=
  { p with edge := w1c p.edge (fieldOf v 56 8), silenceLimit := fieldOf v 40 4, override := v.getLsbD 1, freeze := v.getLsbD 0 }

/-- HnCHAIN.EN at the rise (R151). -/
def Port.riseChainEn (p : Port) (v : Word) : Port :=
  if v.getLsbD 0 then
    if p.mode = 0 ∧ ¬ p.trial then { p with chainEn := true } else { p with modeConflict := true }
  else { p with chainEn := false }

/-- HnCHAIN at the rise: BOOTEN to the plinth (R153), then EN. -/
def State.riseChain (s : State) (n : PortId) (v : Word) : State :=
  let change := v.getLsbD 1 != (s.port n).booten
  let s1 := if !change then s
    else if s.pins.wp then (s.modPort n (fun p => { p with booten := v.getLsbD 1 })).writeBooten
    else s.modPort n (fun p => { p with chainWpx := true })
  s1.modPort n (fun p => p.riseChainEn v)

/-! ### Ledger and subscriber registers -/

/-- DEDUP_CTRL (R231, Table 16.2): a port without the right to write everything keeps OFF, and SUB and FORGET act only for
a subscriber of its MASK. -/
def State.writeDedup (s : State) (p : PortId) (full : Bool) (v : Word) : State :=
  let i : SubId := (fieldOf v 0 5).toFin
  let s1 := if full then s.modLedger (fun l => { l with dedupOff := fieldOf v 32 32 }) else s
  if full || (s.port p).mask.getLsbD i.val then
    let s2 := s1.modLedger (fun l => { l with dedupSub := fieldOf v 0 5 })
    if v.getLsbD 5 then s2.modSub i (fun u => { u with dedup := [] }) else s2
  else s1

/-- SnQUOTA (R214, R215). -/
def State.writeQuota (s : State) (i : SubId) (v : Word) : State :=
  let r : BitVec 6 := fieldOf v 0 6
  let m : BitVec 9 := fieldOf v 16 9
  let others := ((allSubs.filter (fun j => j != i)).map (fun j => (s.sub j).reserve.toNat)).sum
  if r.toNat > 32 ∨ r.toNat > m.toNat ∨ m.toNat = 0 ∨ m.toNat > 256 ∨ others + r.toNat > 256 then
    s.modSub i (fun u => { u with quotax := true })
  else s.modSub i (fun u => { u with reserve := r, max := m, quotax := w1cBit u.quotax (v.getLsbD 15) })

def weightsOf (v : Word) : Vector (BitVec 8) 4 := #v[fieldOf v 0 8, fieldOf v 8 8, fieldOf v 16 8, fieldOf v 24 8]

/-- SnCOMMIT and SnPEAK at the rise: a bucket above its new burst is cut to it (R387). -/
def Sub.riseCommit (u : Sub) (v : Word) : Sub :=
  { u with cir := fieldOf v 32 32, cbs := fieldOf v 0 32, tc := min u.tc ((fieldOf v 0 32).toNat * 65536) }
def Sub.risePeak (u : Sub) (v : Word) : Sub :=
  { u with pir := fieldOf v 32 32, pbs := fieldOf v 0 32, tp := min u.tp ((fieldOf v 0 32).toNat * 65536) }

/-- SnMSTAT.FILL (R388). -/
def Sub.fillBuckets (u : Sub) : Sub := { u with tc := u.cbs.toNat * 65536, tp := u.pbs.toNat * 65536 }

/-- SAMPLE_CTRL at the rise (R408, R410). -/
def State.riseSample (s : State) (v : Word) : State :=
  let s1 := s.modPower (fun w => { w with sampleFreeze := v.getLsbD 40, sampleScope := fieldOf v 32 3, sampleInt := fieldOf v 0 32 })
  if v.getLsbD 41 then
    { s1 with subs := s1.subs.map (fun u => { u with leaf := u.leaf.map (fun l => { l with maxdelay := 0, maxdepth := 0 }) }) }
  else s1

/-- TOKENS at the rise: TOKENWAIT 0 ends a reservation (R405). -/
def State.riseTokens (s : State) (v : Word) : State :=
  let t : Word := v &&& 0x000FFFFFFFFFFFFF
  s.modPower (fun w => { w with tokens := t, reserved := if fieldOf v 32 20 = 0 then none else w.reserved })

/-! ### Loops and pumps (09, 14) -/

/-- GnTAMP (R375, R376). -/
def Gal.riseTamp (g : Gal) (v : Word) : Gal :=
  { g with tampEdge := w1cBit g.tampEdge (v.getLsbD 42), tampOver := v.getLsbD 41, tampFreeze := v.getLsbD 40, tampLean := 0,
           setWidth := fieldOf v 24 6, setHeight := fieldOf v 16 5, width := fieldOf v 8 6, height := fieldOf v 0 5 }

/-- BnPLUMB (R375, R376). -/
def Bank.risePlumb (b : Bank) (v : Word) : Bank :=
  { b with plumbEdge := w1cBit b.plumbEdge (v.getLsbD 34), plumbOver := v.getLsbD 33, plumbFreeze := v.getLsbD 32, plumbLean := 0,
           setref := fieldOf v 8 6, ref := fieldOf v 0 6 }

def stagesOk (x : BitVec 4) : Bool := decide (2 ≤ x.toNat ∧ x.toNat ≤ 8)

/-- A pump register (R538, R551). -/
def Pump.rise (p : Pump) (v : Word) : Pump :=
  { p with override := v.getLsbD 33, freeze := v.getLsbD 32, lean := 0,
           setStages := if stagesOk (fieldOf v 12 4) then fieldOf v 12 4 else p.setStages, setPhase := fieldOf v 8 4,
           stages := if stagesOk (fieldOf v 4 4) then fieldOf v 4 4 else p.stages, phase := fieldOf v 0 4 }

def State.risePump (s : State) (g : GalId) (clearPump : Bool) (v : Word) : State :=
  let s1 := s.modGal g (fun x => if clearPump then { x with cpump := x.cpump.rise v } else { x with lpump := x.lpump.rise v })
  if stagesOk (fieldOf v 12 4) && stagesOk (fieldOf v 4 4) then s1 else s1.modPower (fun w => { w with badset := true })

/-- KILN_CTRL (R363). -/
def State.writeKilnAt (s : State) (v : Word) : State :=
  let x : BitVec 16 := fieldOf v 0 16
  if 1000 ≤ x.toNat ∧ x.toNat ≤ 20000 then s.modUpkeep (fun u => { u with kilnAt := x })
  else s.modUpkeep (fun u => { u with badset := true })

/-- SCRUB_CTRL (R367). -/
def State.writeScrub (s : State) (v : Word) : State :=
  let x : BitVec 8 := fieldOf v 40 8
  let ok := decide (1 ≤ x.toNat ∧ x.toNat ≤ 64)
  s.modUpkeep (fun u =>
    { u with scrubInt := fieldOf v 0 32, fixmax := if ok then x else u.fixmax, badset := u.badset || !ok })

/-! ### Gates (R425 to R429, R435) -/

/-- GATE_CTRL: STRICT, then EN with its check, then SAVE. -/
def State.writeGateCtrl (s : State) (g : GateId) (v : Word) : State :=
  let was := (s.gate g).en
  let s1 := if was then s else s.modGate g (fun x => { x with strict := v.getLsbD 1 })
  let s2 := if v.getLsbD 0 then (if was then s1 else s1.enableGate g) else s1.modGate g (fun x => { x with en := false })
  let failed := v.getLsbD 0 && !(s2.gate g).en
  if !v.getLsbD 3 || failed then s2
  else if !s2.isOpen then s2.modLife (fun l => { l with lvlx := true })
  else if !s2.pins.wp then s2.modGate g (fun x => { x with wpx := true })
  else s2.plinthWrite (.image g { en := (s2.gate g).en, strict := (s2.gate g).strict, regions := (s2.gate g).regions })

/-- REGIONi is RWD; bits [6:5] are reserved (Table 11.2). -/
def State.writeRegion (s : State) (g : GateId) (i : Fin 8) (v : Word) : State :=
  if (s.gate g).en then s
  else s.modGate g (fun x => { x with regions := x.regions.set i.val (v &&& 0xFFFFFFFFFFFFFF9F) })

/-! ### Level, marks and maps (12, 07) -/

/-- PRIV at the rise (R441, R431). -/
def State.risePriv (s : State) (v : Word) : State :=
  let m : BitVec 32 := fieldOf v 0 32 &&& 0x7FFFFFFF
  if !s.isOpen then s.modLife (fun l => { l with lvlx := true })
  else if !s.pins.wp then s.modLife (fun l => { l with wpx := true })
  else
    let s1 := s.modLife (fun l => { l with priv := m })
    (if m = s.life.priv then s1 else s1.bumpEpochs).writeConfig

/-- MARK_LOCK at the rise (R463 to R465). A write without any 1 changes nothing. -/
def State.riseMarkLock (s : State) (v : Word) : State :=
  if fieldOf v 0 32 = 0 then s
  else if !s.pins.wp then s.modLife (fun l => { l with wpx := true })
  else (s.modLife (fun l => { l with lock := l.lock ||| fieldOf v 0 16, hide := l.hide ||| fieldOf v 16 16 })).writeConfig

/-- MAPMODE at the rise (R286, R287). -/
def State.riseMapmode (s : State) (v : Word) : State :=
  if s.pins.wp then (s.modGlob (fun g => { g with mapmode := v })).writeConfig
  else s.modGlob (fun g => { g with mapWpx := true })

/-! ### Annex registers (13) -/

/-- Every select of an enabled partner reads high (R515). -/
def Annex.selectsHigh (x : Annex) : Bool :=
  allPartners.all (fun p => !x.partners[p.val].en || x.selIn.getLsbD p.val)

/-- The STATE of every enabled partner becomes UNPROBED. -/
def Annex.unprobeAll (x : Annex) : Annex :=
  { x with partners := x.partners.map (fun p => if p.en then { p with state := 0 } else p) }

/-- ANX_CTRL on the taking edge: RECLAIM (R515) and EN = 0, which waits for the annex's running operations (R511). -/
def State.writeAnxCtrl (s : State) (a : AnnexId) (v : Word) : State :=
  let s1 := if v.getLsbD 3 then
      (if (s.anx a).selectsHigh then s.modAnx a (fun x => { x.unprobeAll with yielded := false })
       else s.modAnx a (fun x => { x with reclaimx := true }))
    else s
  if v.getLsbD 0 then s1
  else if s1.annexRunning a then s1.modAnx a (fun x => { x with enOff := x.en })
  else s1.modAnx a (fun x => { x with en := false, enOff := false })

/-- ANX_CTRL at the rise: MANUAL (R509, R510) and EN = 1 (R511). -/
def Annex.riseCtrl (x : Annex) (v : Word) : Annex :=
  let x1 := if v.getLsbD 1 then { x with manual := true } else { x.unprobeAll with manual := false, manualon := false }
  if v.getLsbD 0 then { x1 with en := true, enOff := false } else x1

def Annex.writeStat (x : Annex) (v : Word) : Annex :=
  { x with reclaimx := w1cBit x.reclaimx (v.getLsbD 7), nostrobe := w1cBit x.nostrobe (v.getLsbD 6),
           badset := w1cBit x.badset (v.getLsbD 5), gpioConf := w1cBit x.gpioConf (v.getLsbD 4),
           modf := w1cBit x.modf (v.getLsbD 3) }

/-- ANX_DIV (R477). -/
def Annex.writeDiv (x : Annex) (v : Word) : Annex :=
  let d : BitVec 7 := fieldOf v 0 7
  if 2 ≤ d.toNat ∧ d.toNat ≤ 64 then { x with div := d } else { x with badset := true }

/-- Selects whose partner is enabled. -/
def Annex.ownSelects (x : Annex) : BitVec 4 :=
  BitVec.ofBool x.partners[3].en ++ BitVec.ofBool x.partners[2].en ++ BitVec.ofBool x.partners[1].en
    ++ BitVec.ofBool x.partners[0].en

/-- ANX_GPIO at the rise (R506 to R508). A SELLOW bit of an enabled partner keeps its value. -/
def Annex.riseGpio (x : Annex) (v : Word) : Annex :=
  let own := x.ownSelects
  let w : BitVec 4 := fieldOf v 24 4
  let x1 := { x with sellow := (x.sellow &&& own) ||| (w &&& ~~~ own), gpioConf := x.gpioConf || (w &&& own != 0) }
  if x.manualon then
    { x1 with sckout := v.getLsbD 17, sckoe := v.getLsbD 16, dqout := fieldOf v 8 4, dqoe := fieldOf v 4 4 }
  else if v.getLsbD 17 = x.sckout ∧ v.getLsbD 16 = x.sckoe ∧ fieldOf v 8 4 = x.dqout ∧ fieldOf v 4 4 = x.dqoe then x1
  else { x1 with gpioConf := true }

/-- ANX_PCFGp: the RWD fields under the EN in force, then EN with its map check (R480, R481). -/
def Annex.writeCfg (x : Annex) (p : PartnerId) (v : Word) : Annex :=
  let q := x.partners[p.val]
  let q1 := if q.en then q
    else { q with dtrop := fieldOf v 56 8, dtrdummy := fieldOf v 51 5, maxmode := fieldOf v 16 3, userds := v.getLsbD 2 }
  let x1 := { x with partners := x.partners.set p.val q1 }
  if !v.getLsbD 0 then { x with partners := x.partners.set p.val { q1 with en := false } }
  else if q.en then x1
  else if x1.mapCheck p then { x with partners := x.partners.set p.val { q1 with en := true, state := 0 } }
  else { x with partners := x.partners.set p.val { q1 with mapfault := true } }

/-- ANX_PMAPp is RWD (R480). -/
def Partner.writeMap (q : Partner) (v : Word) : Partner :=
  if q.en then q else { q with base := fieldOf v 16 13, size := fieldOf v 0 5 }

/-- ANX_PSTATp: clearing FENCED leaves the partner UNPROBED (R504). -/
def Partner.writeStat (q : Partner) (v : Word) : Partner :=
  let q1 := { q with mapfault := w1cBit q.mapfault (v.getLsbD 2) }
  if v.getLsbD 1 then { q1 with fenced := false, state := 0 } else q1

/-! ### A written value on the edge that takes its entry -/

/-- What acts on the taking edge. `full`: the limits of Table 16.2 do not bind port `p`.
Log entry 68 (DEDUCED). -/
def State.writeNow (s : State) (p : PortId) (full : Bool) (r : RegRef) (v : Word) : State := match r with
  | .globalCtrl => s.modGlob (fun g => { g with cfgports := fieldOf v 8 8, inten := v.getLsbD 0 })
  | .globalStat => s.modGlob (fun g => { g with noreg := w1cBit g.noreg (v.getLsbD 1), regdeny := w1cBit g.regdeny (v.getLsbD 0) })
  | .paceStat => s.modPace (fun c => { c with badperiod := w1cBit c.badperiod (v.getLsbD 8) })
  | .intStat =>
    -- what was set on this edge stays set (R596)
    if full then s.modGlob (fun g => { g with
      direct := w1c g.direct (fieldOf v 32 8 &&& ~~~g.freshDirect), causes := w1c g.causes (fieldOf v 0 7 &&& ~~~g.freshCauses) })
    else s.modGlob (fun g => { g with direct := w1c g.direct (fieldOf v 32 8 &&& (1 <<< p.val) &&& ~~~g.freshDirect) })
  | .intMask => s.modGlob (fun g => { g with maskDirect := fieldOf v 32 8, maskCompl := fieldOf v 24 8, maskCauses := fieldOf v 0 7 })
  | .violInfo => if v.getLsbD 63 then s.modGlob (fun g => { g with violInfo := g.violInfo &&& 0x7FFFFFFFFFFFFFFF }) else s
  | .lifeStat => s.modLife (fun l =>
      { l with codex := w1cBit l.codex (v.getLsbD 5), lvlx := w1cBit l.lvlx (v.getLsbD 4),
               wpx := w1cBit l.wpx (v.getLsbD 3), jbad := w1cBit l.jbad (v.getLsbD 2) })
  | .resetStat => s.modBoot (fun b => { b with softx := w1cBit b.softx (v.getLsbD 9) })
  | .bootStat => s.modBoot (fun b =>
      { b with cfgbad := w1cBit b.cfgbad (v.getLsbD 7), copy2 := w1cBit b.copy2 (v.getLsbD 5),
               jskip := w1cBit b.jskip (v.getLsbD 4) })
  | .budgetStat =>
    let s1 := s.modPower (fun w => { w with badset := w1cBit w.badset (v.getLsbD 2), brownseen := w1cBit w.brownseen (v.getLsbD 1) })
    if v.getLsbD 3 then s1.modPower (fun w => { w with peak := BitVec.ofNat 16 s1.heldTokens }) else s1
  | .vccSense => if v.getLsbD 16 then s.modPower (fun w => { w with min := w.mv }) else s
  | .tempSense => s.modPower (fun w => { w with hold := v.getLsbD 8 })
  | .eventSet => (s.modLedger (fun l => { l with events := l.events ||| v })).latchWaits
  | .eventClr => s.modLedger (fun l => { l with events := l.events &&& ~~~ v })
  | .ledgerStat => s.modLedger (fun l => { l with aftermiss := w1cBit l.aftermiss (v.getLsbD 31) })
  | .ledgerSel => s.captureViews (fieldOf v 0 8)
  | .standstill => s.modLedger (fun l => { l with standFlag := w1cBit l.standFlag (v.getLsbD 0) })
  | .dedupCtrl => s.writeDedup p full v
  | .lapseLimit => s.modLedger (fun l => { l with lapseLimit := fieldOf v 0 32 })
  | .standLimit => s.modLedger (fun l => { l with standLimit := fieldOf v 0 32 })
  | .timing n => s.modPort n (fun x => x.writeTiming v)
  | .len n => s.modPort n (fun x => x.writeLen v)
  | .period n => s.writePeriod n v
  | .portStat n => s.modPort n (fun x => x.writeStat v)
  | .cmd n => s.modPort n (fun x => x.writeCmd v)
  | .subsReg n => s.modPort n (fun x => x.writeSubs v)
  | .train n => s.modPort n (fun x => x.writeTrain v)
  | .taps n => s.modPort n (fun x => { x with taps := fieldOf v 0 40 })
  | .chain n => s.modPort n (fun x => { x with chainWpx := w1cBit x.chainWpx (v.getLsbD 4) })
  | .anxCtrl a => s.writeAnxCtrl a v
  | .anxStat a => s.modAnx a (fun x => x.writeStat v)
  | .anxDiv a => s.modAnx a (fun x => x.writeDiv v)
  | .anxCmdset a => s.modAnx a (fun x => { x with cmdset := v &&& 0xFFFFFEFFFFFFFFFF })
  | .anxTimeout a => s.modAnx a (fun x => { x with timeout := v })
  | .pcfg a q => s.modAnx a (fun x => x.writeCfg q v)
  | .pmap a q => s.modPartner a q (fun x => x.writeMap v)
  | .pstat a q => s.modPartner a q (fun x => x.writeStat v)
  | .lsel g => s.modGal g (fun x => { x with lsel := fieldOf v 0 8 })
  | .quota i => s.writeQuota i v
  | .bankStat b => s.modBank (bankIx b) (fun k => { k with noreserve := w1cBit k.noreserve (v.getLsbD 3) })
  | .bankSusp b => s.modBank (bankIx b) (fun k => { k with minrun := fieldOf v 32 20, resumewait := fieldOf v 0 20 })
  | .wsel b => s.modBank (bankIx b) (fun k => { k with wselFoot := v.getLsbD 20, wselSector := fieldOf v 16 4, wselSlot := fieldOf v 0 10 })
  | .bankUpkeep b => s.modBank (bankIx b) (fun k => { k with overdue := w1cBit k.overdue (v.getLsbD 1) })
  | .journalSel => s.modLife (fun l => { l with jselCopy := v.getLsbD 8, jselWord := v.getLsbD 0 })
  | .mapSel => s.modGlob (fun g => { g with mapBank := fieldOf v 32 6, mapBlock := fieldOf v 16 9, mapSlot := fieldOf v 0 10 })
  | .bbtSel => s.modGlob (fun g => { g with bbtBank := fieldOf v 32 6, bbtWord := fieldOf v 0 6 })
  | .mapStat => s.modGlob (fun g => { g with mapWpx := w1cBit g.mapWpx (v.getLsbD 1), badsel := w1cBit g.badsel (v.getLsbD 0) })
  | .upkeepCtrl => s.modUpkeep (fun u => { u with pause := v.getLsbD 32, floorwait := fieldOf v 0 32 })
  | .slideCtrl => s.modUpkeep (fun u => { u with slideInt := fieldOf v 0 16 })
  | .kilnCtrl => s.writeKilnAt v
  | .scrubCtrl => s.writeScrub v
  | .upkeepStat => s.modUpkeep (fun u => { u with badset := w1cBit u.badset (v.getLsbD 0) })
  | .gateCtrl g => s.writeGateCtrl g v
  | .gateStat g => s.modGate g (fun x => { x with wpx := w1cBit x.wpx (v.getLsbD 8) })
  | .gateRegion g i => s.writeRegion g i v
  | .traceCtrl =>
    let t := s.trace
    let t1 : Trace := if v.getLsbD 1 then { t with entries := Vector.replicate 64 0, next := 0, fill := 0 } else t
    { s with trace := { t1 with freeze := v.getLsbD 0 } }
  | .unimplemented => s.modGlob (fun g => { g with noreg := true })
  | _ => s

/-- What acts at the CS# rise that ends the writing transaction. -/
def State.writeAtRise (s : State) (r : RegRef) (v : Word) : State := match r with
  | .paceCtrl => s.setPolicy (v.getLsbD 0) (fieldOf v 4 3).toFin
  | .priv => s.risePriv v
  | .supplyBudget => s.modPower (fun w => { w with budget := fieldOf v 0 10 })
  | .loopFreeze => s.modUpkeep (fun u => { u with freezeTamp := v.getLsbD 1, freezePlumb := v.getLsbD 0 })
  | .cost0 => s.modPower (fun w => { w with cost0 := v })
  | .cost1 => s.modPower (fun w => { w with cost1 := v })
  | .tokens => s.riseTokens v
  | .tamp g => s.modGal g (fun x => x.riseTamp v)
  | .lpump g => s.risePump g false v
  | .cpump g => s.risePump g true v
  | .timing n => s.modPort n (fun x => x.riseTiming v)
  | .len n => s.modPort n (fun x => x.riseLen v)
  | .period n => s.modPort n (fun x => x.risePeriod v)
  | .chain n => s.riseChain n v
  | .anxCtrl a => s.modAnx a (fun x => x.riseCtrl v)
  | .anxGpio a => s.modAnx a (fun x => x.riseGpio v)
  | .galWeight g => s.modGal g (fun x => { x with weight := weightsOf v })
  | .commit i => s.modSub i (fun u => u.riseCommit v)
  | .peak i => s.modSub i (fun u => u.risePeak v)
  | .subWeight i => s.modSub i (fun u => { u with weight := weightsOf v })
  | .mstat i => if v.getLsbD 0 then s.modSub i Sub.fillBuckets else s
  | .sampleCtrl => s.riseSample v
  | .bankCtrl b => s.modBank (bankIx b) (fun k => { k with autoSuspend := v.getLsbD 1, unlimited := v.getLsbD 0 })
  | .plumb b => s.modBank (bankIx b) (fun k => k.risePlumb v)
  | .markLock => s.riseMarkLock v
  | .mapmode => s.riseMapmode v
  | _ => s

/-- Registers with a part that acts at the rise. -/
def RegRef.atRise : RegRef → Bool
  | .paceCtrl | .priv | .supplyBudget | .loopFreeze | .cost0 | .cost1 | .tokens | .tamp _ | .lpump _ | .cpump _
  | .timing _ | .len _ | .period _ | .chain _ | .anxCtrl _ | .anxGpio _ | .galWeight _ | .commit _ | .peak _
  | .subWeight _ | .mstat _ | .sampleCtrl | .bankCtrl _ | .plumb _ | .markLock | .mapmode => true
  | _ => false

/-! ### Taking an entry (R583 to R585, R590) -/

/-- What became of an entry. -/
inductive Entry where
  | ignored
  | refused
  | taken
  deriving DecidableEq, Repr

/-- The tables of R585 ignore the entry: Table 15.4 during boot, Table 12.3 while regression is pending. -/
def State.ignoresWrite (s : State) (r : BitVec 12) : Bool :=
  (s.booting && !(decide (0x100 ≤ r.toNat ∧ r.toNat < 0x200) || r == 0x008))
  || (s.life.regPending && (match regOf r with
      | .gateCtrl _ => true
      | .gateRegion _ _ => true
      | .priv => true
      | .markLock => true
      | _ => false))

/-- Port `p` may write every register (R584). -/
def State.fullWrite (s : State) (p : PortId) : Bool :=
  s.glob.cfgports.getLsbD p.val && s.privileged (s.port p).dflt.toFin

/-- Table 16.2. -/
def openWrite (p : PortId) (r : BitVec 12) : Bool :=
  let base := 0x100 + 0x20 * p.val
  (decide (base ≤ r.toNat ∧ r.toNat < base + 0x20) && r.toNat != base + 6) ||
  (match regOf r with
   | .eventSet | .eventClr | .ledgerSel | .mapSel | .bbtSel | .journalSel | .lsel _ | .wsel _ | .dedupCtrl | .intStat => true
   | _ => false)

/-- One entry of port `p`: taken on this edge, what its chapter puts into force at the rise queued for the rise.
Log entry 56 (DEDUCED). -/
def State.takeEntry (s : State) (p : PortId) (r : BitVec 12) (v : Word) : State × Entry :=
  if s.ignoresWrite r then (s, .ignored)
  else if !(s.fullWrite p || openWrite p r) then
    (s.modGlob (fun g => { g with regdeny := true, denynum := r, denyport := BitVec.ofNat 3 p.val }), .refused)
  else
    let s1 := (s.modGlob (fun g => { g with regwrites := g.regwrites + 1 })).writeNow p (s.fullWrite p) (regOf r) v
    (if (regOf r).atRise then s1.queueRise p (.regAct r v) else s1, .taken)

/-- Entries of a REGWR in the order sent, up to one whose REGNUM breaks R577: the state, whether one was refused, and
whether one broke R577.
Log entry 1 (DESIGN CHOICE); log entry 58 (DEDUCED). -/
def State.takeEntries (s : State) (p : PortId) : List (BitVec 16 × Word) → State × Bool × Bool
  | [] => (s, false, false)
  | (n, v) :: rest =>
    if n.extractLsb' 12 4 ≠ 0 then (s, false, true)
    else
      let a := s.takeEntry p (n.extractLsb' 0 12) v
      let b := a.1.takeEntries p rest
      (b.1, a.2 == .refused || b.2.1, b.2.2)

/-- A REGWR of these entries on the port of `tx` (R572 to R582). COUNT outside 1 to 16 writes nothing (R575). An entry
that the host has not sent in full is not taken (R579), and what was sent past COUNT is no entry. -/
def State.regWrite (s : State) (tx : Tx) (count : Byte) (entries : List (BitVec 16 × Word)) : State :=
  match s.begin tx 0x61 false with
  | (s1, false) => s1
  | (s1, true) =>
    if count.toNat < 1 ∨ 16 < count.toNat then s1.answer tx.port .crcx []
    else
      let t := s1.takeEntries tx.port (entries.take count.toNat)
      if entries.length < count.toNat then t.1.hush tx.port
      else if !s1.inTime tx then t.1.tooLate tx
      else t.1.answer tx.port (if t.2.2 then .crcx else if t.2.1 then .deny else .ok) []

/-- A REGWR with one entry. -/
def State.regWrite1 (s : State) (tx : Tx) (r : Nat) (v : Word) : State :=
  s.regWrite tx 1 [(BitVec.ofNat 16 r, v)]

end Sys2Proof.Machine
end

