-- ==== Sys2Proof/Machine/Reset.lean ====
section
/-! DEFINITION. The resets of Table 15.1, what survives each (Table 15.2), and what a cut leaves in the array and the
plinth (R554, R557, R629, R630). -/
namespace Sys2Proof.Machine

/-- Stones of a unit of a clear: from the first number up to, not including, the second. -/
def UnitRef.range (b : BankId) : UnitRef → Nat × Nat
  | .block k => (stoneIx b.val k 0 0, stoneIx b.val k 0 0 + 8192)
  | .sector k n => (stoneIx b.val k 0 0 + 512 * n, stoneIx b.val k 0 0 + 512 * (n + 1))
  | .page p => (markIx p 0, markIx p 0 + 128)

/-- Leave the given stones of a lay, each of which received a pulse, as R629 bounds them: a cell whose target is 1 keeps what
it read, a cell whose target is 0 reads as the free value has it, and the blank check refuses them.
Log entry 9 (DESIGN CHOICE). -/
def State.leavePartly (s : State) : List (Nat × BitVec 75) → State
  | [] => s
  | (n, target) :: r =>
    let c := readCells s.mem n &&& (target ||| Config.freeCells s.freeCtr)
    State.leavePartly (State.touch { s with mem := writeCells s.mem n c, freeCtr := s.freeCtr + 1 } n) r

/-- Leave `count` stones from number `lo` with every cell as the free value has it (R630).
Log entry 9 (DESIGN CHOICE). -/
def State.leaveOpen (s : State) (lo : Nat) : Nat → State
  | 0 => s
  | count + 1 => State.leaveOpen { s with mem := writeCells s.mem lo (Config.freeCells s.freeCtr), freeCtr := s.freeCtr + 1 } (lo + 1) count

/-- A reset cuts off what bank `b` does (R554). -/
def State.cutBank (s : State) (b : BankId) : State :=
  let k := s.bank b
  let s1 := match k.lay with
    | some l => if l.pulses = 0 ∧ l.pulse.isNone then s else s.leavePartly l.targets
    | none => s
  match k.clear with
  | some c => if c.held || c.boundary then s1 else s1.leaveOpen (c.unit.range b).1 ((c.unit.range b).2 - (c.unit.range b).1)
  | none => s1

/-- A journal copy that is being written fails its CRC; its words are open (R554, Table 12.6).
Log entry 9 (DESIGN CHOICE); log entry 47 (DEDUCED). -/
def State.cutJournal (s : State) : State := match s.plinth.jwrite with
  | none => s
  | some j =>
    let c : JCopy := { w0 := Config.freeWord s.freeCtr, w1 := Config.freeWord (s.freeCtr + 1), broken := true }
    { s with freeCtr := s.freeCtr + 2,
             plinth := if j.copy then { s.plinth with jB := c, jwrite := none } else { s.plinth with jA := c, jwrite := none } }

/-- Plinth writes are abandoned: the copy being written stays invalid, later writes never begin (R554).
Log entry 47 (DEDUCED). -/
def State.cutPlinth (s : State) : State := s.cutJournal.modPlinth (fun p => { p with queue := [], begun := false, second := false })

/-- The kinds of device-wide reset, by their RESET_STAT.CAUSE. -/
inductive ResetKind where
  | powerOn
  | pin
  | soft
  deriving DecidableEq, Repr

def ResetKind.cause : ResetKind → BitVec 2
  | .powerOn => 0 | .pin => 1 | .soft => 2

/-- A port after a device-wide reset: Table 17.2, with CS# as it stands (R556). -/
def Port.afterReset (n : PortId) (p : Port) : Port :=
  { Port.reset n with csLow := p.csLow, waitRise := p.csLow, pol3 := false }

/-- An annex after a reset keeps only what its pins read. -/
def Annex.afterReset (x : Annex) : Annex :=
  { Annex.reset with selIn := x.selIn, sckIn := x.sckIn, rdsIn := x.rdsIn, dqIn := x.dqIn }

/-- A device-wide reset acts and releases (R552, R554, R556, R558, R600).
Log entry 26 (DEDUCED). -/
def State.deviceReset (s : State) (kind : ResetKind) : State :=
  let c := (forEach allBanks State.cutBank s).cutPlinth
  let b := c.boot
  { State.reset with
    ports := Vector.ofFn (fun n => (c.port n).afterReset n)
    pace := if kind = .soft then { Pace.reset with devtime := c.pace.devtime } else Pace.reset
    annex := c.annex.map Annex.afterReset
    plinth := c.plinth
    boot := if kind = .powerOn then Boot.reset
      else { Boot.reset with boots := b.boots + 1, softx := b.softx, cause := kind.cause }
    power := { Power.reset with detector := c.power.detector, brown := c.power.detector }
    pins := c.pins
    mem := c.mem
    touched := c.touched
    freeCtr := c.freeCtr
    pending := c.pending }

/-- A port revert (R557, R141). WAITS is 8 for the transactions that follow. -/
def Port.revert (p : Port) (result : BitVec 4) : Port :=
  { p with mode := 0, plain := true, trial := false, trialMode := 0, swept := false, armed := false,
           taps := if p.override then p.taps else 0x8421084210, reverts := p.reverts + 1, waits := 8, waitsSet := 8,
           trainResult := result }

/-- POWER_ON_RESET (R529): VCC has fallen below 1.50 V and risen above 1.60 V. `tripped`: the brown-out detector has not
released yet (R544).
Log entry 67 (DEDUCED). -/
def execPowerOnReset (tripped : Bool) (s : State) : Outcome :=
  .next (State.deviceReset (s.modPower (fun w => { w with detector := tripped })) .powerOn)

/-- RESET_PIN (R553): a low pulse on RESET#. Between 100 ns and 1 µs both outcomes are valid.
Log entry 9 (DESIGN CHOICE). -/
def execResetPin (ns : Nat) (s : State) : Outcome :=
  if 1000 ≤ ns then .next (s.deviceReset .pin)
  else if ns < 100 then .next s
  else if Config.freeBool s.freeCtr then .next (s.useFree.deviceReset .pin) else .next s.useFree

end Sys2Proof.Machine
end

