-- ==== Sys2Proof/Machine/Cs.lean ====
section
/-! DEFINITION. Falls and rises of CS#: pace (02), what a rise ends and puts into force (03 to 05, 16), and chain frames
(04). -/
namespace Sys2Proof.Machine

/-! ### Chain segments (R158 to R164) -/

/-- Sixteen bytes as the shifter holds them, byte 0 in bits [127:120]. -/
def be128 (l : List Byte) : BitVec 128 := l.foldl (fun x b => (x <<< 8) ||| b.setWidth 128) 0

/-- The outbound segment of Table 04.6. -/
def State.outbound (s : State) (n : PortId) : List Byte :=
  let p := s.port n
  let st : Byte := BitVec.ofBool p.lastok ++ BitVec.ofBool p.lastbad ++ (0 : BitVec 3) ++ p.chipid
  let wh : Byte := s.levelNow ++ BitVec.ofBool s.bootBit ++ (0 : BitVec 2) ++ BitVec.ofNat 3 n.val
  withCrc ([0x3B, st, 0x5A, 0x50, 0x46, 0x59, 0x16, 0x43] ++ be32 (s.pins.uid.extractLsb' 0 32)
    ++ [wh, p.latches.extractLsb' 0 8])

/-- Bytes 0 to 13 of an inbound segment (Table 04.5). -/
def segBytes (g : ChainSeg) : List Byte :=
  [g.magic, g.target, g.action] ++ be16 g.regnum ++ be64 g.value ++ [g.pad]

/-- The 128 bits of a segment as they are sent: byte 0's bit 7 first, which ends in shifter bit 127 (R160, R161). -/
def segBits (g : ChainSeg) : BitVec 128 :=
  g.magic ++ g.target ++ g.action ++ g.regnum ++ g.value ++ g.pad ++ g.crc

/-- The segment that stands in the shifter. -/
def segOf (x : BitVec 128) : ChainSeg where
  magic := x.extractLsb' 120 8
  target := x.extractLsb' 112 8
  action := x.extractLsb' 104 8
  regnum := x.extractLsb' 88 16
  value := x.extractLsb' 24 64
  pad := x.extractLsb' 16 8
  crc := x.extractLsb' 0 16

/-- A rising SCK edge of a chain frame: the shifter moves one place and takes HnDQ0 into bit 0 (R161). -/
def Port.chainShift (p : Port) (dq0 : Bool) : Port :=
  { p with shifter := p.shifter.extractLsb' 0 127 ++ BitVec.ofBool dq0, frameEdges := p.frameEdges + 1 }

/-- `edges` rising SCK edges whose last bits are those of a segment; what comes before them is padding of zeros, which
passes through (R161).
Log entry 14 (DESIGN CHOICE). -/
def Port.chainShiftIn (p : Port) (edges : Nat) (g : ChainSeg) : Port :=
  { p with
    shifter := if 128 ≤ edges then segBits g
      else (p.shifter <<< edges) ||| (segBits g &&& BitVec.ofNat 128 (2 ^ edges - 1)),
    frameEdges := p.frameEdges + edges }

/-- The conditions of R162. -/
def Port.latches? (p : Port) (edges : Nat) (g : ChainSeg) : Bool :=
  edges == p.lenNow.toNat && g.magic == 0xC4 && g.pad == 0 && g.target.extractLsb' 3 4 == 0
    && g.regnum.extractLsb' 12 4 == 0 && g.crc == crc16 (segBytes g) && decide (g.action.toNat ≤ 2)
    && (g.target.getLsbD 7 || g.target.extractLsb' 0 3 == p.chipid)

/-- A rejected segment (R164). -/
def Port.rejectSeg (p : Port) : Port := { p with lastok := false, lastbad := true, rejects := p.rejects + 1 }

/-- The segment at the rise of a chain frame (R162 to R164). What a latched REGWR puts into force at the rise is queued
behind. -/
def State.chainRise (s : State) (n : PortId) (edges : Nat) (g : ChainSeg) : State :=
  if (s.port n).latches? edges g then
    let s1 := if g.action = 1 then (s.takeEntry n (g.regnum.extractLsb' 0 12) g.value).1
      else if g.action = 2 then s.modPort n (fun p => { p with chainEn := false }) else s
    s1.modPort n (fun p => { p with lastok := true, lastbad := false, latches := p.latches + 1 })
  else s.modPort n Port.rejectSeg

/-! ### Trial (R128 to R141) -/

/-- CONFIRM puts the trial mode in force; lanes that the trial did not sweep keep their taps (R138, R142). -/
def Port.confirm (p : Port) (code : BitVec 4) : Port :=
  { p with mode := code, plain := false, trial := false, swept := false, taps := if p.override then p.taps else p.trialTaps,
           trainResult := 3 }

/-- PROPOSE's trial begins with the taps in force (R128). -/
def Port.enterTrial (p : Port) (code : BitVec 4) : Port :=
  { p with trial := true, trialMode := code, swept := false, trialTaps := p.taps, trainResult := 1 }

/-- The trial ends and the mode before it stays (R130, R136, R139).
Log entry 45 (DEDUCED). -/
def Port.endTrial (p : Port) (result : BitVec 4) : Port :=
  if p.trial then { p with trial := false, swept := false, trainResult := result } else p

/-! ### The rise -/

/-- One thing that a transaction left for its CS# rise.
Log entry 13 (DEDUCED). -/
def State.riseAct (s : State) (n : PortId) : RiseAct → State
  | .arm => s.modPort n (fun p => { p with armed := true })
  | .trialEnter c => s.modPort n (fun p => p.enterTrial c)
  | .trialEnd r => s.modPort n (fun p => p.endTrial r)
  | .confirm c => s.modPort n (fun p => p.confirm c)
  | .revert => s.modPort n (fun p => p.revert 9)
  | .softReset => s.deviceReset .soft
  | .regAct r v => s.writeAtRise (regOf r) v

/-- A READ that streams for the port's fetch ends with it (R498). -/
def State.endStream (s : State) (p : PortId) : State := match (s.port p).fetch with
  | some f => if f.raw then s else s.stopRead f.addr
  | none => s

/-- A fetch of this transaction ends (R115, R323, R325). -/
def State.endFetchOf (s : State) (n : PortId) : State :=
  let s1 := match (s.port n).fetchBank with
    | some b => s.modBank b (fun k => { k with quiet := 0 })
    | none => s
  (s1.endStream n).modPort n (fun p => { p with fetch := none, hold := none, fetchBank := none, reading := false })

/-- Records that the port had begun to drive are offered again (R116, R207). -/
def State.dropDriving (s : State) (n : PortId) : State :=
  s.modLedger (fun l => { l with ops := l.ops.map (fun o => if o.driving == some n then { o with driving := none } else o) })

/-- SILENT has reached its limit: revert (R149).
Log entry 13 (DEDUCED). -/
def Port.silenceCheck (p : Port) : Port :=
  if p.tooSilent && !p.plain && !p.trial then { p.revert 8 with silent := 0 } else p

/-- Slot of a packet whose payload is under way, if it holds one. -/
def State.uploadSlot (s : State) (u : Upload) : Option (Fin 256) := match u.state with
  | .admitted id _ => (s.op? id).bind Op.slot
  | .refused _ k _ => k
  | _ => none

/-- The meter as it stood before a charge: the buckets (R386) and the count of its colour (R14).
Log entry 60 (DEDUCED). -/
def Sub.uncharged (u : Sub) (c : Colour) (b : Nat) : Sub :=
  let v := u.refund c b
  match c with
  | .green => { v with greens := v.greens - 1 }
  | .yellow => { v with yellows := v.yellows - 1 }
  | .none => v

/-- Undo every provisional effect of the packet whose payload port `n` brings: slot, yard slot, meter charge and graph
entries (R13, R14, R221).
Log entry 60 (DEDUCED). -/
def State.dropUpload (s : State) (n : PortId) : State :=
  let s1 := s.modPort n (fun p => { p with upload := none })
  match (s.port n).upload.map Upload.state with
  | some (.admitted id _) => match s.op? id with
    | some o => ((s1.modSub o.sub (fun u => u.uncharged o.colour o.charge)).freeYard id).dropOp id
    | none => s1
  | _ => s1

/-- Bank of a packet for its trace entries; none for a window. -/
def Upload.traceBank (u : Upload) : Nat := match bankOfAddr u.pkt.addr with
  | some b => b.val
  | none => 0

/-- A packet whose payload CS# cuts short (R14): its provisional effects are undone, and one REFUSE entry says so.
Log entry 43 (DEDUCED). -/
def State.cutUpload (s : State) (n : PortId) : State := match (s.port n).upload with
  | none => s
  | some u => (s.dropUpload n).addTrace tRefuse (s.uploadSlot u) u.traceBank 0x00FF

/-- A transaction whose command phase was complete and whose command CS# cuts off: the command is discarded (Table 03.6),
its command phase counts (R148, R179). Off TRAIN, a trial ends by it (R130).
Log entry 59 (DEDUCED). -/
def State.cutCommand (s : State) (c : Cut) : State :=
  let s1 := (s.commandPhase c.port c.op c.compl c.drift).1
  if (s.port c.port).trial && c.op != 0xB0 then s1.abandon c.port else s1

/-- What the end of a transaction counts: a chain frame's segment (R162 to R164), a transaction without a complete command
phase (R148), also on trial (R130), or one that consumes ARMED (R179). `cut` names what a command cut off by the rise had
been. -/
def State.countTransaction (s : State) (n : PortId) (cut : Option Cut) : State :=
  let p := s.port n
  if p.waitRise then s
  else if p.chainFrame then s.chainRise n p.frameEdges (segOf p.shifter)
  else match p.txOp, cut with
    | none, none => s.modPort n (fun x => (Port.fail x).endTrial 6)
    | none, some c => (s.cutCommand c).modPort n (fun x => { x with armed := false })
    | some _, _ => s.modPort n (fun x => { x with armed := false })

/-- The acts that a transaction has left for its rise, in order. -/
def State.riseActs (s : State) (n : PortId) : State :=
  (s.port n).atRise.foldl (fun t a => t.riseAct n a) (s.modPort n (fun x => { x with atRise := [] }))

/-- The end of port `n`'s transaction at its CS# rise, after pace has been handed over. The lanes are released (R73).
Log entry 13 (DEDUCED). -/
def State.endTransaction (cuts : List Cut) (s : State) (n : PortId) : State :=
  let s1 := (((s.endFetchOf n).dropDriving n).cutUpload n).countTransaction n (cuts.find? (fun c => c.port == n))
  let s2 := (s1.riseActs n).riseActs n
  s2.modPort n (fun x => Port.silenceCheck
    { x with atRise := [], txOp := none, chainFrame := false, waitRise := false, reply := Reply.none, cycle := 0, cell := none,
             level := 0xFF })

/-- CS_RISE (R31, R39, R115, R179, R580): the CS# of the masked ports that were low rise together. `rise.cuts` tells of
those whose command the rise cuts off, `rise.late` of those that fell just before (R32).
Log entry 13 (DEDUCED). -/
def execCsRise (rises : BitVec 8) (rise : Rise) (s : State) : Outcome :=
  let ps := allPorts.filter (fun p => rises.getLsbD p.val && (s.port p).csLow)
  let s1 := ps.foldl (fun t p => t.modPort p (fun x => { x with csLow := false })) s
  let s2 := match s.pace.holder with
    | some h => if ps.contains h then s1.handOver rise.late else s1.checkOldPacer
    | none => s1
  .next (ps.foldl (State.endTransaction rise.cuts) s2)

/-! ### The fall -/

/-- CS# of port `n` falls: SPI mode (R75), HnTIMING and HnLEN for this transaction (R114), a chain frame's outbound
segment in the shifter (R158, R160). -/
def State.fallOne (s : State) (n : PortId) (sck : Bool) : State :=
  let out := be128 (s.outbound n)
  s.modPort n (fun p =>
    { p with csLow := true, pol3 := sck, txOp := none, atRise := [], hold := none, fetch := none, fetchBank := none, reading := false,
             waitsNow := p.waitsSet, holdLimitNow := p.holdLimitSet, lenNow := p.lenSet, chainFrame := p.chainEn,
             reply := Reply.none, cycle := 0, cell := none, level := 0xFF, upload := none,
             shifter := if p.chainEn then out else p.shifter, frameEdges := 0 })

/-- CS_FALL (R29, R33, R34): the CS# of the masked ports that were high fall together. -/
def execCsFall (falls sck : BitVec 8) (s : State) : Outcome :=
  let ps := allPorts.filter (fun p => falls.getLsbD p.val && !(s.port p).csLow)
  let s1 := ps.foldl (fun t p => t.fallOne p (sck.getLsbD p.val)) s
  .next (match s1.pace.holder, s1.nominated with
    | none, _ => s1.baton
    | some h, some n => if h = n then s1 else if ps.contains n then s1.nominatedTakes n else s1
    | some _, none => s1)

/-- SCK edges of a chain frame that bring a segment with the action of the command's row. The segment that the shifter
holds at the rise is the one that counts (R162).
Log entry 14 (DESIGN CHOICE). -/
def State.chainSegment (s : State) (n : PortId) (action : Byte) (edges : Nat) (g : ChainSeg) : State :=
  if (s.port n).low && (s.port n).chainFrame && g.action == action then s.modPort n (fun p => p.chainShiftIn edges g) else s

/-- CHAIN_NOP (R162, R163): ACTION 0x00. -/
def execChainNop (n : PortId) (edges : Nat) (g : ChainSeg) (s : State) : Outcome := .next (s.chainSegment n 0x00 edges g)

/-- CHAIN_REGWR: ACTION 0x01. -/
def execChainRegwr (n : PortId) (edges : Nat) (g : ChainSeg) (s : State) : Outcome := .next (s.chainSegment n 0x01 edges g)

/-- CHAIN_EXIT: ACTION 0x02. -/
def execChainExit (n : PortId) (edges : Nat) (g : ChainSeg) (s : State) : Outcome := .next (s.chainSegment n 0x02 edges g)

end Sys2Proof.Machine
end

