-- ==== Sys2Proof/Machine/Train.lean ====
section
/-! DEFINITION. TRAIN (04): PROPOSE, SWEEP, CONFIRM and REVERT. -/
namespace Sys2Proof.Machine

/-! ### PROPOSE (R121, R125 to R128) -/

/-- Valid mode codes of Table 04.1. -/
def validCodes : List (BitVec 4) := [0x0, 0x1, 0x2, 0x3, 0x6, 0x7, 0x8, 0x9, 0xA, 0xB, 0xE, 0xF]

/-- Minimum PERIOD of a code in a VCCQ band of 0 to 2 (Table 04.1). -/
def minPeriod (code : BitVec 4) (band : BitVec 2) : Nat :=
  if code.getLsbD 2 then (if band = 0 then 5000 else if band = 1 then 6000 else 7500) else 7500

/-- PERMIT holds a code (R125). -/
def permits (period : Nat) (band : BitVec 2) (code : BitVec 4) : Bool :=
  if band = 3 then code == 0 else decide (minPeriod code band ≤ period)

def permitMask (period : Nat) (band : BitVec 2) : BitVec 16 :=
  validCodes.foldl (fun m c => if permits period band c then m ||| (1 <<< c.toNat) else m) 0

/-- The order of R126: bits per SCK cycle, then strobe, then fewer lanes. -/
def codeRank (c : BitVec 4) : Nat := 32 * modeBits c + (if c.getLsbD 3 then 16 else 0) + (8 - modeLanes c)

/-- The best code of a mask (R126). -/
def bestCode (mask : BitVec 16) : Option (BitVec 4) :=
  (validCodes.filter (fun c => mask.getLsbD c.toNat)).foldl
    (fun best c => match best with
      | none => some c
      | some b => if codeRank b < codeRank c then some c else some b) none

/-- VCCQ band as sensed: 3 while the port's supply group is below 1.7 V (R121). -/
def State.bandOf (s : State) (p : PortId) (sensed : BitVec 2) : BitVec 2 :=
  if s.pins.supply.getLsbD (p.val / 2) then sensed else 3

/-- A TRAIN transaction that a trial does not accept: a PROPOSE (R130), or a CONFIRM without a successful SWEEP or of another
mode (R131). It is not carried out and the trial ends at its rise; no status byte goes out, since R123 lets a TRAIN whose
status byte has RDY at 0 leave the trial alone.
Log entry 45 (DEDUCED). -/
def State.abandonTrain (s : State) (p : PortId) : State := (s.hush p).abandon p

/-- A TRAIN frame that R124 does not carry out.
Log entry 59 (DEDUCED). -/
def State.badFrame (s : State) (p : PortId) : State :=
  (s.answer p .crcx []).modPort p (fun x => { x with trainResult := 7 })

def State.propose (s : State) (p : PortId) (offer : BitVec 16) (sensed : BitVec 2) : State :=
  let band := s.bandOf p sensed
  let x := s.port p
  let permit := permitMask (if x.declared then x.period.toNat else 20000) band
  let s1 := s.modPort p (fun y => { y with vqband := band })
  let reply := fun (c : Byte) => withCrc ([c] ++ be16 permit ++ [BitVec.setWidth 8 band])
  match bestCode (offer &&& permit) with
  | none => (s1.modPort p (fun y => { y with chosen := 0xFF, trainResult := 4 })).answer p .ok (reply 0xFF)
  | some c =>
    let s2 := s1.modPort p (fun y => { y with chosen := BitVec.setWidth 8 c })
    (s2.answer p .ok (reply (BitVec.setWidth 8 c))).queueRise p (.trialEnter c)

/-- PROPOSE. On trial it ends the trial, also with a failing CRC (R124, R130).
Log entry 59 (DEDUCED). -/
def execPropose (tx : Tx) (offer : BitVec 16) (band : BitVec 2) (crc : BitVec 16) (s : State) : Outcome :=
  .next (s.run2 tx 0xB0 true (fun t =>
    let p := tx.port
    if crc ≠ crc16 ([0x01] ++ be16 offer) then (if (t.port p).trial then (t.badFrame p).abandon p else t.badFrame p)
    else if (t.port p).trial then t.abandonTrain p
    else t.propose p offer band))

/-! ### SWEEP (R134 to R137) -/

/-- The longest run of PASS bits at 1, the lower of two equal ones (R135): scan from bit `i` with `n` bits left, the run
that ends before bit `i` begins at `start`; the best so far is (first, length).
Log entry 51 (DEDUCED). -/
def longestRun (pass : BitVec 32) : Nat → Nat → Nat → Nat × Nat → Nat × Nat
  | 0, _, _, best => best
  | n + 1, i, start, best =>
    if pass.getLsbD i then
      longestRun pass n (i + 1) start (if best.2 < i + 1 - start then (start, i + 1 - start) else best)
    else longestRun pass n (i + 1) (i + 1) best

/-- TAP of a lane: none where the run is shorter than 4 taps (R135).
Log entry 51 (DEDUCED). -/
def tapFor (pass : BitVec 32) : Option Nat :=
  let r := longestRun pass 32 0 0 (0, 0)
  if r.2 < 4 then none else some ((2 * r.1 + r.2 - 1) / 2)

/-- Lanes of the trial mode: DQ0 and up. -/
def trialLanes (m : BitVec 4) : List (Fin 8) := (List.finRange 8).filter (fun k => decide (k.val < modeLanes m))

/-- Lane `k`'s sequence as 256 bits, its first transfer in the most significant one (R132). -/
def ehrifSeq (k : Fin 8) : BitVec 256 :=
  let w := fun (i : Nat) => ehrifWords[(k.val + i) % 8]'(Nat.mod_lt _ (by decide))
  w 0 ++ w 1 ++ w 2 ++ w 3 ++ w 4 ++ w 5 ++ w 6 ++ w 7

/-- PASS of a lane: bit r tells whether all 256 transfers of repetition r, sampled at tap r, match the lane's sequence
(R133, R134). -/
def passOf (k : Fin 8) (samples : BitVec 8192) : BitVec 32 :=
  BitVec.ofBoolListLE ((List.range 32).map (fun r => samples.extractLsb' (256 * (31 - r)) 256 == ehrifSeq k)) |>.setWidth 32

/-- Results of a SWEEP for the lanes of the trial mode (R134 to R137).
Log entry 51 (DEDUCED). -/
def State.sweep (s : State) (p : PortId) (samples : Vector (BitVec 8192) 8) : State :=
  let lanes := (trialLanes (s.port p).trialMode).map (fun k => (k, passOf k samples[k.val]))
  let data := withCrc (lanes.flatMap (fun e => be32 e.2 ++ [match tapFor e.2 with | some t => BitVec.ofNat 8 t | none => 0xFF]))
  let s1 := s.replyWith p .ok data (.ehrif 0)
  if lanes.all (fun e => (tapFor e.2).isSome) then
    s1.modPort p (fun x => { x with
      swept := true, trainResult := 2,
      trialTaps := if x.override then x.trialTaps
        else lanes.foldl (fun m e => setTap m e.1.val ((tapFor e.2).getD 0)) x.trialTaps })
  else s1.queueRise p (.trialEnd 5)

/-- SWEEP. `samples` holds, for each lane, the 8,192 transfers of the pattern phase as its sampler read them, repetition r at
tap r (R133, R134); the phase begins after SUB, in 8D after the padding byte. Outside a trial nothing is carried out.
Log entry 59 (DEDUCED). -/
def execSweep (tx : Tx) (samples : Vector (BitVec 8192) 8) (s : State) : Outcome :=
  .next (s.run2 tx 0xB0 true (fun t =>
    if (t.port tx.port).trial then t.sweep tx.port samples else t.answer tx.port .notReady []))

/-! ### CONFIRM and REVERT (R131, R138, R140) -/

/-- CONFIRM. Without a successful SWEEP, or with a CODE other than the trial mode, it ends the trial (R130, R131).
Log entry 59 (DEDUCED). -/
def execConfirm (tx : Tx) (code ncode : Byte) (crc : BitVec 16) (s : State) : Outcome :=
  .next (s.run2 tx 0xB0 true (fun t =>
    let p := tx.port
    if crc ≠ crc16 [0x03, code, ncode] ∨ ncode ≠ ~~~ code then t.badFrame p
    else if !(t.port p).trial then t.answer p .notReady []
    else if (t.port p).swept && code == BitVec.setWidth 8 (t.port p).trialMode then
      (t.answer p .ok [code]).queueRise p (.confirm (t.port p).trialMode)
    else t.abandonTrain p))

/-- REVERT, and a TRAIN whose SUB is unknown, which ends a trial (R124, R130).
Log entry 59 (DEDUCED). -/
def execRevert (tx : Tx) (sub : Byte) (crc : BitVec 16) (s : State) : Outcome :=
  .next (s.run2 tx 0xB0 true (fun t =>
    let p := tx.port
    if sub ≠ 0x04 then (if (t.port p).trial then (t.badFrame p).abandon p else t.badFrame p)
    else if crc ≠ crc16 [0x04] then t.badFrame p
    else (t.answer p .ok []).queueRise p .revert))

end Sys2Proof.Machine
end

