-- ==== Sys2Proof/Machine/Susp.lean ====
section
/-! DEFINITION. Suspending and resuming clears and firings (08, R314 to R325). -/
namespace Sys2Proof.Machine

/-- The operation whose clear or firing bank `b` runs or holds suspended. -/
def State.clearOp (s : State) (b : BankId) : Option Op := (s.bank b).clear.bind (fun c => s.op? c.op)

/-- A SUSPEND or RESUME trace entry: the operation's slot and ledger opcode, on bank `b`. -/
def State.traceSusp (s : State) (action : Byte) (b : BankId) : State := match s.clearOp b with
  | some o => s.addTrace action o.slot b.val (BitVec.setWidth 16 o.opcode)
  | none => s

/-- The slot of the operation that a bank suspends or resumes shows it (R211). -/
def State.slotShows (s : State) (b : BankId) (st : OpState) : State := match s.clearOp b with
  | some o => s.modOp o.id (fun x => { x with state := st })
  | none => s

/-- The pulse in progress is discarded; a firing pulse that is cut short adds no firing time (R362). -/
def ClearRun.dropPulse (c : ClearRun) : ClearRun := match c.pulse with
  | none => c
  | some u => { c with
      pulse := none,
      fireTime := if c.purpose == .firing && !c.inClear then c.fireTime - u.elapsed else c.fireTime }

/-- A suspend is granted (R319): the pulse in progress is discarded, SUSPENDS rises, and the suspension keeps the policy
in force (R315). A boundary that was serving fetches on this edge serves no more (R313). `host`: it was granted to a SUSPEND
(R321). -/
def State.grantSuspend (s : State) (b : BankId) (host : Bool) : State :=
  (((s.modBank b (fun k => { k with
      state := .suspending, clear := k.clear.map (fun c => { c.dropPulse with serving := false }), suspends := k.suspends + 1, suspPs := 0,
      suspPolicy := k.unlimited, deferred := false, deferHost := false, resumeDue := false,
      hostsusp := k.hostsusp || host })).slotShows b .suspended)).traceSusp tSuspend b

/-- A suspend request decided by Table 08.4: the state, and whether it was granted or deferred. -/
def State.requestSuspend (s : State) (b : BankId) (host : Bool) : State × Bool :=
  let k := s.bank b
  match k.state with
  | .clearing =>
    if k.minrun.toNat ≤ k.run then (s.grantSuspend b host, true)
    else if k.unlimited then ((s.modBank b (fun x => { x with starve := x.starve + 1 })).grantSuspend b host, true)
    else (s.modBank b (fun x => { x with deferred := true, deferHost := x.deferHost || host, hostsusp := x.hostsusp || host }), true)
  | .firing => (s.grantSuspend b host, true)
  | _ => (s, false)

/-- The suspended clear or firing runs on (R324): its run starts again (R317), and its discarded pulse is applied again
in full. -/
def State.resumeNow (s : State) (b : BankId) : State :=
  ((s.modBank b (fun k => { k with
      state := (match k.clear with | some c => if c.purpose == .firing then .firing else .clearing | none => .idle),
      run := 0, suspPs := 0, resumeDue := false, hostsusp := false, suspPolicy := false })).slotShows b .running).traceSusp tResume b

/-! ### Ends without a pulse (R246, R247, R402) -/

/-- The bank returns to IDLE, and the operation's tokens are returned. A deferred suspend has nothing left to suspend.
Log entry 39 (DEDUCED). -/
def State.closeClear (s : State) (b : BankId) (c : ClearRun) : State :=
  (s.modBank b (fun k => { k with state := .idle, clear := none, deferred := false, deferHost := false, hostsusp := false })).release
    c.op b.val

/-- The bank leaves LAYING or NESTLAY, and the lay's tokens are returned. A resume that fell due in NESTLAY acts (R324). -/
def State.leaveLay (s : State) (b : BankId) (op : Nat) : State :=
  let nest := (s.bank b).state == .nestlay
  let s1 := (s.modBank b (fun k => { k with lay := none, state := if nest then .suspended else .idle })).release op b.val
  if nest && (s.bank b).resumeDue then s1.resumeNow b else s1

/-- The lay that operation `id` holds on a bank before its first pulse, still held at a gate, is given up. -/
def State.dropHeldLay (s : State) (id : Nat) : State :=
  match allBanks.find? (fun b => match (s.bank b).lay with | some l => l.op == id && l.held | none => false) with
  | some b => s.leaveLay b id
  | none => s

/-- A unit of a clear counts in UNITS: a whole block or sector, as the opcode counts (Table 05.7). -/
def countsUnit (o : Op) (u : UnitRef) : Bool := match u with
  | .sector _ n => o.opcode != opClear || n == 15
  | _ => true

/-- A unit is the first of a block or sector, as the opcode counts. -/
def firstOfUnit (o : Op) (u : UnitRef) : Bool := match u with
  | .sector _ n => o.opcode != opClear || n == 0
  | _ => true

/-- The bank on which a RUNNING clear of operation `o` has no block or sector in progress: it is held at its gate before the
unit's first pulse, or is at the boundary before it (R246, R312, R423). -/
def State.clearBetween (s : State) (o : Op) : Option (BankId × ClearRun) :=
  allBanks.findSome? (fun b => match (s.bank b).clear with
    | some c => if c.op == o.id && c.purpose == .operation && (c.held || c.boundary) && firstOfUnit o c.unit then some (b, c) else none
    | none => none)

/-- A RESUME (R322): lifts a suspension, or withdraws a deferral. -/
def State.requestResume (s : State) (b : BankId) : State × Bool :=
  let k := s.bank b
  match k.state with
  | .suspended => (s.resumeNow b, true)
  | .suspending => (s.modBank b (fun x => { x with resumeDue := true, hostsusp := false }), true)
  | .nestlay => (s.modBank b (fun x => { x with resumeDue := true, hostsusp := false }), true)
  | _ =>
    if k.deferred then (s.modBank b (fun x => { x with deferred := false, deferHost := false, hostsusp := false }), true)
    else (s, false)

/-- A fetch of a stone in this block and sector meets bank `b` (R316): it requests a suspend, unless the clear is working
on its own block or sector.
Log entry 19 (DEDUCED). -/
def State.fetchMeets (s : State) (b : BankId) (block sector : Nat) : State :=
  let k := s.bank b
  let own := match k.clear with | some c => c.covers block sector | none => false
  match k.state with
  | .firing => (s.requestSuspend b false).1
  | .clearing => if k.autoSuspend && !own then (s.requestSuspend b false).1 else s
  | _ => s

/-- Code of a request's outcome (R187, R320). -/
def suspResult (accepted : Bool) : Byte := if accepted then rDone else rNotSusp

/-- Checks 2 and 3 of R188. -/
def State.suspendable (s : State) (a : BitVec 32) : Bool := !s.booting && !s.life.regPending && s.region a == .main

/-- A direct SUSPEND or RESUME of the bank that holds `addr` (R187, R188). -/
def State.directSusp (s : State) (tx : Tx) (op : Byte) (addr : BitVec 32) (req : State → BankId → State × Bool) : State :=
  s.run2 tx op false (fun t =>
    if t.suspendable addr then
      let r := req t (bankIx (addrBank addr))
      r.1.answer tx.port .ok [suspResult r.2]
    else t.answer tx.port .deny [])

/-- SUSPEND (0x44; R318 to R321). -/
def execSuspend (tx : Tx) (addr : BitVec 32) (s : State) : Outcome :=
  .next (s.directSusp tx 0x44 addr (fun t b => t.requestSuspend b true))

/-- RESUME (0x45; R322, R324). -/
def execResume (tx : Tx) (addr : BitVec 32) (s : State) : Outcome :=
  .next (s.directSusp tx 0x45 addr (fun t b => t.requestResume b))

/-- SUSPENDED_ENTRY (Table 08.1, R324): 16 µs of device time have elapsed since the grant.
Log entry 15 (DEDUCED). -/
def execSuspendedEntry (b : BankId) (s : State) : Outcome :=
  let k := s.bank b
  let s1 := s.modBank b (fun x => { x with state := .suspended })
  s.onEdge (
    if k.state == .suspending && decide (16000000 ≤ k.suspPs) then (if k.resumeDue then s1.resumeNow b else s1) else s)

/-- DEFERRED_GRANT (Table 08.4): the run has reached MINRUN. -/
def execDeferredGrant (b : BankId) (s : State) : Outcome :=
  let k := s.bank b
  s.onEdge (
    if k.state == .clearing && k.deferred && decide (k.minrun.toNat ≤ k.run) then s.grantSuspend b k.deferHost else s)

/-- A direct fetch of a transaction still open is held on bank `b`, or has met it (R323, R325). One that waits for the
unsettled block does not count, and leaves `fetchBank` empty. -/
def State.directFetchOn (s : State) (b : BankId) : Bool := s.ports.toList.any (fun p => p.fetchBank == some b)

/-- A ledger FETCH reads bank `b`, or is eligible for it but for the bank; one that waits for the unsettled block does not
count.
Log entry 19 (DEDUCED). -/
def State.ledgerFetchOn (s : State) (b : BankId) : Bool :=
  s.ledger.ops.any (fun o => o.opcode == opFetch && o.bankOf == some b &&
    ((match o.work with | .fetching _ => o.state == .running | _ => false)
     || (s.eligibleButBank o && !(s.bank b).unsettledAt (addrBlock o.addr) (addrSector o.addr))))

/-- AUTO_RESUME (R323): RESUMEWAIT ticks without a fetch, HOSTSUSP 0. In SUSPENDING or NESTLAY it takes effect later
(R324).
Log entry 19 (DEDUCED). -/
def execAutoResume (b : BankId) (s : State) : Outcome :=
  let k := s.bank b
  s.onEdge (
    if k.isSuspended && !k.hostsusp && decide (k.resumewait.toNat ≤ k.quiet) && !s.directFetchOn b && !s.ledgerFetchOn b then
      (if k.state == .suspended then s.resumeNow b else s.modBank b (fun x => { x with resumeDue := true }))
    else s)

end Sys2Proof.Machine
end

