-- ==== Sys2Proof/Machine/Fetch.lean ====
section
/-! DEFINITION. Direct fetches (03, 05, 07, 11, 13): reading a stone, what a stone meets on its way, streams, holds. -/
namespace Sys2Proof.Machine

/-! ### Reading one stone -/

/-- What flips cells of stone `ix` of a transfer. -/
def flipOf (flips : Flips) (ix : Nat) : BitVec 75 := match flips.find? (fun f => f.1 == ix) with
  | some f => f.2
  | none => 0

/-- Factory-bad slots of a bank, as its bad-block record in the plinth counts them. -/
def State.factoryBad (s : State) (b : Fin 64) : Nat := match s.plinth.banks[b.val].newest with
  | some (r, _) => r.bbt.factory.length
  | none => s.plinth.banks[b.val].c1.bbt.factory.length

/-- A byte of the info page (Table 12.7). -/
def State.infoByte (s : State) (i : Nat) : Byte :=
  if i < 16 then s.pins.uid.extractLsb' (8 * (15 - i)) 8
  else if i < 20 then (be32 0x5A504659).getD (i - 16) 0xFF
  else if i = 0x14 then 0x16
  else if i = 0x15 then 0x43
  else if i = 0x16 then s.pins.grade
  else if i = 0x17 then 0x00
  else if i = 0x18 then s.pins.year
  else if i = 0x19 then s.pins.week
  else if h : 0x20 ≤ i ∧ i < 0x60 then BitVec.ofNat 8 (s.factoryBad ⟨i - 0x20, by omega⟩)
  else 0xFF

/-- A stone of the info page, laid (R277, R467). -/
def State.infoCells (s : State) (a : BitVec 32) : BitVec 75 :=
  let o := a.toNat % 0x400
  cellsOf (beWord64 ((List.range 8).map (fun k => s.infoByte (o + k))))

/-- The cells that a fetch of a stone reads: through the course map in the main array (R281). -/
def State.cellsAt (s : State) (a : BitVec 32) : BitVec 75 := match regionOf a with
  | .main =>
    let b := bankIx (addrBank a)
    readCells s.mem (stoneIx b.val ((s.bank b).kept.slotOf (addrBlock a)) (addrRow a) (addrStone a))
  | .marks => readCells s.mem (markIx (markPage a) (markStone a))
  | .info => s.infoCells a
  | _ => cellsBlank

/-- Plumb of a bank is frozen or overridden (R368, R374). -/
def State.plumbHeld (s : State) (k : Bank) : Bool := k.plumbFreeze || k.plumbOver || s.upkeep.freezePlumb

/-- LEAN reaches its end: REF moves by one, or EDGE is set (R369). -/
def Bank.plumbStep (k : Bank) (d : Int) : Bank :=
  let lean := k.plumbLean.toInt + d
  if lean = 16 then
    (if k.ref.toNat < 63 then { k with plumbLean := 0, ref := k.ref + 1 } else { k with plumbLean := 0, plumbEdge := true })
  else if lean = -16 then
    (if 0 < k.ref.toNat then { k with plumbLean := 0, ref := k.ref - 1 } else { k with plumbLean := 0, plumbEdge := true })
  else { k with plumbLean := BitVec.ofInt 8 lean }

/-- A corrected bit feeds the bank's LEAN (R368). The mark array has no plumb. -/
def State.plumbFeed (s : State) (b : BankId) (d : Int) : State :=
  if d = 0 ∨ b = markBank ∨ s.plumbHeld (s.bank b) then s else s.modBank b (fun k => k.plumbStep d)

/-- What a read of a stone leaves behind: ECCFIX or ECCFAIL in the trace (Table 01.6), and LEAN. `ix` is the stone's
index in its row. -/
def State.noteRead (s : State) (b : BankId) (slot : Option (Fin 256)) (ix : Nat) (r : StoneRead) : State :=
  let s1 := if r.fixed then s.addTrace tEccFix slot b.val (BitVec.ofNat 16 ix)
    else if r.bad then s.addTrace tEccFail slot b.val (BitVec.ofNat 16 ix) else s
  s1.plumbFeed b r.lean

/-- The bank that a non-window address meets; the info page lies in the mark array. -/
def bankMet (a : BitVec 32) : BankId := (bankOfAddr a).getD markBank

/-! ### The window side of a stone (13) -/

/-- What a window stone meets behind its gate. -/
inductive WinMeet where
  | ready (a : AnnexId) (p : PartnerId)
  | waits
  | absent
  | fault
  deriving DecidableEq, Repr

/-- R484, R499, R504, R509, R511, R514. A stone beyond the effective size is found after a probe. -/
def State.windowMeets (s : State) (a : BitVec 32) : WinMeet := match windowOf a with
  | none => .absent
  | some n =>
    if !(s.anx n).en then .absent
    else if (s.anx n).manual || (s.anx n).yielded then .waits
    else match (s.anx n).owner a with
      | none => .absent
      | some p =>
        if (s.partner n p).fenced then .fault
        else if (s.partner n p).owner.isSome then .waits
        else .ready n p

/-- The read mode samples on AnRDS edges (R476): a byte that does not come is a missing edge (R501). -/
def Partner.byStrobe (q : Partner) : Bool := q.mode == 4 && q.userds

/-- Read one stone from a partner that is ready, in a READ that streams from stone to stone (R490, R498): `none` when it is
lost.
Log entry 49 (DESIGN CHOICE). -/
def State.readPartner (s : State) (n : AnnexId) (p : PartnerId) (a : BitVec 32) (rx : List Byte) :
    State × Option Word × List Byte :=
  let q := s.partner n p
  let s1 := s.modAnx n (fun x => x.readOn p (q.addrOf a))
  if q.byStrobe && decide (rx.length < 8) then ((s1.modAnx n Annex.endRead).losePartner n p false, none, [])
  else
    let d := drive 8 rx
    (s1, some (beWord64 d.1), d.2)

/-! ### What a stone of a direct fetch meets -/

inductive Meet where
  /-- the region has ended, or the level or the boot state forbids the stone (R172, R464, R639) -/
  | stop
  | refused (v : Violation)
  | waits
  /-- PARTNER_ABSENT or PARTNER_FAULT -/
  | partner (r : Byte)
  | ready
  deriving DecidableEq, Repr

/-- What the violation record of a direct fetch holds (Table 11.8). -/
def State.fetchViolation (s : State) (g : GateId) (p : PortId) (a : BitVec 32) (c : BitVec 3 × BitVec 3) : Violation :=
  { gate := g, sub := (s.port p).dflt.toFin, port := p, direct := true, write := false, cause := c.1, region := c.2,
    slot := none, opcode := 0x1B, addr := a }

/-- Stone `a` of a FETCH on port `p` that began in region `start` (R413, R417, R422, R464, R639, Table 08.5). A stone that
has passed its gate is not asked there again (R429). -/
def State.stoneMeets (s : State) (p : PortId) (start : Region) (passed : Bool) (a : BitVec 32) : Meet :=
  if s.region a != start || s.booting || (s.life.regPending && start != .info) then .stop
  else if start == .marks && !s.isOpen && s.life.hide.getLsbD (markPage a) then .stop
  else match gateOf a with
    | none => if (s.bank markBank).serves 0 0 then .ready else .waits
    | some g =>
      if !passed && !(s.gate g).en then .waits
      else match (if passed then none else s.gateAsk g (s.port p).dflt.toFin false a) with
        | some c => .refused (s.fetchViolation g p a c)
        | none =>
          if start == .main then
            (if (s.bank (bankIx (addrBank a))).serves (addrBlock a) (addrSector a) then .ready else .waits)
          else match s.windowMeets a with
            | .ready _ _ => .ready
            | .waits => .waits
            | .absent => .partner rAbsent
            | .fault => .partner rFault

/-- Block and sector of a physical stone: the block that its slot holds; 512 for none.
Log entry 64 (DEDUCED). -/
def State.rawBlock (s : State) (a : BitVec 32) : Nat :=
  let r := (s.bank (bankIx (paddrBank a))).kept
  match r.slotState (bankIx (paddrBank a)) (paddrSlot a) with
  | .mapped => (r.blockOf (paddrSlot a)).getD 512
  | .footing => (r.blockOf (paddrSlot a)).getD 512
  | _ => 512

/-- Stone `a` of a RAW FETCH of bank `b` (R291, R292, Table 12.1).
Log entry 64 (DEDUCED). -/
def State.rawMeets (s : State) (b : Fin 64) (a : BitVec 32) : Meet :=
  if paddrBank a ≠ b ∨ 544 ≤ paddrSlot a ∨ s.booting ∨ !s.isOpen then .stop
  else if (s.bank (bankIx b)).serves (s.rawBlock a) (addrSector a) then .ready else .waits

/-- What a stone of a RAW FETCH holds is open: its slot is in KILN (07, "RAW FETCH and physical addresses":
what a firing leaves has no meaning), or the clear of a move's source has begun on it (R630).
Log entry 9 (DESIGN CHOICE). -/
def State.rawOpen (s : State) (b : Fin 64) (a : BitVec 32) : Bool :=
  let k := s.bank (bankIx b)
  k.kept.slotState (bankIx b) (paddrSlot a) == .kiln
  || (match k.clear with
    | some c => c.purpose == .moveSource && c.unit == .block (paddrSlot a) && decide (0 < c.pulses)
    | none => false)

/-- The cells of a physical stone as a RAW FETCH finds them.
Log entry 9 (DESIGN CHOICE). -/
def State.rawCells (s : State) (b : Fin 64) (a : BitVec 32) : BitVec 75 :=
  if s.rawOpen b a then Config.freeCells s.freeCtr else readCells s.mem (paddrStoneIx a)

/-! ### Streams -/

/-- What a stream reads. -/
inductive Source where
  | logical (start : Region)
  | raw (b : Fin 64)
  deriving DecidableEq, Repr

def FetchRun.source (f : FetchRun) : Source := if f.raw then .raw (paddrBank f.first) else .logical (regionOf f.first)

def State.meets (s : State) (p : PortId) (passed : Bool) (a : BitVec 32) : Source → Meet
  | .logical start => s.stoneMeets p start passed a
  | .raw b => s.rawMeets b a

/-- What the next stone of a fetch meets. -/
def State.fetchMeetsNext (s : State) (p : PortId) (f : FetchRun) : Meet := s.meets p f.passed f.addr f.source

/-- The bank that a stone of a source meets; none for a window. -/
def Source.bank (a : BitVec 32) : Source → Option BankId
  | .logical _ => if (windowOf a).isSome then none else some (bankMet a)
  | .raw b => some (bankIx b)

/-- Block and sector of a stone of a source. -/
def State.place (s : State) (a : BitVec 32) : Source → Nat × Nat
  | .logical _ => (addrBlock a, addrSector a)
  | .raw _ => (s.rawBlock a, addrSector a)

/-- The transaction's fetch leaves the bank it was on and meets another (R323). -/
def State.fetchOn (s : State) (p : PortId) (b : Option BankId) : State :=
  let s1 := match (s.port p).fetchBank with
    | some o => if b = some o then s else s.modBank o (fun k => { k with quiet := 0 })
    | none => s
  s1.modPort p (fun x => { x with fetchBank := b })

/-- Drive a stone that is ready: the state, its bytes (none where the partner refuses or is lost, with its result), and
the partner's bytes left.
Log entry 62 (DEDUCED). -/
def State.driveStone (s : State) (p : PortId) (src : Source) (a : BitVec 32) (flip : BitVec 75) (rx : List Byte) :
    State × Except Byte (List Byte) × List Byte :=
  match src with
  | .raw b => (if s.rawOpen b a then (s.fetchOn p (some (bankIx b))).useFree else s.fetchOn p (some (bankIx b)),
      .ok (rawBytes (s.rawCells b a ^^^ flip)), rx)
  | .logical _ => match s.windowMeets a with
    | .ready n q =>
      let pr := s.probePartner n q rx
      if pr.2.1.isSome then (pr.1.lastResult n q (pr.2.1.getD rAbsent), .error (pr.2.1.getD rAbsent), pr.2.2)
      else if !(pr.1.partner n q).inside a then (pr.1.lastResult n q rAbsent, .error rAbsent, pr.2.2)
      else
        let r := pr.1.readPartner n q a pr.2.2
        (match r.2.1 with
          | some w => ((r.1.lastResult n q rDone).fetchOn p none, .ok (be64 w), r.2.2)
          | none => (r.1, .error rLost, r.2.2))
    | _ =>
      let r := readStone (s.cellsAt a ^^^ flip)
      let s1 := ((s.fetchOn p (some (bankMet a))).noteRead (bankMet a) none (addrStone a) r).modPort p (fun x =>
        { x with eccfix := x.eccfix || r.fixed, eccfail := x.eccfail || r.bad })
      (s1, .ok (be64 r.data), rx)

/-- A fetch waits at stone `a`: a bank it meets busy may get a suspend request (R316), and the fetch counts as one to the
bank unless it waits at its gate or for the unsettled block (R323). -/
def State.fetchWaits (s : State) (p : PortId) (src : Source) (a : BitVec 32) : State :=
  match src.bank a with
  | none => s.fetchOn p none
  | some b =>
    let pl := s.place a src
    let atGate := match src, gateOf a with
      | .logical _, some g => !(s.gate g).en
      | _, _ => false
    if atGate || ((s.bank b).unsettledAt pl.1 pl.2 && (s.port p).reading) then s.fetchOn p none
    else if (s.bank b).unsettledAt pl.1 pl.2 then s.modPort p (fun x => { x with fetchBank := none })
    else (s.fetchOn p (some b)).fetchMeets b pl.1 pl.2

/-! ### The fetch of a port (R171 to R177, R293, R294) -/

/-- The later of two points of device time (R50). -/
def later (a b : BitVec 64) : BitVec 64 := if (a - b).getLsbD 63 then b else a

/-- The next stone of a fetch is ready. -/
def State.ripe (s : State) (f : FetchRun) : Bool := !(s.pace.devtime - f.ready).getLsbD 63

/-- The next stone has passed its gate on this edge and is being read (R293). -/
def State.readFrom (s : State) (f : FetchRun) : FetchRun :=
  { f with passed := true, ready := s.pace.devtime + s.fetchPs, rowAt := s.pace.devtime }

/-- The fetch after the stone that is being driven now (Table 07.6). A window's stones have no time of their own. -/
def State.fetchAfter (s : State) (f : FetchRun) (rx : List Byte) : FetchRun :=
  let now := s.pace.devtime
  let rowAt := if f.index = 0 ∨ addrStone f.addr = 0 then now else f.rowAt
  let next := if (windowOf f.addr).isSome && !f.raw then now
    else if addrStone f.addr = 63 then later (f.ready + 4000) (rowAt + 20000) else f.ready + 4000
  { f with addr := f.addr + 8, index := f.index + 1, passed := false, ready := next, rowAt := rowAt, rx := rx }

/-- STONES of a fetch (R177). -/
def State.setStones (s : State) (p : PortId) (n : Nat) : State :=
  s.modPort p (fun x => { x with stones := BitVec.ofNat 16 (min n 0xFFFF) })

/-- A hold begins (R105, R110, R627). A stone that waits for its bank has passed its gate (R429). -/
def State.beginHold (s : State) (p : PortId) (f : FetchRun) (afterStatus : Bool) : State :=
  let bank := match f.source.bank f.addr with | some b => b.val | none => 0
  let atGate := match gateOf f.addr with | some g => !f.raw && !f.passed && !(s.gate g).en | none => false
  (s.modPort p (fun x => { x with
    holds := x.holds + 1, reading := false, fetch := some { f with passed := !atGate },
    hold := some { afterStatus := afterStatus, ticks := 0, limit := x.holdLimitNow } })).addTrace
    tHold none bank (BitVec.ofNat 16 p.val)

/-- The fetch's reply ends after its data: 1s without strobe, no more HnRDS edges with it (R108, R173). -/
def State.endData (s : State) (p : PortId) : State :=
  (s.endStream p).modPort p (fun x => { x with
    reading := false, fetch := none, hold := none, reply := { x.reply with feed := if x.strobed then .still else .ones } })

/-- The fetch passes its region's end, or reaches a stone that is refused (R173). -/
def State.endStopped (s : State) (p : PortId) : State := (s.endData p).modPort p (fun x => { x with stopped := true })

/-- What a stone that is not served leaves: a violation, or a partner's result. -/
def State.noteMeet (s : State) (a : BitVec 32) : Meet → State
  | .refused v => s.violate v
  | .partner r => match s.partnerAt a with | some np => s.lastResult np.1 np.2 r | none => s
  | _ => s

/-- The status byte says that the first stone was not served (Table 05.2). A first stone that is refused does not set
STOPPED.
Log entry 62 (DEDUCED). -/
def State.fetchRefused (s : State) (p : PortId) (c : Cond) : State :=
  (s.modPort p (fun x => { x with reading := false, fetch := none, hold := none })).answer p c []

/-- The first stone passes (R293): the fetch reads it and the reply opens. A window's first stone is read at once, since its
status byte waits for it (R103, R500). -/
def State.fetchStarts (s : State) (p : PortId) (f : FetchRun) : State :=
  let go := fun (t : State) (g : FetchRun) (data : List Byte) =>
    (t.modPort p (fun x => { x with fetch := some g, hold := none, reading := x.fetchBank.isSome })).replyWith p .ok data .stones
  match f.source.bank f.addr with
  | some b => go (s.fetchOn p (some b)) (s.readFrom f) []
  | none =>
    let d := s.driveStone p f.source f.addr (flipOf f.flips f.index) f.rx
    match d.2.1 with
    | .ok bytes => go d.1 (d.1.fetchAfter f d.2.2) bytes
    | .error _ => d.1.fetchRefused p .deny

/-- A later stone that was held goes on: it is read as a first stone is.
Log entry 75 (DEDUCED). -/
def State.fetchGoesOn (s : State) (p : PortId) (f : FetchRun) : State :=
  match f.source.bank f.addr with
  | some b => (s.fetchOn p (some b)).modPort p (fun x => { x with fetch := some (s.readFrom f), hold := none, reading := true })
  | none => s.modPort p (fun x => { x with fetch := some { f with passed := true, ready := s.pace.devtime }, hold := none })

/-- The host lets itself be held: strobe, and a HOLD_LIMIT other than 0 (R109). -/
def Port.holds? (p : Port) : Bool := p.strobed && decide (0 < p.holdLimitNow.toNat)

/-- The first stone of a fetch on its gate edge: checks 2 to 5 of Table 05.2. -/
def State.fetchFirst (s : State) (p : PortId) (f : FetchRun) : State := match s.fetchMeetsNext p f with
  | .ready => s.fetchStarts p f
  | .waits =>
    let s1 := s.fetchWaits p f.source f.addr
    if (s.port p).holds? then (s1.beginHold p f false).replyWith p .notReady [] .stones else s1.fetchRefused p .held
  | m => (s.noteMeet f.addr m).fetchRefused p .deny

/-- The next stone of a fetch whose status byte has gone is due (R95, R108, R109, R173): driven, held, or the end of the
data. A strobed port with HOLD_LIMIT 0 that meets its target busy has no status byte left to send: its data ends and
HOLD_EXPIRED is set.
Log entry 40 (DESIGN CHOICE); log entry 62 (DEDUCED); log entry 75 (DEDUCED). -/
def State.nextStone (s : State) (p : PortId) (f : FetchRun) : State :=
  let starved := fun (t : State) => (t.endData p).modPort p (fun x => { x with underrun := true })
  if !s.ripe f then (if (s.port p).strobed then s else starved s)
  else match s.fetchMeetsNext p f with
    | .ready =>
      let d := s.driveStone p f.source f.addr (flipOf f.flips f.index) f.rx
      match d.2.1 with
      | .ok bytes => d.1.modPort p (fun x => { x with
          fetch := some (d.1.fetchAfter f d.2.2), reply := { x.reply with data := x.reply.data ++ bytes } })
      | .error _ => d.1.endStopped p
    | .waits =>
      let s1 := s.fetchWaits p f.source f.addr
      if (s.port p).holds? then s1.beginHold p f true
      else if (s.port p).strobed then (s1.endData p).modPort p (fun x => { x with holdExpired := true })
      else starved s1
    | m => (s.noteMeet f.addr m).endStopped p

/-! ### The commands -/

/-- A direct fetch from `a` at its decision. -/
def State.startFetch (s : State) (tx : Tx) (raw : Bool) (flips : Flips) (a : BitVec 32) (rx : List Byte) : State :=
  (s.setStones tx.port 0).fetchFirst tx.port
    { raw := raw, first := a, addr := a, index := 0, passed := false, ready := s.pace.devtime, rowAt := s.pace.devtime,
      flips := flips, rx := rx }

/-- FETCH (0x1B) at its decision. -/
def State.fetchCommand (s : State) (tx : Tx) (addr : BitVec 32) (flips : Flips) (rx : List Byte) : State :=
  let p := tx.port
  let a := stoneAddr addr
  match s.region a with
  | .unmapped => (s.setStones p 0).answer p .deny []
  | .window w =>
    if !(s.port p).strobed then ((s.modAnx w (fun x => { x with nostrobe := true })).setStones p 0).answer p .deny []
    else s.startFetch tx false flips a rx
  | _ => s.startFetch tx false flips a rx

/-- FETCH (R170 to R175, Table 05.2). The stones go out on the SCK edges that follow. -/
def execFetch (tx : Tx) (addr : BitVec 32) (flips : Flips) (probe rx : List Byte) (s : State) : Outcome :=
  .next (s.run2 tx 0x1B false (fun t => t.fetchCommand tx addr flips (probe ++ rx)))

/-- RAW FETCH (R176, R290 to R292): an unmapped PADDR and a level other than OPEN are refused like every other stop of its
first stone. -/
def execRawFetch (tx : Tx) (bank : BitVec 6) (stone : BitVec 26) (flips : Flips) (s : State) : Outcome :=
  .next (s.run2 tx 0x8D false (fun t => t.startFetch tx true flips (stoneAddr (bank ++ stone)) []))

/-- A hold has reached its limit on an edge before this one (R105, R106). -/
def State.holdOver (s : State) (h : Hold) : Bool := decide (h.limit.toNat + s.pace.crossed ≤ h.ticks)

/-- HELD_FETCH_SERVED (R105, R106): what the fetch waited for is free.
Log entry 20 (DEDUCED). -/
def execHeldFetchServed (p : PortId) (flips : Flips) (rx : List Byte) (s : State) : Outcome :=
  s.onEdge (match (s.port p).hold, (s.port p).fetch with
    | some h, some f0 =>
      let f : FetchRun := { f0 with flips := flips, rx := rx }
      if s.holdOver h then s
      else match s.fetchMeetsNext p f with
        | .waits => s
        | .ready => if h.afterStatus then s.fetchGoesOn p f else s.fetchStarts p f
        | m => if h.afterStatus then (s.noteMeet f.addr m).endStopped p else (s.noteMeet f.addr m).fetchRefused p .deny
    | _, _ => s)

/-- HOLD_EXPIRED (R106 to R108). -/
def execHoldExpired (p : PortId) (s : State) : Outcome :=
  s.onEdge (match (s.port p).hold, (s.port p).fetch with
    | some h, some f =>
      if h.ticks < h.limit.toNat || (s.fetchMeetsNext p f != .waits && !s.holdOver h) then s
      else if h.afterStatus then (s.endData p).modPort p (fun x => { x with holdExpired := true })
      else s.fetchRefused p .held
    | _, _ => s)

end Sys2Proof.Machine
end

