-- ==== Sys2Proof/Machine/Direct.lean ====
section
/-! DEFINITION. PACE, STATUS, IDENT, SFDP, REGRD, REGWR, ARM, COLLECT and its PEEK, SOFT RESET and unknown opcodes (02, 03,
05, 15, 16). -/
namespace Sys2Proof.Machine

/-! ### PACE, STATUS, IDENT, SFDP, ARM (R61, R178, R189 to R191) -/

/-- PACE (0x70). Its data phases follow at once, one after another, on the SCK edges that come (R61 to R65). -/
def execPace (tx : Tx) (s : State) : Outcome :=
  .next (match s.begin tx 0x70 false with
    | (s1, true) => (s1.replyWith tx.port .ok [] .progress).modPort tx.port (fun x => { x with cycle := 0 })
    | (s1, false) => s1)

/-- The status block (Table 05.3). -/
def State.statusBlock (s : State) (p : PortId) : List Byte :=
  withCrc (s.progressRecord p
    ++ [BitVec.ofBool (s.directBusy p) ++ BitVec.ofBool (s.port p).armed ++ (0 : BitVec 6), (s.port p).result])

/-- STATUS (0x0C). Its block is taken when its first bit is driven (R189). -/
def execStatus (tx : Tx) (s : State) : Outcome :=
  .next (s.run2 tx 0x0C false (fun t => t.replyWith tx.port .ok [] .status))

/-- The identity block (R190, Table 05.4): "ZPFY", family 0x16, 8 ports, stepping "C", the port, CHIPID as boot sampled it, the
level, 0x0000_0800 MiB, and the CRC over these 14 bytes. -/
def State.identBlock (s : State) (p : PortId) : List Byte :=
  withCrc ([0x5A, 0x50, 0x46, 0x59, 0x16, 0x08, 0x43, BitVec.ofNat 8 p.val, BitVec.setWidth 8 (s.port p).chipid,
    BitVec.setWidth 8 s.levelNow] ++ be32 0x00000800)

/-- IDENT (0xE1). -/
def execIdent (tx : Tx) (s : State) : Outcome :=
  .next (s.run2 tx 0xE1 false (fun t => t.answer tx.port .ok (t.identBlock tx.port)))

/-- Table 05.5. -/
def sfdpTable : List Byte :=
  [0x53, 0x46, 0x44, 0x50, 0x00, 0x01, 0x00, 0xFF, 0x00, 0x00, 0x01, 0x09, 0x10, 0x00, 0x00, 0xFF]
  ++ [0xE7, 0xFF, 0x84, 0xFF, 0x22, 0x00, 0x00, 0x80, 0x00, 0x00, 0x00, 0x00, 0x00, 0x00, 0x00, 0x00]
  ++ [0xEE, 0xFF, 0xFF, 0xFF, 0xFF, 0xFF, 0x00, 0x00, 0xFF, 0xFF, 0x00, 0x00, 0x10, 0x3C, 0x00, 0x00]
  ++ [0x00, 0x00, 0x00, 0x00]

/-- SFDP (0x5A): bytes from ADDR3 upwards (R191). The padding byte of 8D is ignored (R167). -/
def execSfdp (tx : Tx) (addr : BitVec 24) (_pad : Byte) (s : State) : Outcome :=
  .next (s.run2 tx 0x5A false (fun t => t.replyWith tx.port .ok [] (.sfdp addr.toNat)))

/-- ARM (0x2A). -/
def execArm (tx : Tx) (s : State) : Outcome :=
  .next (s.run2 tx 0x2A false (fun t => (t.answer tx.port .ok []).queueRise tx.port .arm))

/-! ### REGRD and REGWR (R572 to R588) -/

/-- REGRD (0x60). -/
def execRegrd (tx : Tx) (regnum : BitVec 16) (s : State) : Outcome :=
  .next (s.run2 tx 0x60 false (fun t =>
    if regnum.extractLsb' 12 4 ≠ 0 then t.answer tx.port .crcx []
    else
      let r := regnum.extractLsb' 0 12
      let v := be64 (t.readReg r)
      let t1 := if t.badSelection r then t.modGlob (fun g => { g with badsel := true }) else t
      t1.answer tx.port .ok (v ++ be16 (crc16 (be16 regnum ++ v)))))

/-- REGWR (0x61). -/
def execRegwr (tx : Tx) (count : Byte) (entries : List (BitVec 16 × Word)) (s : State) : Outcome :=
  .next (s.regWrite tx count entries)

/-! ### COLLECT (R203 to R208) -/

/-- FLAGS of a record. -/
def Op.recordFlags (o : Op) : Byte :=
  (0 : BitVec 4) ++ BitVec.ofBool (o.corrected || o.copyFixed) ++ BitVec.ofBool o.dupl ++ BitVec.ofBool (o.colour == .yellow)
    ++ BitVec.ofBool o.uncertain

/-- A completion record (Table 05.10). -/
def Op.record (o : Op) : List Byte :=
  [BitVec.setWidth 8 (BitVec.ofNat 5 o.sub.val), o.seq, o.opcode, o.result] ++ be16 o.progress ++ [o.recordFlags, o.epoch]
    ++ be32 o.units ++ be32 o.stamp

/-- A record block (R204). -/
def Op.block (o : Op) : List Byte :=
  withCrc (o.record ++ (if o.opcode == opFetch then o.fetched.flatMap be64 else []))

/-- Records that may be driven on port `p`, other than those in `skip` (R205). During boot none is offered. -/
def State.collectable (s : State) (p : PortId) (skip : List Nat) : List Op :=
  if s.booting then []
  else (s.recordsFor p).filter (fun o => (o.driving == none || o.driving == some p) && !skip.contains o.id)

/-- The oldest of some records, in order of completion. -/
def oldest : List Op → Option Op
  | [] => none
  | o :: r => match oldest r with
    | none => some o
    | some x => if x.completed < o.completed then some x else some o

/-- A record's last bit has been driven: it leaves the ledger and its staged stones leave the yard (R116, R212). For a FETCH
that has stones staged this drains its yard slot, and writes a STAGE entry.
Log entry 29 (DEDUCED). -/
def State.collected (s : State) (o : Op) : State :=
  let s1 := if o.fetched.isEmpty then s else s.drainYard o
  (s1.freeYard o.id).dropOp o.id

def State.collect (s : State) (tx : Tx) (peek : Bool) (mode : BitVec 7) : State :=
  s.run2 tx 0x7C false (fun t =>
    if mode ≠ 0 then t.answer tx.port .crcx [] else t.replyWith tx.port .ok [] (.records peek [] none))

/-- COLLECT (0x7C) with PEEK 0. `mode` is MODE[6:0]. Its record blocks are picked and driven on the SCK edges that follow
(R204 to R206). The padding byte of 8D is ignored (R167). -/
def execCollect (tx : Tx) (mode : BitVec 7) (_pad : Byte) (s : State) : Outcome := .next (s.collect tx false mode)

/-- COLLECT with PEEK 1: no record leaves. -/
def execPeek (tx : Tx) (mode : BitVec 7) (_pad : Byte) (s : State) : Outcome := .next (s.collect tx true mode)

/-! ### SOFT RESET and unknown opcodes (R90, R169, R555) -/

/-- A transaction that counts as one with an unknown opcode (R169): SILENT goes on from `silent`. -/
def State.badOpcode (s : State) (p : PortId) (silent : BitVec 8) : State :=
  (s.hush p).modPort p (fun x => Port.fail { x with badop := true, silent := silent })

/-- SOFT RESET (0xF0). -/
def execSoftReset (tx : Tx) (second : Byte) (s : State) : Outcome :=
  .next (match s.begin tx 0xF0 false with
    | (s1, false) => s1
    | (s1, true) =>
      if second ≠ 0x0F then s1.badOpcode tx.port (s.port tx.port).silent
      else if s1.privileged (s1.port tx.port).dflt.toFin then (s1.hush tx.port).queueRise tx.port .softReset
      else (s1.hush tx.port).modBoot (fun b => { b with softx := true }))

/-- UNKNOWN_OPCODE (R90): an opcode that Table 05.1 does not hold.
Log entry 45 (DEDUCED). -/
def execUnknownOpcode (tx : Tx) (op : Byte) (s : State) : Outcome :=
  .next (if knownOpcode op then s else (s.begin tx op false).1)

end Sys2Proof.Machine
end

