-- ==== Sys2Proof/Machine/RegRows.lean ====
section
/-! DEFINITION. The rows of the table that write one register: each is a REGWR of one entry. Where a row is a write of a
given value to one bit, that bit of the entry has that value whatever the operand holds. -/
namespace Sys2Proof.Machine

/-- DECLARE_PERIOD (R40 to R43): a write to HnPERIOD. -/
def execDeclarePeriod (tx : Tx) (n : PortId) (v : Word) (s : State) : Outcome :=
  .next (s.regWrite1 tx (0x103 + 0x20 * n.val) (v))

/-- PACE_POLICY (R39): a write to PACE_CTRL. -/
def execPacePolicy (tx : Tx) (v : Word) (s : State) : Outcome := .next (s.regWrite1 tx 0x008 v)

/-- WAITS (R89, R114): a write to HnTIMING. -/
def execWaits (tx : Tx) (n : PortId) (v : Word) (s : State) : Outcome :=
  .next (s.regWrite1 tx (0x101 + 0x20 * n.val) (v))

/-- LEN (R112, R114): a write to HnLEN. -/
def execLen (tx : Tx) (n : PortId) (v : Word) (s : State) : Outcome :=
  .next (s.regWrite1 tx (0x102 + 0x20 * n.val) (v))

/-- CHAIN_MODE_ENABLE (R151): a write of 1 to HnCHAIN.EN. -/
def execChainModeEnable (tx : Tx) (n : PortId) (v : Word) (s : State) : Outcome :=
  .next (s.regWrite1 tx (0x113 + 0x20 * n.val) (v ||| 1))

/-- BOOTEN (R153): a write to HnCHAIN that may change BOOTEN. -/
def execBooten (tx : Tx) (n : PortId) (v : Word) (s : State) : Outcome :=
  .next (s.regWrite1 tx (0x113 + 0x20 * n.val) (v))

/-- SUBSCRIBER_MASK (R217): a write to HnSUBS. -/
def execSubscriberMask (tx : Tx) (n : PortId) (v : Word) (s : State) : Outcome :=
  .next (s.regWrite1 tx (0x106 + 0x20 * n.val) (v))

/-- QUOTA (R214): a write to SnQUOTA. -/
def execQuota (tx : Tx) (i : SubId) (v : Word) (s : State) : Outcome :=
  .next (s.regWrite1 tx (0x306 + 8 * i.val) (v))

/-- FORGET (R231): a write of 1 to DEDUP_CTRL.FORGET. -/
def execForget (tx : Tx) (v : Word) (s : State) : Outcome := .next (s.regWrite1 tx 0x08A (v ||| 0x20))

/-- EVENT_SET (R237). -/
def execEventSet (tx : Tx) (v : Word) (s : State) : Outcome := .next (s.regWrite1 tx 0x081 v)

/-- EVENT_CLR (R237, R238). -/
def execEventClr (tx : Tx) (v : Word) (s : State) : Outcome := .next (s.regWrite1 tx 0x082 v)

/-- LEDGER_SEL (R260). -/
def execLedgerSel (tx : Tx) (v : Word) (s : State) : Outcome := .next (s.regWrite1 tx 0x084 v)

/-- EMPTY (R25, Table 01.8): a write of 1 to TRACE_CTRL.EMPTY. -/
def execEmpty (tx : Tx) (v : Word) (s : State) : Outcome := .next (s.regWrite1 tx 0xE40 (v ||| 2))

/-- MAPMODE (R286, R287). -/
def execMapmode (tx : Tx) (v : Word) (s : State) : Outcome := .next (s.regWrite1 tx 0x720 v)

/-- PLUMB_WRITE (R375, R376): a write to BnPLUMB. -/
def execPlumbWrite (tx : Tx) (b : Fin 64) (v : Word) (s : State) : Outcome :=
  .next (s.regWrite1 tx (0x603 + 4 * b.val) (v))

/-- TAMP_WRITE (R375, R376): a write to GnTAMP. -/
def execTampWrite (tx : Tx) (g : GalId) (v : Word) (s : State) : Outcome :=
  .next (s.regWrite1 tx (0x048 + g.val) (v))

/-- KILN_AT (R363): a write to KILN_CTRL. -/
def execKilnAt (tx : Tx) (v : Word) (s : State) : Outcome := .next (s.regWrite1 tx 0x732 v)

/-- FIXMAX (R367): a write to SCRUB_CTRL. -/
def execFixmax (tx : Tx) (v : Word) (s : State) : Outcome := .next (s.regWrite1 tx 0x733 v)

/-- METER_BURST_WRITE (R387): a write to SnCOMMIT, or to SnPEAK. -/
def execMeterBurstWrite (tx : Tx) (i : SubId) (peak : Bool) (v : Word) (s : State) : Outcome :=
  .next (s.regWrite1 tx ((if peak then 0x301 else 0x300) + 8 * i.val) (v))

/-- FILL (R388): a write of 1 to SnMSTAT.FILL. -/
def execFill (tx : Tx) (i : SubId) (v : Word) (s : State) : Outcome :=
  .next (s.regWrite1 tx (0x304 + 8 * i.val) (v ||| 1))

/-- CLEARMAX (R408): a write of 1 to SAMPLE_CTRL.CLEARMAX. -/
def execClearmax (tx : Tx) (v : Word) (s : State) : Outcome := .next (s.regWrite1 tx 0x480 (v ||| 0x20000000000))

/-- TOKENWAIT (R405): a write to TOKENS. -/
def execTokenwait (tx : Tx) (v : Word) (s : State) : Outcome := .next (s.regWrite1 tx 0x04C v)

/-- PUMP_WRITE (R538, R551). -/
def execPumpWrite (tx : Tx) (g : GalId) (clearPump : Bool) (v : Word) (s : State) : Outcome :=
  .next (s.regWrite1 tx ((if clearPump then 0x054 else 0x050) + g.val) (v))

/-- PEAKCLR (R550): a write of 1 to BUDGET_STAT.PEAKCLR. -/
def execPeakclr (tx : Tx) (v : Word) (s : State) : Outcome := .next (s.regWrite1 tx 0x041 (v ||| 8))

/-- MINCLR (R550): a write of 1 to VCC_SENSE.MINCLR. -/
def execMinclr (tx : Tx) (v : Word) (s : State) : Outcome := .next (s.regWrite1 tx 0x042 (v ||| 0x10000))

/-- GATE_ENABLE (R425 to R428): a write of EN = 1 to GATE_CTRL. -/
def execGateEnable (tx : Tx) (g : GateId) (v : Word) (s : State) : Outcome :=
  .next (s.regWrite1 tx (0x800 + 0x10 * g.val) (v ||| 1))

/-- GATE_DISABLE (R425, R429): a write of EN = 0 to GATE_CTRL. -/
def execGateDisable (tx : Tx) (g : GateId) (v : Word) (s : State) : Outcome :=
  .next (s.regWrite1 tx (0x800 + 0x10 * g.val) (v &&& ~~~ (1 : Word)))

/-- SAVE (R425, R435): a write of 1 to GATE_CTRL.SAVE. -/
def execSave (tx : Tx) (g : GateId) (v : Word) (s : State) : Outcome :=
  .next (s.regWrite1 tx (0x800 + 0x10 * g.val) (v ||| 8))

/-- PRIV_WRITE (R441). -/
def execPrivWrite (tx : Tx) (v : Word) (s : State) : Outcome := .next (s.regWrite1 tx 0x011 v)

/-- LOCK (R463, R465): a write to MARK_LOCK. -/
def execLock (tx : Tx) (v : Word) (s : State) : Outcome := .next (s.regWrite1 tx 0x710 v)

/-- HIDE (R464, R465): a write to MARK_LOCK. -/
def execHide (tx : Tx) (v : Word) (s : State) : Outcome := .next (s.regWrite1 tx 0x710 v)

/-- DIV (R477): a write to ANX_DIV. -/
def execDiv (tx : Tx) (a : AnnexId) (v : Word) (s : State) : Outcome :=
  .next (s.regWrite1 tx (0x202 + 0x20 * a.val) (v))

/-- PARTNER_ENABLE (R480, R481): a write of EN = 1 to ANX_PCFGp. -/
def execPartnerEnable (tx : Tx) (a : AnnexId) (q : PartnerId) (v : Word) (s : State) : Outcome :=
  .next (s.regWrite1 tx (0x208 + 0x20 * a.val + q.val) (v ||| 1))

/-- GPIO_WRITE (R506 to R508): a write to ANX_GPIO. -/
def execGpioWrite (tx : Tx) (a : AnnexId) (v : Word) (s : State) : Outcome :=
  .next (s.regWrite1 tx (0x203 + 0x20 * a.val) (v))

/-- MANUAL_ON (R509): a write of MANUAL = 1 to ANX_CTRL. -/
def execManualOn (tx : Tx) (a : AnnexId) (v : Word) (s : State) : Outcome :=
  .next (s.regWrite1 tx (0x200 + 0x20 * a.val) (v ||| 2))

/-- MANUAL_OFF (R510): a write of MANUAL = 0 to ANX_CTRL. -/
def execManualOff (tx : Tx) (a : AnnexId) (v : Word) (s : State) : Outcome :=
  .next (s.regWrite1 tx (0x200 + 0x20 * a.val) (v &&& ~~~ (2 : Word)))

/-- ANNEX_ENABLE (R511): a write of EN = 1 to ANX_CTRL. -/
def execAnnexEnable (tx : Tx) (a : AnnexId) (v : Word) (s : State) : Outcome :=
  .next (s.regWrite1 tx (0x200 + 0x20 * a.val) (v ||| 1))

/-- ANNEX_DISABLE (R511): a write of EN = 0 to ANX_CTRL. -/
def execAnnexDisable (tx : Tx) (a : AnnexId) (v : Word) (s : State) : Outcome :=
  .next (s.regWrite1 tx (0x200 + 0x20 * a.val) (v &&& ~~~ (1 : Word)))

/-- RECLAIM (R515): a write of 1 to ANX_CTRL.RECLAIM. -/
def execReclaim (tx : Tx) (a : AnnexId) (v : Word) (s : State) : Outcome :=
  .next (s.regWrite1 tx (0x200 + 0x20 * a.val) (v ||| 8))

/-- FENCED_CLEAR (R504): a write of 1 to ANX_PSTATp.FENCED. -/
def execFencedClear (tx : Tx) (a : AnnexId) (q : PartnerId) (v : Word) (s : State) : Outcome :=
  .next (s.regWrite1 tx (0x214 + 0x20 * a.val + q.val) (v ||| 2))

end Sys2Proof.Machine
end

