-- ==== Sys2Proof/Machine/Journal.lean ====
section
/-! DEFINITION. The journal (12): validity, the newer copy, records, and the writes of a LEVEL_RAISE. -/
namespace Sys2Proof.Machine

/-! ### Records (R458 to R460) -/

def JCopy.kind (c : JCopy) : Byte := c.w0.extractLsb' 40 8
def JCopy.level (c : JCopy) : Byte := c.w0.extractLsb' 32 8
def JCopy.gen (c : JCopy) : BitVec 32 := c.w0.extractLsb' 0 32

def kLevelSet : Byte := 1
def kRegressBegin : Byte := 2
def kRegressDone : Byte := 3

/-- The CRC of Table 12.4. -/
def journalCrc (w0 w1 : Word) : BitVec 16 := crc16 (be64 w0 ++ (be64 w1).take 6)

/-- R459. -/
def JCopy.valid (c : JCopy) : Bool :=
  !c.broken && c.w0.extractLsb' 48 16 == 0x4A4E
  && (if c.kind = kLevelSet then decide (c.level.toNat ≤ 2) else if c.kind = kRegressBegin then c.level == 1
      else c.kind == kRegressDone && c.level == 0)
  && c.w1.extractLsb' 16 16 == 0 && c.w1.extractLsb' 0 16 == journalCrc c.w0 c.w1

/-- Generation `a` is newer than `b` (R460). -/
def genNewer (a b : BitVec 32) : Bool := decide (1 ≤ (a - b).toNat ∧ (a - b).toNat ≤ 2147483647)

/-- The newer valid copy (false A, true B); of two valid copies neither of which is newer, A (R460). -/
def Plinth.newer (p : Plinth) : Option Bool :=
  if p.jA.valid && p.jB.valid then some (genNewer p.jB.gen p.jA.gen)
  else if p.jA.valid then some false
  else if p.jB.valid then some true
  else none

def Plinth.copy (p : Plinth) (b : Bool) : JCopy := if b then p.jB else p.jA

/-- Where the next record goes, and its GEN (R460). -/
def Plinth.target (p : Plinth) : Bool × BitVec 32 := match p.newer with
  | some b => (!b, (p.copy b).gen + 1)
  | none => (false, 1)

def recordWord0 (kind level : Byte) (gen : BitVec 32) : Word := (0x4A4E : BitVec 16) ++ kind ++ level ++ gen

def recordWord1 (w0 : Word) (stamp : BitVec 32) : Word :=
  let w : Word := stamp ++ (0 : BitVec 32)
  w ||| BitVec.setWidth 64 (journalCrc w0 w)

/-- Start a journal write (R447, R448, R458): one record, stamped as it starts. -/
def State.startJournal (s : State) (kind level : Byte) (purpose : JPurpose) : State :=
  let t := s.plinth.target
  let w0 := recordWord0 kind level t.2
  s.modPlinth (fun p => { p with jwrite := some { copy := t.1, w0 := w0, w1 := recordWord1 w0 s.stamp, purpose := purpose } })

/-- A journal write may start: none is in progress (R448), and WP# is high (R469). -/
def State.journalFree (s : State) : Bool := s.plinth.jwrite.isNone && s.pins.wp

/-! ### LEVEL_RAISE and REGRESS (R445 to R451) -/

/-- R445 for a LEVEL_RAISE to `target`. -/
def State.raiseOk (s : State) (target : Nat) : Bool :=
  decide (s.levelNow.toNat < target) && !s.life.regPending && !s.draining

/-- Some REGRESS is committed and has not completed. -/
def State.regressing (s : State) : Bool :=
  s.ledger.ops.any (fun o => o.opcode == opRegress && !o.isDirect && o.state != .complete)

/-- R445 for a REGRESS. -/
def State.regressOk (s : State) : Bool := s.levelNow == 1 && !s.life.regPending && !s.regressing

/-- A ledger-only operation's links, wait and fences let it start. -/
def State.linksOk (s : State) (o : Op) : Bool := s.afterOk o && o.waitOk && (s.fenceBefore o).isNone

/-- The LEVEL_RAISE that is to start next. -/
def State.nextRaise (s : State) : Option Op :=
  s.ledger.ops.find? (fun o => o.opcode == opLevelRaise && !o.isDirect && o.state == .queued && s.linksOk o)

/-- A waiting LEVEL_RAISE starts, or ends DENIED if its target is refused by now (R447, R448). -/
def State.tryRaise (s : State) : State :=
  if !s.journalFree then s else match s.nextRaise with
    | none => s
    | some o =>
      if s.raiseOk o.count.toNat then
        (s.modOp o.id (fun x => { x with state := .running, work := .lifecycle })).startJournal kLevelSet
          (BitVec.ofNat 8 o.count.toNat) (.raise o.id)
      else State.completeWith false s o.id rDenied

end Sys2Proof.Machine
end

