-- ==== Sys2Proof/Machine/Admission.lean ====
section
/-! DEFINITION. Admission of ledger packets (05, 06): framing, the checks of Table 06.2, deduplication, the wait-for graph,
commit, receipts, CANCEL; and the house's submissions (09). -/
namespace Sys2Proof.Machine

/-! ### What is asked -/

/-- A packet at admission: from a port, or from the house (R341, R632). -/
structure Ask where
  op      : Byte
  pk      : Packet
  port    : Option PortId
  /-- LAY: the stones; HAUL: none -/
  payload : List Word
  /-- HAUL: the source address of its payload -/
  src     : BitVec 32
  /-- HAUL: bytes 4 to 7 of its payload are not 0 -/
  badSrc  : Bool
  kind    : MoveKind
  deriving DecidableEq, Repr

def Ask.sub (a : Ask) : SubId := (a.pk.sub.extractLsb' 0 5).toFin

/-- Bank of a packet for its trace entries. -/
def Ask.traceBank (a : Ask) : Nat := if ledgerOnly a.op then 0 else match bankOfAddr a.pk.addr with
  | some b => b.val
  | none => 0

/-- What admission makes of a packet. -/
inductive Verdict where
  /-- every check passed: the operation, its effects provisional until it commits -/
  | admitted (o : Op)
  /-- ended with a result code, having held the slot named or none; `full` for want of a yard slot -/
  | refused (code : Byte) (slot : Option (Fin 256)) (full : Bool)
  | again (d : Dedup)
  deriving DecidableEq, Repr

/-! ### Checks 1 to 3 -/

/-- Check 1 (R216, R218): the subscriber, and a CANCEL's target, lie in the port's mask. -/
def State.check1 (s : State) (p : PortId) (a : Ask) : Bool :=
  let m := (s.port p).mask
  m.getLsbD a.sub.val && decide (a.sub ≠ 31) && (a.op != opCancel || m.getLsbD (a.pk.addr.extractLsb' 8 5).toNat)

/-- The newest entry of a sequence in a deduplication memory (R226). -/
def Sub.remembers (u : Sub) (seq : Byte) : Option Dedup := u.dedup.reverse.find? (fun d => d.seq == seq)

/-- Check 2 (R226, R230). -/
def State.check2 (s : State) (a : Ask) : Option Dedup :=
  if s.ledger.dedupOff.getLsbD a.sub.val then none else (s.sub a.sub).remembers a.pk.seq

/-- Opcodes that R450 refuses while a REGRESS drains; LEVEL_RAISE is tested with R445. -/
def drainDenies (op : Byte) : Bool :=
  op == opLay || op == opClear || op == opClearFoot || op == opHaul || op == opKiln || op == opRepoint

/-- The confirmation constants of Table 12.2. -/
def confirmation (op : Byte) (count : Nat) : BitVec 32 :=
  if op = opRegress then 0x52454752 else if count = 1 then 0x5345414C else 0x424F554E

/-- A lay to a mark page is permitted (R462, R463). -/
def State.markLayOk (s : State) (i : SubId) (a : BitVec 32) : Bool :=
  regionOf a != .marks || (s.privileged i && !s.life.lock.getLsbD (markPage a))

/-- A fetch may start at an address as far as hidden pages go (R464). -/
def State.hiddenOk (s : State) (a : BitVec 32) : Bool :=
  regionOf a != .marks || s.isOpen || !s.life.hide.getLsbD (markPage a)

/-- Check 3 for a LEVEL_RAISE or REGRESS, in the order of R638, with the flag that the failing test sets. -/
def State.checkLevel (s : State) (a : Ask) : State × Bool :=
  if !s.privileged a.sub then (s, false)
  else if !s.pins.wp then (s.modLife (fun l => { l with wpx := true }), false)
  else if a.pk.addr != s.pins.uid.extractLsb' 0 32 ^^^ confirmation a.op a.pk.count.toNat then
    (s.modLife (fun l => { l with codex := true }), false)
  else (s, if a.op = opRegress then s.regressOk else s.raiseOk a.pk.count.toNat)

/-- Check 3 (Table 12.3, Table 15.4, R442 to R446, R450, R462 to R464, R638). -/
def State.check3 (s : State) (a : Ask) : State × Bool :=
  if s.booting then (s, false)
  else if a.op = opLevelRaise ∨ a.op = opRegress then s.checkLevel a
  else if s.life.regPending then (s, a.op == opSignal || a.op == opCancel || a.op == opFence)
  else if s.draining && drainDenies a.op then (s, false)
  else if a.op = opLay then (s, s.markLayOk a.sub a.pk.addr)
  else if a.op = opFetch then (s, s.hiddenOk a.pk.addr)
  else (s, true)

/-! ### Check 4: a slot (R213) -/

/-- Slots that reserves hold back. -/
def State.owed (s : State) : Nat := (allSubs.map (fun t => (s.sub t).reserve.toNat - s.held t)).sum

/-- R213. -/
def State.slotOpen (s : State) (i : SubId) : Bool :=
  let h := s.held i
  if h < (s.sub i).reserve.toNat then true
  else if (s.sub i).max.toNat ≤ h then false
  else decide (s.owed < 256 - s.heldSlots)

def State.freeSlots (s : State) : List (Fin 256) :=
  (List.finRange 256).filter (fun k => (s.opOfSlot k).isNone)

/-! ### Check 5: the wait-for graph (R233 to R235, R242) -/

/-- A node of the graph: an operation in ADMITTING, QUEUED, RUNNING or SUSPENDED. -/
def Op.inGraph (o : Op) : Bool := !o.isDirect && o.state != .complete

/-- The operations that `x` waits for. -/
def State.waitsFor (s : State) (x : Op) : List Nat :=
  (s.ledger.ops.filter (fun y => y.inGraph && y.id != x.id &&
    (x.awaits == some y.id
     || (x.wait != 0xFF && !x.latched && y.signal == x.wait)
     || (x.opcode == opFence && y.sub == x.sub && y.before x)
     || (y.opcode == opFence && y.sub == x.sub && y.before x)))).map (·.id)

/-- Names that are in `l` or reached from it within `n` edges. -/
def State.reach (s : State) : Nat → List Nat → List Nat
  | 0, l => l
  | n + 1, l =>
    let more := ((l.filterMap s.op?).flatMap s.waitsFor).filter (fun i => !l.contains i)
    if more.isEmpty then l else s.reach n (l ++ more.eraseDups)

/-- R242: packet `o`, not yet among the operations, would close a cycle. -/
def State.closesCycle (s : State) (o : Op) : Bool :=
  if o.wait == o.signal && o.wait != 0xFF && !s.eventSet o.wait then true
  else
    let waiters := (s.ledger.ops.filter (fun w => w.inGraph && o.signal != 0xFF && w.wait == o.signal && !w.latched)).map (·.id)
    let seen := s.reach s.ledger.ops.length (s.waitsFor o)
    waiters.any (fun w => seen.contains w)

/-! ### Checks 6 to 8 -/

/-- Opcodes of R47. -/
def needsPeriod (op : Byte) : Bool :=
  op == opLay || op == opClear || op == opClearFoot || op == opHaul || op == opKiln || op == opRegress || op == opLevelRaise

/-- The port's period as R47 wants it. -/
def Port.periodOk (p : Port) : Bool := p.declared && decide (p.period.toNat ≤ 1000000)

/-- Opcodes that take a yard slot (R256). -/
def takesYard (op : Byte) : Bool := op == opFetch || op == opLay || op == opHaul

/-- The operation of a packet that has taken slot `k`. The event of its WAIT may latch at once (R235); an AFTER that has
completed or is not in memory is satisfied (R233, R234). -/
def State.opOf (s : State) (a : Ask) (k : Fin 256) : Op where
  id := s.ledger.nextId
  origin := .ledger k
  port := a.port.getD 0
  sub := a.sub
  seq := a.pk.seq
  opcode := a.op
  addr := a.pk.addr
  count := a.pk.count
  after := a.pk.after
  wait := a.pk.wait
  signal := a.pk.signal
  flags := a.pk.flags
  colour := .none
  charge := 0
  yard := none
  src := a.src
  payload := a.payload
  state := .admitting
  work := .waiting
  awaits := if a.pk.after = 0xFF then none else ((s.sub a.sub).remembers a.pk.after).bind (fun d =>
    if d.result.isSome then none else some d.op)
  latched := s.eventSet a.pk.wait
  marked := false
  result := 0xFF
  progress := 0
  units := 0
  position := 0
  epoch := 0
  admitted := 0
  stamp := 0
  completed := 0
  age := 0
  dupl := false
  uncertain := false
  corrected := false
  bad := a.badSrc
  copyFixed := false
  fetched := []
  driving := none
  kind := a.kind
  short := 0
  shortAt := none
  floorTicks := 0
  passed := false
  index := 0
  tokens := 0
  fresh := true

/-- The meter takes or refuses a charge (R385, R389). -/
def State.meter (s : State) (i : SubId) (charge : Nat) : State × Option Colour :=
  (s.modSub i (fun u => u.charged charge), (s.sub i).colourOf charge)

def State.refundMeter (s : State) (i : SubId) (c : Colour) (charge : Nat) : State := s.modSub i (fun u => u.refund c charge)

/-- A refusal for want of a yard slot is counted (Table 06.16). -/
def State.countFull (s : State) : State := s.modLedger (fun l => { l with yardFulls := l.yardFulls + 1 })

/-- Checks 7 and 8, for an operation that the meter has coloured. -/
def State.check78 (s : State) (a : Ask) (k : Fin 256) (o : Op) : State × Verdict :=
  let late := match a.port with
    | some p => needsPeriod a.op && !(s.port p).periodOk
    | none => false
  if late then (s.refundMeter a.sub o.colour o.charge, .refused rUndeclared (some k) false)
  else if !takesYard a.op then (s, .admitted o)
  else if !s.yardOpen a.sub then (s.refundMeter a.sub o.colour o.charge, .refused rFull (some k) true)
  else match s.takeYard o.id (some k) a.traceBank [] with
    | (s1, some y) => (s1, .admitted { o with yard := some y })
    | (s1, none) => (s1.refundMeter a.sub o.colour o.charge, .refused rFull (some k) true)

/-- Checks 5 to 8 of a packet that has taken slot `k`. -/
def State.check58 (s : State) (a : Ask) (k : Fin 256) : State × Verdict :=
  let o := s.opOf a k
  if s.closesCycle o then (s, .refused rCycle (some k) false)
  else if ledgerOnly a.op then s.check78 a k o
  else
    let charge := s.chargeOf a.op a.pk.count.toNat
    match s.meter a.sub charge with
    | (s1, none) => (s1, .refused rRed (some k) false)
    | (s1, some c) => s1.check78 a k { o with colour := c, charge := charge }

/-- Checks 3 to 8 (R220, R341).
Log entry 17 (DEDUCED); log entry 56 (DEDUCED). -/
def State.admitFrom3 (s : State) (a : Ask) : State × Verdict :=
  match s.check3 a with
  | (s1, false) => (s1, .refused rDenied none false)
  | (s1, true) =>
    if !s1.slotOpen a.sub then (s1, .refused rFull none false)
    else match s1.pick s1.freeSlots with
      | none => (s1, .refused rFull none false)
      | some k => s1.useFree.check58 a k

/-- A host packet's admission (R220). -/
def State.admitPacket (s : State) (p : PortId) (a : Ask) : State × Verdict :=
  if !s.check1 p a then (s, .refused rDenied none false)
  else match s.check2 a with
    | some d => (s, .again d)
    | none => s.admitFrom3 a

/-! ### CANCEL (R246, R247, Table 06.5) -/

/-- What Table 06.5 says of a target: end it now, mark it, or nothing. -/
inductive CancelAct where
  | ends
  | marks
  | nothing
  deriving DecidableEq, Repr

/-- Log entry 33 (DEDUCED). -/
def cancelAct (t : Op) : CancelAct :=
  if t.opcode = opRegress ∨ t.opcode = opLevelRaise ∨ t.opcode = opCancel then .nothing
  else match t.state with
    | .queued => .ends
    | .running =>
      if t.opcode = opFetch ∨ t.opcode = opClear ∨ t.opcode = opClearFoot ∨ t.opcode = opRepoint ∨ t.opcode = opHaul
        then .marks else .nothing
    | .suspended => if t.opcode = opClear ∨ t.opcode = opClearFoot then .marks else .nothing
    | _ => .nothing

/-- The target of a CANCEL's ADDRESS, looked up in the target subscriber's memory. -/
def State.cancelTarget (s : State) (addr : BitVec 32) : Option Op :=
  ((s.sub (addr.extractLsb' 8 5).toFin).remembers (addr.extractLsb' 0 8)).bind (fun d => s.op? d.op)

/-- A cancelled house packet leaves its duty due (R345): a slide gives its interval back to SINCE, and the scrub pointers
go back to its block. A relocation and a KILN of a tidy list stay due of themselves. -/
def State.dutyBack (s : State) (o : Op) : State :=
  if !o.house || o.opcode != opRepoint then s
  else match o.kind with
    | .slide => s.modBank (bankIx (addrBank o.addr)) (fun k =>
        { k with since := BitVec.ofNat 16 (min 0xFFFF (k.since.toNat + max 1 s.upkeep.slideInt.toNat)) })
    | .scrub => s.modUpkeep (fun u =>
        { u with nextbank := o.addr.extractLsb' 25 6, nextblock := o.addr.extractLsb' 16 9,
                 scrubTicks := max u.scrubTicks u.scrubInt.toNat })
    | _ => s

/-- No unit of a RUNNING operation is in progress: it waits for its next step, at a disabled gate, or with a chunk whose
write has not begun (R522).
Log entry 33 (DEDUCED). -/
def Op.between (t : Op) : Bool := match t.work with
  | .readReady => true
  | .chunkReady => true
  | .gateHeld => true
  | .staging _ => true
  | .fetching r => !r.gated && (windowOf t.addr).isNone
  | _ => false

/-- A marked target ends CANCELLED now; what it holds on a bank is given up. -/
def State.endMarked (s : State) (t : Op) : State :=
  (State.completeWith false (((s.modOp t.id (fun x => { x with marked := true })).dropHeldLay t.id).freeWindow t rCancelled) t.id
    rCancelled).dutyBack t

/-- A CANCEL marks a target (Table 06.5). A FETCH ends after the stone in progress, a clear after its block or sector. A target
between two units ends at once.
Log entry 33 (DEDUCED). -/
def State.markOp (s : State) (t : Op) : State :=
  if t.between then s.endMarked t
  else match (if t.state = .running then s.clearBetween t else none) with
    | some (b, c) => (s.closeClear b c).endMarked t
    | none => s.modOp t.id (fun x => { x with marked := true })

/-- CANCEL on its commit edge (R246). The events of operations that end here latch no wait before the next edge (R237).
Log entry 41 (DEDUCED). -/
def State.cancel (s : State) (o : Op) : State :=
  let r : State × Nat := match s.cancelTarget o.addr with
    | none => (s, 0)
    | some t => match cancelAct t with
      | .ends => ((State.completeWith false s t.id rCancelled).dutyBack t, 1)
      | .marks => (s.markOp t, 1)
      | .nothing => (s, 0)
  State.completeWith false (r.1.modOp o.id (fun x => { x with units := BitVec.ofNat 32 r.2 })) o.id rDone

/-! ### Commit (R224, R225) -/

/-- A committed packet enters its subscriber's memory of 32 entries (R225). -/
def Sub.remember (u : Sub) (seq : Byte) (op : Nat) : Sub :=
  let l := u.dedup ++ [{ seq := seq, op := op, result := none }]
  { u with last := seq, dedup := l.drop (l.length - 32) }

/-- The AFTER of a packet names a sequence that is not in memory (R234).
Log entry 42 (DEDUCED). -/
def State.missesAfter (s : State) (o : Op) : Bool := o.after != 0xFF && ((s.sub o.sub).remembers o.after).isNone

/-- An operation joins the others under its own name. -/
def State.addOp (s : State) (o : Op) : State :=
  s.modLedger (fun l => { l with ops := l.ops ++ [o], nextId := l.nextId + 1 })

/-- Commit: AFTERMISS, the staged payload, the memory, ADMIT, QUEUED; then what the opcode does on its commit edge.
Log entry 42 (DEDUCED). -/
def State.commit (s : State) (o : Op) : State :=
  let s1 := if s.missesAfter o then s.modLedger (fun l => { l with aftermiss := true }) else s
  let s2 := if o.payload.isEmpty then s1 else s1.fillYard o o.payload
  let q : Op := { o with state := .queued, admitted := s.stamp }
  let s3 := ((s2.addOp q).modSub o.sub (fun u => u.remember o.seq o.id)).traceOp tAdmit q
    (BitVec.ofNat 16 (o.sub.val * 256 + o.seq.toNat))
  if o.opcode = opCancel then s3.cancel q
  else if o.opcode = opLevelRaise then s3.tryRaise
  else if o.opcode = opRegress then s3.modLife (fun l => { l with phase := 1 })
  else s3

/-! ### Receipts (Table 05.8, Table 05.9) -/

/-- Log entry 43 (DEDUCED). -/
def receipt (state code slot colour : Byte) (progress : BitVec 16) : List Byte :=
  withCrc ([state, code, slot, colour] ++ be16 progress)

/-- Log entry 43 (DEDUCED). -/
def endedReceipt (code : Byte) : List Byte := receipt 0x81 code 0xFF 0xFF 0

def slotByte (k : Option (Fin 256)) : Byte := match k with | some n => BitVec.ofNat 8 n.val | none => 0xFF

def admittedReceipt (o : Op) : List Byte := receipt 0x00 0x00 (slotByte o.slot) o.colour.code 0

/-- Status condition of a packet that ended (Table 05.9). -/
def endedCond (code : Byte) : Cond :=
  if code = rDenied then .deny else if code = rCycle then .cycle else if code = rBadAlign then .crcx else .rfsd

/-- A REFUSE trace entry (R225).
Log entry 12 (DEDUCED); log entry 43 (DEDUCED). -/
def State.traceRefuse (s : State) (slot : Option (Fin 256)) (bank : Nat) (arg : Byte) : State :=
  s.addTrace tRefuse slot bank (BitVec.setWidth 16 arg)

/-- DUPL, with which a repeat ends in admission (Table 01.2), has no result code in Table 05.11: its REFUSE entry has ARG
0x0000.
Log entry 77 (DESIGN CHOICE). -/
def rDupl : Byte := 0x00

/-- A repeat is answered from the original (R227, R228), and ends in admission with one REFUSE entry (Table 01.2). -/
def State.answerAgain (s : State) (p : PortId) (bank : Nat) (d : Dedup) : State :=
  let s1 := s.traceRefuse none bank rDupl
  match d.result with
  | some r => match s1.op? d.op with
    | some o => s1.answer p .repeatDone (receipt 0x02 r (slotByte o.slot) 0xFF 0)
    | none => s1.answer p .repeatDone (receipt 0x82 r 0xFF 0xFF 0)
  | none => match s1.op? d.op with
    | some o => (s1.modOp d.op (fun x => { x with dupl := true })).answer p .repeatPending
        (receipt 0x03 0x00 (slotByte o.slot) 0xFF (s.progressNow o))
    | none => s1.answer p .repeatPending (receipt 0x83 0x00 0xFF 0xFF 0)

/-- The memory's entry of a repeat's original as it stands at the end of the repeat's payload. -/
def State.dedupNow (s : State) (d : Dedup) (u : Upload) : Dedup :=
  (((s.sub (u.pkt.sub.extractLsb' 0 5).toFin).dedup.find? (fun x => x.op == d.op))).getD d

/-! ### The LEDGER transaction -/

/-- A packet that ends in admission: its counts (Table 06.8, Table 06.16) and one REFUSE entry (R225).
Log entry 43 (DEDUCED). -/
def State.endAdmission (s : State) (slot : Option (Fin 256)) (bank : Nat) (code : Byte) (full : Bool) : State :=
  let s1 := if code = rCycle then s.modLedger (fun l => { l with cycles := l.cycles + 1 }) else s
  (if full then s1.countFull else s1).traceRefuse slot bank code

/-- A packet that ended in admission is answered (Table 05.9). -/
def State.answerRefused (s : State) (p : PortId) (slot : Option (Fin 256)) (bank : Nat) (code : Byte) (full : Bool) : State :=
  (s.endAdmission slot bank code full).answer p (endedCond code) (endedReceipt code)

/-- A packet that breaks a field rule (R198). -/
def State.answerBadAlign (s : State) (p : PortId) : State :=
  (s.traceRefuse none 0 rBadAlign).answer p .crcx (endedReceipt rBadAlign)

/-- The provisional operation `id` commits (R225). It takes a new name, so that names follow the order of commits. -/
def State.commitOp (s : State) (id : Nat) (payload : List Word) (src : BitVec 32) (badSrc : Bool) : State :=
  match s.op? id with
  | some o =>
    let n := s.ledger.nextId
    let s1 := (s.dropOp id).modLedger (fun l => { l with
      yard := l.yard.map (fun e => if e.owner == id then { e with owner := n } else e) })
    s1.commit { o with id := n, payload := payload, src := src, bad := badSrc }
  | none => s

/-- Operations that the memory holds under a packet's sequence. -/
def State.sameSeq (s : State) (a : Ask) : List Nat :=
  ((s.sub a.sub).dedup.filter (fun d => d.seq == a.pk.seq)).map Dedup.op

/-- An entry of the memory that committed after operation `o` passed check 2, when the memory held `known` (R224). -/
def State.twinOf (s : State) (o : Op) (known : List Nat) : Option Dedup :=
  (s.sub o.sub).dedup.reverse.find? (fun d => d.seq == o.seq && !known.contains d.op)

/-- What the payload of a HAUL says: its source address, and whether its bytes 4 to 7 are not 0 (R195). -/
def haulSrc (op : Byte) (payload : List Word) : BitVec 32 × Bool :=
  let w := payload.headD 0
  (if op = opHaul then w.extractLsb' 32 32 else 0, op == opHaul && w.extractLsb' 0 32 != 0)

/-- A packet past framing whose payload has come whole and good, or that has none: its verdict becomes its end or its
commit.
Log entry 43 (DEDUCED). -/
def State.decidePacket (s : State) (p : PortId) (a : Ask) : State :=
  match s.admitPacket p a with
  | (s1, .refused code slot full) => s1.answerRefused p slot a.traceBank code full
  | (s1, .again d) => s1.answerAgain p a.traceBank d
  | (s1, .admitted o) => (s1.commit o).answer p .ok (admittedReceipt o)

/-- A packet's payload fails its CRC (R14, Table 05.9). -/
def State.payloadBad (s : State) (p : PortId) (slot : Option (Fin 256)) (bank : Nat) : State :=
  ((s.traceRefuse slot bank 0xFF).modPort p (fun x => { x with pktbad := true })).answer p .crcx []

/-- A packet whose packet CRC fails (R197).
Log entry 43 (DEDUCED). -/
def State.badPacket (s : State) (p : PortId) : State :=
  let s1 := (s.traceRefuse none 0 0xFF).modPort p (fun x => { x with pktbad := true })
  if (s.port p).oneLane then s1.answer p .crcx [] else s1.hushBad p

/-- End of the partner map that bounds a CLEAR in a window. -/
def State.mapEndOf (s : State) (a : BitVec 32) : Option Nat := (windowOf a).bind (fun n => (s.anx n).mapEnd a)

/-- The opcode's ADDRESS lies in a bank that boot has closed: it is unmapped (Table 15.5).
Log entry 44 (DEDUCED). -/
def State.closedAddr (s : State) (op : Byte) (a : BitVec 32) : Bool :=
  (op == opFetch || op == opLay || op == opClear || op == opClearFoot || op == opRepoint || op == opKiln)
    && regionOf a == .main && s.closedBank (addrBank a)

/-- The field rules of framing, the opcode's among them (R193, R194, R196).
Log entry 44 (DEDUCED). -/
def State.fieldsOk (s : State) (op : Byte) (pk : Packet) : Bool :=
  commonRules pk && fieldRules op pk (s.mapEndOf pk.addr) && !s.closedAddr op pk.addr

/-- The opcode byte of a packet: that of its command, unless the packet carries a code outside Table 05.7. -/
def opcodeOf (pk : Packet) (op : Byte) : Byte := match pk.alien with
  | some b => if ledgerOpcode b then op else b
  | none => op

/-- A packet as admission takes it from port `p`. -/
def askOf (p : PortId) (op : Byte) (pk : Packet) (payload : List Word) : Ask :=
  { op := op, pk := pk, port := some p, payload := if op = opLay then payload else [], src := (haulSrc op payload).1,
    badSrc := (haulSrc op payload).2, kind := .scrub }

/-- Stones in the payload of a packet, by its opcode and COUNT as received (R195). -/
def payloadStones (op : Byte) (pk : Packet) : Nat :=
  if op = opLay then (if pk.count.toNat ≤ 64 then pk.count.toNat else 0) else if op = opHaul then 1 else 0

/-- A packet has come whose payload is still to come (R199): framing and admission act now, its slot, yard slot and charge
are provisional (R13).
Log entry 1 (DESIGN CHOICE). -/
def State.openUpload (s : State) (p : PortId) (op : Byte) (pk : Packet) : State :=
  let put := fun (t : State) (u : UploadState) => t.modPort p (fun x => { x with upload := some { op := op, pkt := pk, state := u } })
  if !s.fieldsOk op pk then put s .badAlign
  else match s.admitPacket p (askOf p op pk []) with
    | (s1, .refused code slot full) => put { s with freeCtr := s1.freeCtr } (.refused code slot full)
    | (_, .again d) => put s (.again d)
    | (s1, .admitted o) => put (s1.addOp o) (.admitted o.id (s.sameSeq (askOf p op pk [])))

/-- The payload of port `p`'s packet has come: R14 if its CRC fails, else what admission has decided, or the commit with
its second look at the memory (R200, R224). -/
def State.closeUpload (s : State) (p : PortId) (u : Upload) (payload : List Word) (crc : BitVec 16) : State :=
  let n := payloadStones u.op u.pkt
  let s1 := s.modPort p (fun x => { x with upload := none })
  if payload.length < n then s
  else if crc ≠ crc16 ((payload.take n).flatMap be64) then (s.dropUpload p).payloadBad p (s.uploadSlot u) u.traceBank
  else match u.state with
    | .badAlign => s1.answerBadAlign p
    | .refused code slot full =>
      (if code = rRed then s1.modSub (askOf p u.op u.pkt []).sub (fun x => { x with reds := x.reds + 1 }) else s1).answerRefused
        p slot u.traceBank code full
    | .again d => s1.answerAgain p u.traceBank (s.dedupNow d u)
    | .admitted id known => match s.op? id with
      | none => s1
      | some o => match s.twinOf o known with
        | some d => (s.dropUpload p).answerAgain p u.traceBank d
        | none =>
          let h := haulSrc u.op payload
          (s1.commitOp id (if u.op = opLay then payload.take n else []) h.1 h.2).answer p .ok (admittedReceipt o)

/-- The packet phase of a LEDGER transaction (R193 to R202): packet CRC, then field rules, then admission. -/
def State.ledgerPacket (s : State) (p : PortId) (op : Byte) (pk : Packet) (payload : Option (List Word × BitVec 16)) : State :=
  let n := payloadStones op pk
  if pk.crc ≠ crc16 (packetBytes pk op) then s.badPacket p
  else if n = 0 then (if s.fieldsOk op pk then s.decidePacket p (askOf p op pk []) else s.answerBadAlign p)
  else match payload with
    | none => s.openUpload p op pk
    | some (w, crc) =>
      let s1 := s.openUpload p op pk
      match (s1.port p).upload with
      | some u => s1.closeUpload p u w crc
      | none => s1

/-- A LEDGER transaction. A port without strobe whose packet is decided too late has nothing admitted (R201). A payload that
comes for a packet admitted before in the same transaction ends that packet.
Log entry 1 (DESIGN CHOICE); log entry 12 (DEDUCED). -/
def State.ledgerTaken (s : State) (tx : Tx) (op : Byte) (pk : Packet) (payload : Option (List Word × BitVec 16)) : State :=
  match payload, (s.port tx.port).upload with
  | some (w, crc), some u =>
    if u.op = op ∧ u.pkt = pk ∧ s.pace.holder.isSome then
      let s1 := s.modPort tx.port (fun x => { x with cycle := tx.waited })
      if s1.inTime tx then s1.closeUpload tx.port u w crc
      else ((s1.dropUpload tx.port).traceRefuse (s.uploadSlot u) u.traceBank 0xFF).tooLate tx
    else s
  | _, _ => match s.begin tx 0x7E false with
    | (s1, false) => s1
    | (s1, true) =>
      if s1.inTime tx then s1.ledgerPacket tx.port (opcodeOf pk op) pk payload
      else (s1.traceRefuse none 0 0xFF).tooLate tx

/-- A LEDGER transaction in its place on the edge: packets in port order, before the house and the dispatches (R223, R392).
One that comes out of that order changes nothing, and so does one that no port receives.
Log entry 6 (DEDUCED). -/
def State.ledgerCommand (s : State) (tx : Tx) (op : Byte) (pk : Packet) (payload : Option (List Word × BitVec 16)) : State :=
  if s.pace.holder.isSome && (s.hears tx.port || (s.port tx.port).upload.isSome)
      && decide (s.pace.stage ≤ orderPacket tx.port) then
    (s.ledgerTaken tx op pk payload).modPace (fun x => { x with stage := orderPacket tx.port })
  else s

def State.plainPacket (s : State) (tx : Tx) (op : Byte) (pk : Packet) : Outcome := .next (s.ledgerCommand tx op pk none)

/-- LEDGER_FETCH (R220, R256). -/
def execLedgerFetch (tx : Tx) (pkt : Packet) (s : State) : Outcome := s.plainPacket tx opFetch pkt

/-- LEDGER_LAY (R195, R199, R200): its payload is COUNT stones where COUNT is 1 to 64, else it has none. -/
def execLedgerLay (tx : Tx) (pkt : Packet) (payload : Option (List Word)) (pcrc : BitVec 16) (s : State) : Outcome :=
  .next (s.ledgerCommand tx opLay pkt (payload.map (fun w => (w, pcrc))))

/-- LEDGER_CLEAR (R220). -/
def execLedgerClear (tx : Tx) (pkt : Packet) (s : State) : Outcome := s.plainPacket tx opClear pkt

/-- LEDGER_CLEAR_FOOT (R220). -/
def execLedgerClearFoot (tx : Tx) (pkt : Packet) (s : State) : Outcome := s.plainPacket tx opClearFoot pkt

/-- HAUL (R195, R199, R516): its payload is one stone, whose bytes 0 to 3 are the source address. -/
def execHaul (tx : Tx) (pkt : Packet) (payload : Option (List Word)) (pcrc : BitVec 16) (s : State) : Outcome :=
  .next (s.ledgerCommand tx opHaul pkt (payload.map (fun w => (w, pcrc))))

/-- KILN (R220, R359). -/
def execKiln (tx : Tx) (pkt : Packet) (s : State) : Outcome := s.plainPacket tx opKiln pkt

/-- REPOINT (R220, R347). -/
def execRepoint (tx : Tx) (pkt : Packet) (s : State) : Outcome := s.plainPacket tx opRepoint pkt

/-- SIGNAL (R220, R239). -/
def execSignal (tx : Tx) (pkt : Packet) (s : State) : Outcome := s.plainPacket tx opSignal pkt

/-- FENCE (R220, R240). -/
def execFence (tx : Tx) (pkt : Packet) (s : State) : Outcome := s.plainPacket tx opFence pkt

/-- CANCEL (R246). -/
def execCancel (tx : Tx) (pkt : Packet) (s : State) : Outcome := s.plainPacket tx opCancel pkt

/-- LEDGER_SUSPEND (R220, R320). -/
def execLedgerSuspend (tx : Tx) (pkt : Packet) (s : State) : Outcome := s.plainPacket tx opSuspend pkt

/-- LEDGER_RESUME (R220, R322). -/
def execLedgerResume (tx : Tx) (pkt : Packet) (s : State) : Outcome := s.plainPacket tx opResume pkt

/-- LEVEL_RAISE (R442 to R448). -/
def execLevelRaise (tx : Tx) (pkt : Packet) (s : State) : Outcome := s.plainPacket tx opLevelRaise pkt

/-- REGRESS (R442 to R450). -/
def execRegress (tx : Tx) (pkt : Packet) (s : State) : Outcome := s.plainPacket tx opRegress pkt

/-! ### The house (R341 to R343, R632) -/

/-- A house packet (R342).
Log entry 17 (DEDUCED). -/
def State.houseAsk (s : State) (op : Byte) (addr : BitVec 32) (count : Nat) (kind : MoveKind) : Ask :=
  { op := op,
    pk := { alien := none, flags := 0, sub := 31, seq := (s.sub 31).last + 1, addr := addr, count := BitVec.ofNat 16 count, after := 0xFF,
            wait := 0xFF, signal := 0xFF, zero := 0, crc := 0 },
    port := none, payload := [], src := 0, badSrc := false, kind := kind }

/-- The house submits a packet through checks 3 to 8: the state, and whether it committed. A refusal counts in DEFERS
(R343).
Log entry 17 (DEDUCED). -/
def State.houseSubmit (s : State) (op : Byte) (addr : BitVec 32) (count : Nat) (kind : MoveKind) : State × Bool :=
  let a := s.houseAsk op addr count kind
  match s.admitFrom3 a with
  | (s1, .admitted o) => (s1.commit o, true)
  | (s1, .refused code slot full) =>
    ((s1.endAdmission slot a.traceBank code full).modUpkeep (fun u => { u with defers := u.defers + 1 }), false)
  | (s1, .again _) => (s1, false)

/-! ### Direct LAY and CLEAR (R178 to R186, Table 05.2) -/

/-- A direct operation as committed (R181 to R184). -/
def State.directOp (s : State) (p : PortId) (op : Byte) (addr : BitVec 32) (count : Nat) (payload : List Word) (c : Colour)
    (charge : Nat) (yard : Option (Fin 256)) : Op :=
  { s.opOf { op := op,
             pk := { alien := none, flags := 0, sub := BitVec.setWidth 8 (s.port p).dflt, seq := 0, addr := addr,
                     count := BitVec.ofNat 16 count, after := 0xFF, wait := 0xFF, signal := 0xFF, zero := 0, crc := 0 },
             port := some p, payload := payload, src := 0, badSrc := false, kind := .scrub } 0 with
    origin := .direct p, state := .queued, admitted := s.stamp, colour := c, charge := charge, yard := yard }

/-- Check 5 of Table 05.2 (R263, R450, R452, R462, R463, Table 15.4). -/
def State.directPermitted (s : State) (p : PortId) (op : Byte) (addr : BitVec 32) : Bool :=
  !s.booting && !s.life.regPending && !s.draining &&
  (match s.region addr with
    | .unmapped => false
    | .info => false
    | .marks => op == opLay && s.markLayOk (s.port p).dflt.toFin addr
    | _ => true)

/-- The commit of a direct operation that the meter has passed: check 7, then RESULT, UNITS and the operation. -/
def State.directCommit (s : State) (p : PortId) (op : Byte) (addr : BitVec 32) (count : Nat) (payload : List Word)
    (c : Colour) (charge : Nat) : State :=
  let i : SubId := (s.port p).dflt.toFin
  let fresh := fun (t : State) (o : Op) =>
    ((t.addOp o).modPort p (fun x => { x with result := 0xFF, units := 0 })).answer p .ok []
  if op ≠ opLay then fresh s (s.directOp p op addr count [] c charge none)
  else
    let full := fun (t : State) => ((t.refundMeter i c charge).countFull).answer p .rfsd []
    if !s.yardOpen i then full s
    else match s.takeYard s.ledger.nextId none (match bankOfAddr addr with | some b => b.val | none => 0) payload with
      | (s1, some y) => fresh s1 (s1.directOp p op addr count payload c charge (some y))
      | (s1, none) => full s1

/-- Checks 2 to 7 of Table 05.2 for a direct operation past its CRC and field rules.
Log entry 56 (DEDUCED). -/
def State.directAsk (s : State) (p : PortId) (op : Byte) (addr : BitVec 32) (count : Nat) (payload : List Word) : State :=
  if !(s.port p).armed then (s.modPort p (fun x => { x with notarmed := true })).answer p .notReady []
  else if s.directBusy p then s.answer p .held []
  else if !(s.port p).periodOk then s.answer p .rfsd []
  else if !s.directPermitted p op addr then s.answer p .deny []
  else
    let charge := s.chargeOf op count
    match s.meter (s.port p).dflt.toFin charge with
    | (s1, none) => s1.answer p .rfsd []
    | (s1, some c) => s1.directCommit p op addr count payload c charge

/-- A command that breaks its field rule (R185).
Log entry 43 (DEDUCED). -/
def State.directBad (s : State) (p : PortId) : State :=
  (s.modPort p (fun x => { x with result := rBadAlign })).answer p .crcx []

/-- A direct LAY's CRC fails (R186). -/
def State.layCrcBad (s : State) (p : PortId) : State :=
  let s1 := s.modPort p (fun x => { x with pktbad := true })
  if (s.port p).oneLane then s1.answer p .crcx [] else s1.hushBad p

/-- LAY (0x2C). -/
def execLay (tx : Tx) (addr : BitVec 32) (count : Byte) (payload : List Word) (crc : BitVec 16) (s : State) : Outcome :=
  .next (s.run2 tx 0x2C false (fun t =>
    let p := tx.port
    let n := count.toNat
    if payload.length < n then t.hush p
    else if crc ≠ crc16 (be32 addr ++ [count] ++ (payload.take n).flatMap be64) then t.layCrcBad p
    else if addr &&& 7 ≠ 0 ∨ n < 1 ∨ 64 < n ∨ withinRow addr n = false then t.directBad p
    else t.directAsk p opLay addr n (payload.take n)))

/-- CLEAR BLOCK (0x3C). -/
def execClearBlock (tx : Tx) (addr : BitVec 32) (crc : BitVec 16) (s : State) : Outcome :=
  .next (s.run2 tx 0x3C false (fun t =>
    if crc ≠ crc16 (be32 addr) then t.answer tx.port .crcx []
    else if addr &&& 0xFFFF ≠ 0 then t.directBad tx.port
    else t.directAsk tx.port opClear addr 1 []))

/-- CLEAR FOOTING (0x3E). -/
def execClearFooting (tx : Tx) (addr : BitVec 32) (crc : BitVec 16) (s : State) : Outcome :=
  .next (s.run2 tx 0x3E false (fun t =>
    if crc ≠ crc16 (be32 addr) then t.answer tx.port .crcx []
    else if addr &&& 0xFFF ≠ 0 ∨ regionOf addr ≠ .main ∨ isFooting (bankIx (addrBank addr)) (addrBlock addr) = false then
      t.directBad tx.port
    else t.directAsk tx.port opClearFoot addr 1 []))

end Sys2Proof.Machine
end

