-- ==== Sys2Proof/Machine/Passing.lean ====
section
/-! DEFINITION. How operations pass their gates (11): who asks, what a violation holds, and decisions in ascending
order. -/
namespace Sys2Proof.Machine

/-- The subscriber that a gate checks an operation as (R413).
Log entry 37 (DEDUCED). -/
def State.gateSub (s : State) (o : Op) : SubId := if o.isDirect then (s.port o.port).dflt.toFin else o.sub

/-- The opcode of an operation in VIOL_INFO: the direct command's own, or the ledger opcode (Table 11.8). -/
def Op.wireOp (o : Op) : Byte :=
  if !o.isDirect then o.opcode
  else if o.opcode = opLay then 0x2C else if o.opcode = opClear then 0x3C else 0x3E

def State.opViolation (s : State) (o : Op) (g : GateId) (write : Bool) (a : BitVec 32) (c : BitVec 3 × BitVec 3) : Violation :=
  { gate := g, sub := s.gateSub o, port := o.port, direct := o.isDirect, write := write, cause := c.1, region := c.2,
    slot := o.slot, opcode := o.wireOp, addr := a }

/-- The stones or granules of an operation are decided in ascending order; the first refused ends the checking (R420,
R421). The operation keeps the epoch of the last one decided, refused or not (R430). The answer: the state, how many passed, and whether one was refused. What passes no gate is permitted (R412).
Log entry 37 (DEDUCED). -/
def State.passAll (s : State) (o : Op) (write : Bool) : List (BitVec 32) → State × Nat × Bool
  | [] => (s, 0, false)
  | a :: r =>
    if o.house then (s, r.length + 1, false)
    else match gateOf a with
      | none => (s, r.length + 1, false)
      | some g =>
        let s1 := s.modOp o.id (fun x => { x with epoch := (s.gate g).epoch.extractLsb' 0 8 })
        match s.gateAsk g (s.gateSub o) write a with
        | some c => (s1.violate (s.opViolation o g write a c), 0, true)
        | none =>
          let t := State.passAll s1 o write r
          (t.1, t.2.1 + 1, t.2.2)

/-- Stone addresses `n` from `a`. -/
def stonesFrom (a : BitVec 32) (n : Nat) : List (BitVec 32) := (List.range n).map (fun i => a + BitVec.ofNat 32 (8 * i))

/-- The 4 KiB granules of `bytes` from `a` (R421). -/
def granulesFrom (a : BitVec 32) (bytes : Nat) : List (BitVec 32) :=
  (List.range (bytes / 4096)).map (fun i => a + BitVec.ofNat 32 (4096 * i))

/-- The gate before an address holds the operation (R422, R423). -/
def State.gateHolds (s : State) (o : Op) (a : BitVec 32) : Bool := !s.gateOpenFor o a

/-! ### Stones read one by one (R293, R420, R429, R519, R639) -/

/-- The bank of a running read serves it: also through the unit boundary at which it was dispatched (R312).
Log entry 39 (DEDUCED). -/
def Bank.servesRunning (k : Bank) (block sector : Nat) : Bool :=
  k.serves block sector || (k.state == .clearing && (match k.clear with | some c => c.boundary | none => false))

/-- The run of an operation that reads stones. -/
def Op.reads (o : Op) : Option ReadRun := match o.work with
  | .fetching r => some r
  | .staging r => some r
  | _ => o.aheadRun

def Op.withRun (o : Op) (r : ReadRun) : Op := match o.nextStaged with
  | some h => { o with ahead := some { h with run := r } }
  | none => { o with work := match o.work with | .staging _ => .staging r | _ => .fetching r }

/-- Stones that the read has to bring in all: the FETCH's COUNT, or the HAUL's chunk. -/
def State.stonesWanted (s : State) (o : Op) : Nat := match o.nextStaged with
  | some h => s.chunkFrom o h.start
  | none => if o.opcode = opHaul then s.haulChunk o else o.count.toNat

/-- A result stops a read: that of a HAUL's next chunk waits with it, so that the chunk before is still written (R519). -/
def Op.stops (o : Op) (r : Byte) : Op := match o.nextStaged with
  | some h => { o with ahead := some { h with stop := r } }
  | none => { o with result := r }

/-- A read has come to its end: every stone has been read, or a result that waits has stopped it. A marked HAUL stages no
further chunk (R522). -/
def State.readOver (s : State) (o : Op) : Bool :=
  (match o.nextStaged with
    | some h => o.marked || h.stop != 0xFF
    | none => o.result != 0xFF)
  || decide (s.stonesWanted o ≤ o.stonesRead)

/-- While regression is pending no ledger FETCH reads a stone outside the info page (R452, R639).
Log entry 20 (DEDUCED). -/
def State.fetchBarred (s : State) (a : BitVec 32) : Bool := s.life.regPending && regionOf a != .info

/-- The next stone of a read meets its gate (R293, R420, R422): the state, and whether it passes. A stone that has passed is
not asked again (R429). -/
def State.gateStone (s : State) (o : Op) (r : ReadRun) : State × Bool :=
  if r.gated then (s, true)
  else if s.gateHolds o o.nextStone then (s.modOp o.id (fun x => x.withRun { r with cold := true }), false)
  else
    let g := s.passAll o false [o.nextStone]
    if g.2.2 then (g.1.modOp o.id (fun x => x.stops rDenied), false)
    else if r.cold then (g.1.modOp o.id (fun x => x.withRun { r with gated := true, ready := s.pace.devtime + s.fetchPs }), true)
    else (g.1.modOp o.id (fun x => x.withRun { r with gated := true }), true)

/-- A stone that an operation has read joins what it has staged. A marked FETCH ends after it (Table 06.5). -/
def Op.gotStone (o : Op) (w : Word) : Op := match o.nextStaged with
  | some h => { o with ahead := some { h with data := h.data ++ [w] } }
  | none =>
    let o1 := if o.opcode = opHaul then { o with payload := o.payload ++ [w] }
      else { o with fetched := o.fetched ++ [w], units := o.units + 1 }
    if o.marked then { o1 with result := rCancelled } else o1

/-- The next stone of the array is read (R268, R281, R293); the one after it is ready 4 ns later (Table 07.6). -/
def State.readArrayStone (s : State) (o : Op) (r : ReadRun) : State :=
  let a := o.nextStone
  let q := readStone (s.cellsAt a ^^^ flipOf r.flips o.stonesRead)
  (s.noteRead (bankMet a) o.slot (addrStone a) q).modOp o.id (fun x => Op.withRun { x.gotStone q.data with
    corrected := x.corrected || q.fixed, bad := x.bad || q.bad } { r with gated := false, cold := false, ready := r.ready + 4000 })

/-- One step of a read that is under way on this edge: the state, and whether another may follow. A stone that meets its bank
busy is read anew once the bank serves it.
Log entry 75 (DEDUCED). -/
def State.readStep (s : State) (id : Nat) : State × Bool := match s.op? id with
  | none => (s, false)
  | some o => match o.reads with
    | none => (s, false)
    | some r =>
      if o.state != .running || s.readOver o then (s, false)
      else if o.opcode == opFetch && s.fetchBarred o.nextStone then (s.modOp id (fun x => { x with result := rDenied }), false)
      else if !r.cold && !r.gated && s.stonesDue r.ready 1 == 0 then (s, false)
      else match s.gateStone o r with
        | (s1, false) => (s1, false)
        | (s1, true) => match (s1.op? id).bind Op.reads with
          | none => (s1, false)
          | some r1 =>
            if !(s1.bank (bankMet o.nextStone)).servesRunning (addrBlock o.nextStone) (addrSector o.nextStone) then
              (s1.modOp id (fun x => x.withRun { r1 with ready := s.pace.devtime + s.fetchPs }), false)
            else if s1.stonesDue r1.ready 1 == 0 then (s1, false)
            else (s1.readArrayStone o r1, true)

/-- The stones of a read that fall due on this edge, at most `n`. -/
def State.readOn (s : State) (id : Nat) : Nat → State
  | 0 => s
  | n + 1 => match s.readStep id with
    | (s1, true) => s1.readOn id n
    | (s1, false) => s1

/-- A read that begins on this edge: its first stone meets its gate now. -/
def State.firstRun (s : State) (flips : Flips) : ReadRun := { ready := s.pace.devtime, gated := false, cold := true, flips := flips }

end Sys2Proof.Machine
end

