-- ==== Sys2Proof/Machine/Moves.lean ====
section
/-! DEFINITION. Moves of a block (R349 to R354, R568, R633 to R635), and the steps of REPOINT and KILN around them. -/
namespace Sys2Proof.Machine

def State.setWork (s : State) (id : Nat) (w : Work) : State := s.modOp id (fun x => { x with work := w })

/-- A step of operation `id` waits for WP# high: DEFERRED rises once (R633). -/
def State.wpWaits (s : State) (b : BankId) (id : Nat) (w : WpStep) : State :=
  ((s.modBank b (fun k => { k with wpSteps := k.wpSteps ++ [(id, w)] })).setWork id .wpWait).modGlob
    (fun g => { g with deferred := g.deferred + 1 })

/-- A move or firing is not started for want of WP# (R355). -/
def State.countDeferred (s : State) : State := s.modGlob (fun g => { g with deferred := g.deferred + 1 })

/-- The relocation that operation `id` carries out has ended (R330). -/
def State.relocDone (s : State) (b : BankId) (id : Nat) : State :=
  s.modBank b (fun k => { k with relocs := k.relocs.filter (fun r => r.op != some id) })

/-- Result of a REPOINT (R365). -/
def Op.repointResult (o : Op) : Byte := if o.bad then rUncorr else if o.corrected then rCorrected else rDone

/-- A REPOINT ends CANCELLED: one of the house leaves its duty due (R345). -/
def State.cancelRepoint (s : State) (o : Op) : State := (s.dutyBack o).complete o.id rCancelled

/-- A block of a REPOINT is done (R365): it counts, and the REPOINT ends or goes on to its next block. A marked one ends
CANCELLED after the block in progress (Table 06.5).
Log entry 33 (DEDUCED). -/
def State.blockOver (s : State) (b : BankId) (id : Nat) : State :=
  let s1 := (s.modBank b (fun k => k.dropMove id)).modOp id (fun x => { x with units := x.units + 1, index := x.index + 1 })
  match s1.op? id with
  | none => s1
  | some o =>
    if o.marked then s1.cancelRepoint o
    else if o.count.toNat ≤ o.index then s1.complete id o.repointResult
    else s1.setWork id .readReady

/-- A block is done, and a relocation of R330 with it. -/
def State.blockDone (s : State) (b : BankId) (id : Nat) : State := (s.relocDone b id).blockOver b id

/-- A move ends without moving its block (R353, R365, R635). -/
def State.moveFails (s : State) (b : BankId) (m : Move) : State :=
  if m.kind = .kilnSwap then (s.modBank b (fun k => k.dropMove m.op)).complete m.op rLayFail else s.blockDone b m.op

/-- A move ends with its block in its new slot: MOVES or RELOCS, and what comes next. -/
def State.moveEnds (s : State) (b : BankId) (m : Move) : State :=
  match m.kind with
  | .slide => (s.modBank b (fun k => { k with moves := k.moves + 1 })).blockDone b m.op
  | .scrub => (s.modUpkeep (fun u => { u with relocs := u.relocs + 1 })).blockDone b m.op
  | .relocation => s.blockDone b m.op
  | .kilnSwap => (s.modBank b (fun k => k.dropMove m.op)).setWork m.op .fireReady

/-- Cause with which a move retires its source, if it does (R350). -/
def Move.retires (m : Move) : Option (BitVec 4) :=
  if m.kind = .relocation then some retLayFail else if m.kind = .scrub ∧ m.uncorr then some retRepoint else none

/-- The map change of a move (R282): the block to dst, which becomes MAPPED and leaves the tidy list; src joins the list
unless it is retired on this edge, and from a slide it stands for the gap (R634). -/
def BankRec.remap (r : BankRec) (b : BankId) (m : Move) : BankRec :=
  let r1 := ((({ r with gap := if r.gap = some m.dst then none else r.gap }).setMap m.lblock m.dst).setSlot b m.dst .mapped).tidyDrop m.dst
  let r2 := if m.retires.isNone then r1.tidyAdd m.src else r1
  if m.kind = .slide then { r2 with gap := some m.src } else r2

/-- The map change, on an edge with WP# high. -/
def State.mapChange (s : State) (b : BankId) (m : Move) : State :=
  let stamp := s.stamp
  let s1 := s.modKept b (fun r => match m.retires with
    | some c => (r.remap b m).retire b m.src c stamp
    | none => r.remap b m)
  match m.retires with
  | some _ => s1.moveEnds b m
  | none => (s1.modBank b (fun k => k.putMove { m with mapped := true })).setWork m.op .srcClearReady

/-- The last row has been copied: the map changes, or waits for WP# (R633). -/
def State.rowsDone (s : State) (b : BankId) (m : Move) : State :=
  if s.pins.wp then s.mapChange b m else s.wpWaits b m.op .mapChange

/-- A move goes on to its next row, or to its map change. -/
def State.nextCopy (s : State) (b : BankId) (m : Move) : State :=
  match s.nextRow b m with
  | some r => (s.modBank b (fun k => k.putMove { m with row := r })).setWork m.op .rowReady
  | none => (s.modBank b (fun k => k.putMove m)).rowsDone b m

/-- A move begins: its destination joins the tidy list before the first row copy (R568). -/
def State.beginMove (s : State) (b : BankId) (m : Move) : State :=
  match s.nextRow b m with
  | some _ => (s.modKept b (fun r => r.tidyAdd m.dst)).nextCopy b m
  | none => s.nextCopy b m

/-- A row copy failed, on an edge with WP# high (R353): dst is retired, and the copy restarts into the lowest RESERVE
slot, which for a slide is the new gap (R358).
Log entry 31 (DEDUCED). -/
def State.retireDst (s : State) (b : BankId) (m : Move) : State :=
  let stamp := s.stamp
  let s1 := s.modKept b (fun r => (r.retire b m.dst retLayFail stamp).tidyDrop m.dst)
  match (if m.kind = .slide then (s1.bank b).kept.gap else s1.spareSlot b) with
  | none => s1.moveFails b m
  | some d => s1.beginMove b { m with dst := d, row := 0 }

/-- A row copy of operation `id` has ended with `r` (R353). -/
def State.copyEnds (s : State) (b : BankId) (id : Nat) (r : Byte) : State := match (s.bank b).moveOf id with
  | none => s
  | some m =>
    if r = rDone then s.nextCopy b { m with row := m.row + 1 }
    else if s.pins.wp then s.retireDst b m
    else s.wpWaits b m.op .retireDst

/-- Next state of the source of a move (R350). -/
def MoveKind.next : MoveKind → SlotState
  | .slide => .gap
  | .kilnSwap => .kiln
  | .scrub => .reserve
  | .relocation => .grownBad

/-- The clear of the source ended DONE: the source takes its next state, on an edge with WP# high. -/
def State.nextState (s : State) (b : BankId) (m : Move) : State :=
  (s.modKept b (fun r => (r.setSlot b m.src m.kind.next).tidyDrop m.src)).moveEnds b m

/-- The clear of the source failed: the source is retired, on an edge with WP# high (R354, R635). -/
def State.retireSrc (s : State) (b : BankId) (m : Move) : State :=
  let stamp := s.stamp
  let s1 := s.modKept b (fun r => (r.retire b m.src retClearFail stamp).tidyDrop m.src)
  if m.kind = .kilnSwap then (s1.modBank b (fun k => k.dropMove m.op)).complete m.op rClearFail
  else s1.moveEnds b m

/-- The clear of the source of operation `id`'s move has ended. -/
def State.sourceEnds (s : State) (b : BankId) (id : Nat) (ok : Bool) : State := match (s.bank b).moveOf id with
  | none => s
  | some m =>
    if !s.pins.wp then s.wpWaits b m.op (if ok then .nextState else .retireSrc)
    else if ok then s.nextState b m else s.retireSrc b m

/-! ### The end of a firing (R360) -/

/-- Slot and operation of the firing that bank `b` runs. -/
def ClearRun.slot (c : ClearRun) : Nat := match c.unit with
  | .block k => k
  | .sector k _ => k
  | .page _ => 0

/-- A firing has ended, on an edge with WP# high: the slot's end state, and the result of its KILN. -/
def State.firedState (s : State) (b : BankId) (id slot : Nat) (ok : Bool) : State :=
  let stamp := s.stamp
  let worn := decide (100000 ≤ (s.wearOf b slot).2)
  let s1 := s.modKept b (fun r =>
    (if ok && !worn then r.setSlot b slot .reserve else r.retire b slot retKiln stamp).tidyDrop slot)
  if ok then ((s1.modBank b (fun k => { k with swaps := k.swaps + 1 })).modOp id (fun x => { x with units := 1 })).complete id rDone
  else s1.complete id rClearFail

/-! ### The read of a block (R365, R636) -/

/-- Which move a block that has been read makes: its kind's rule, with the destination (R284, R365). A slide makes none in a
bank that has become fixed. -/
def State.moveFor (s : State) (b : BankId) (o : Op) (l : Nat) (fixes bad : Nat) : Option Nat :=
  match o.kind with
  | .slide => if s.glob.mapmode.getLsbD b.val then (s.bank b).kept.gap else none
  | .relocation => if isFooting b l then none else s.spareSlot b
  | _ => if isFooting b l then none
    else if 0 < bad ∨ s.upkeep.fixmax.toNat ≤ fixes then s.spareSlot b else none

/-- Stones (row·64 + stone) that the move of a relocation leaves out (R330). -/
def Bank.skipFor (k : Bank) (id : Nat) : List Nat := match k.relocs.find? (fun r => r.op == some id) with
  | some r => r.skip
  | none => []

/-- After the read of block `l`: the move, or the next block (R355, R365). A relocation that WP# keeps from moving its block
stays due (R330).
Log entry 30 (DEDUCED). -/
def State.afterRead (s : State) (b : BankId) (o : Op) (l fixes bad : Nat) : State :=
  match s.moveFor b o l fixes bad with
  | none => s.blockDone b o.id
  | some d =>
    if !s.pins.wp then s.countDeferred.blockOver b o.id
    else s.beginMove b { op := o.id, kind := o.kind, lblock := l, src := (s.bank b).kept.slotOf l, dst := d, row := 0,
                         skip := (s.bank b).skipFor o.id, uncorr := false, mapped := false }

/-- Read the stones of slot `k` from number `i` on, `n` of them: corrected and uncorrectable ones are traced and counted. -/
def State.readSlot (s : State) (b : BankId) (o : Op) (k : Nat) (flips : Flips) (i : Nat) (fixes bad : Nat) :
    Nat → State × Nat × Nat
  | 0 => (s, fixes, bad)
  | n + 1 =>
    let r := readStone (readCells s.mem (stoneIx b.val k 0 0 + i) ^^^ flipOf flips i)
    let s1 := if r.fixed || r.bad then s.noteRead b o.slot (i % 64) r else s
    State.readSlot s1 b o k flips (i + 1) (fixes + (if r.fixed then 1 else 0)) (bad + (if r.bad then 1 else 0)) n

/-- A REPOINT's read over a pace edge (R636): the stones that fall due, 4 ns apart. -/
def State.readBlockOn (s : State) (o : Op) (r : BlockRead) (b : BankId) : State :=
  let n := s.stonesDue r.ready (8192 - r.next)
  if n = 0 then s
  else
    let t := s.readSlot b o ((s.bank b).kept.slotOf (addrBlock o.addr + o.index)) r.flips r.next r.fixes r.bad n
    t.1.setWork o.id (.reading { r with
      next := r.next + n, ready := r.ready + BitVec.ofNat 64 (4000 * n), fixes := t.2.1, bad := t.2.2 })

/-- The stones that every running read of the ledger comes to on this edge. -/
def State.readsGoOn (s : State) : State :=
  forEach s.ledger.ops (fun t o =>
    if o.state != .running then t
    else match o.work, o.bankOf with
      | .reading r, some b => t.readBlockOn o r b
      | .fetching _, some _ => t.readOn o.id 64
      | _, _ => if o.opcode == opHaul && o.reads.isSome && (windowOf o.src).isNone then t.readOn o.id 64 else t) s

/-- REPOINT_READ_END (R636): the operation in slot `k` has read the 8,192 stones of its block in bank `b`.
Log entry 18 (DEDUCED). -/
def execRepointReadEnd (k : Fin 256) (b : BankId) (s : State) : Outcome :=
  s.onStep orderEnds (match s.opOfSlot k with
    | none => s
    | some o => match o.work with
      | .reading r =>
        if o.state == .running && o.bankOf == some b && r.next == 8192 then
          (s.modOp o.id (fun x => { x with corrected := x.corrected || decide (0 < r.fixes), bad := x.bad || decide (0 < r.bad) })).afterRead
            b o (addrBlock o.addr + o.index) r.fixes r.bad
        else s
      | _ => s)

end Sys2Proof.Machine
end

