-- ==== Sys2Proof/Machine/Lays.lean ====
section
/-! DEFINITION. Lays (08, R301 to R306, R327, R330, R628, R629): start, gate, end, tamp; and the relocations they ask for. -/
namespace Sys2Proof.Machine

/-- Number of the physical stone that a laid address names: through the course map in the main array (R281). -/
def State.physOf (s : State) (a : BitVec 32) : Nat := match regionOf a with
  | .main => stoneIx (addrBank a).val ((s.bank (bankIx (addrBank a))).kept.slotOf (addrBlock a)) (addrRow a) (addrStone a)
  | _ => markIx (markPage a) (markStone a)

/-- Targets of a lay of stones `data` from `a` (R301). -/
def State.layTargets (s : State) (a : BitVec 32) (data : List Word) : List (Nat × BitVec 75) :=
  (data.zip (stonesFrom a data.length)).map (fun e => (s.physOf e.2, cellsOf e.1))

/-- Where the lay that an operation runs begins. -/
def Op.layAt (o : Op) : BitVec 32 := o.addr + BitVec.ofNat 32 (8 * o.units.toNat)

def LayRun.whole (l : LayRun) : Bool := l.units == l.targets.length

/-- Maximum lay time in ps (Table 08.2, R534). -/
def LayRun.maxPs (l : LayRun) : Nat := (60000000 + 13300000 * (l.targets.length - 1)) * l.stretch / 100

/-! ### Tamp (R372, R373) -/

def State.tampHeld (s : State) (g : Gal) : Bool := g.tampFreeze || g.tampOver || s.upkeep.freezeTamp

def Gal.tampStep (g : Gal) (d : Int) : Gal :=
  let lean := g.tampLean.toInt + d
  if lean = 8 then
    (if g.height.toNat < 31 then { g with tampLean := 0, height := g.height + 1 }
     else if g.width.toNat < 63 then { g with tampLean := 0, width := g.width + 1 }
     else { g with tampLean := 0, tampEdge := true })
  else if lean = -8 then
    (if 0 < g.height.toNat then { g with tampLean := 0, height := g.height - 1 }
     else if 1 < g.width.toNat then { g with tampLean := 0, width := g.width - 1 }
     else { g with tampLean := 0, tampEdge := true })
  else { g with tampLean := BitVec.ofInt 8 lean }

/-- A lay on a bank ended DONE with `n` pulses (R372). The mark array feeds nothing. -/
def State.tampFeed (s : State) (b : BankId) (n : Nat) : State :=
  if b = markBank then s
  else s.modGal (galOf b) (fun g =>
    let g1 := { g with lastpulses := BitVec.ofNat 16 n }
    if s.tampHeld g then g1 else if 6 < n then g1.tampStep 1 else if n < 3 then g1.tampStep (-1) else g1)

/-! ### The end of a lay -/

/-- The cells after a lay whose pulses ran: a verified stone reads as laid; what else it targeted stays open (R629). -/
def State.settleLay (s : State) (l : LayRun) : State :=
  if l.pulses = 0 then s
  else
    let e := l.targets.zip (List.range l.targets.length)
    let good := e.filter (fun x => l.verified.getLsbD x.2)
    let rest := (e.filter (fun x => !l.verified.getLsbD x.2)).map (·.1)
    State.leavePartly { s with mem := good.foldl (fun m x => writeCells m x.1.1 x.1.2) s.mem } rest

/-- A lay ends (R301): its pulse train is traced, its cells settle, tamp is fed, the bank leaves LAYING or NESTLAY, and
its tokens are returned. -/
def State.closeLay (s : State) (b : BankId) (l : LayRun) (r : Byte) : State :=
  let slot := (s.op? l.op).bind Op.slot
  let s1 := if l.pulses = 0 then s else s.addTrace tPulses slot b.val (BitVec.ofNat 16 (min l.pulses 0xFFFF))
  let s2 := s1.settleLay l
  let s3 := if r = rDone then s2.tampFeed b l.pulses else s2
  (s3.modBank b (fun k => { k with layfails := if r = rLayFail then k.layfails + 1 else k.layfails })).leaveLay b l.op

/-- Stones (row·64 + stone) of a lay that did not verify. -/
def LayRun.unverified (l : LayRun) : List Nat :=
  ((l.targets.zip (List.range l.targets.length)).filter (fun x => !l.verified.getLsbD x.2)).map (fun x => x.1.1 % 8192)

/-- A LAY_FAIL in a main-array block asks for a relocation (R330), in a footing block for none (R332). At reserve count 0 it
sets NORESERVE, in a footing block too (R333). While WP# is low the failed slot stays (R287).
Log entry 30 (DEDUCED). -/
def State.askRelocation (s : State) (b : BankId) (o : Op) (l : LayRun) : State :=
  if regionOf o.addr ≠ .main ∨ s.pins.wp = false then s
  else if (s.bank b).kept.reserveCount b = 0 then s.modBank b (fun k => { k with noreserve := true })
  else if isFooting b (addrBlock o.layAt) then s
  else s.modBank b (fun k => { k with relocs := k.relocs ++ [{ block := addrBlock o.layAt, skip := l.unverified, op := none, tried := false }] })

/-- The result that has stopped a HAUL's next chunk before its first stone, or with its partner (R519 to R521): nothing of it
is written. -/
def Op.aheadEnds (o : Op) : Option Byte := match o.nextStaged with
  | some h => if h.stop != 0xFF && !h.staged then some h.stop else none
  | none => none

/-- A chunk of a HAUL has been written with result `r`, `n` stones of it (R517 to R522). A chunk that a refused or lost
source stone cut short is the last: its code waits in `result`, or with the next chunk.
Log entry 34 (DEDUCED). -/
def State.chunkEnds (s : State) (id : Nat) (r : Byte) (n : Nat) : State :=
  let s1 := s.modOp id (fun x => { x with units := x.units + BitVec.ofNat 32 n, payload := [] })
  match s1.op? id with
  | none => s1
  | some o =>
    let s2 := s1.drainYard o
    if r ≠ rDone then s2.endWindow o r
    else if o.result ≠ 0xFF then s2.endWindow o o.result
    else if o.marked then s2.endWindow o rCancelled
    else if o.count.toNat ≤ o.units.toNat then s2.endWindow o o.repointResult
    else match o.aheadEnds with
      | some c => s2.endWindow o c
      | none => s2.setWork id .chunkReady

/-- A lay of bank `b` ends with `r`, and what it served goes on: a row copy, a HAUL chunk, or a LAY that completes. -/
def State.endLay (s : State) (b : BankId) (r : Byte) : State := match (s.bank b).lay with
  | none => s
  | some l =>
    let n := if r = rRelaid then 0 else l.units
    let s1 := s.closeLay b l r
    if l.copy then s1.copyEnds b l.op r
    else match s.op? l.op with
      | none => s1
      | some o =>
        let s2 := if r = rLayFail then s1.askRelocation b o l else s1
        if o.opcode = opHaul then s2.chunkEnds o.id r n
        else ((s2.modOp o.id (fun x => { x with units := BitVec.ofNat 32 n })).drainYard o).complete o.id r

/-! ### The start of a lay -/

/-- A lay's stones meet their gate (R301, R628), or a mark page locked at this edge (R463).
Log entry 37 (DEDUCED). -/
def State.decideLay (s : State) (b : BankId) : State := match (s.bank b).lay with
  | none => s
  | some l => match s.op? l.op with
    | none => s
    | some o =>
      if !l.held || s.stagingOp o.id || s.gateHolds o o.layAt then s
      else
        let r := if !(regionOf o.layAt == .marks && s.life.lock.getLsbD (markPage o.layAt)) then s.passAll o true (stonesFrom o.layAt l.targets.length) else (s, 0, true)
        let t := l.targets.take r.2.1
        let s1 := r.1.modBank b (fun k => { k with lay := some { l with
          targets := t, denied := r.2.2, held := false, pulses := 0, blank := s.readTime t.length,
          relaid := t.any (fun e => !s.blankStone e.1) } })
        if t.isEmpty then s1.endLay b rDenied else s1

/-- The lay that a dispatch starts. -/
def LayRun.start (id : Nat) (targets : List (Nat × BitVec 75)) (copy : Bool) : LayRun :=
  { op := id, targets := targets, verified := 0, relaid := false, denied := false, held := !copy, copy := copy, time := 0,
    blank := 0, pulses := 0, pulse := none, stretch := 100 }

/-- The bank enters LAYING, or NESTLAY from SUSPENDED (Table 08.1), and the tokens are granted. -/
def State.putLay (s : State) (o : Op) (b : BankId) (l : LayRun) : State :=
  ((s.modOp o.id (fun x => { x with state := .running, work := .onBank })).grant o b.val s.tokLay).modBank b (fun k =>
    { k with lay := some l, state := if k.state == .suspended then .nestlay else .laying })

/-- Dispatch of a LAY. -/
def State.startLay (s : State) (o : Op) (b : BankId) (data : List Word) : State :=
  (s.putLay o b (LayRun.start o.id (s.layTargets o.layAt data) false)).decideLay b

/-- Cells that a move lays for a stone read as laid: corrected, or as read where it is uncorrectable (R349). -/
def copyCells (c : BitVec 75) : BitVec 75 × StoneRead :=
  let r := eccDecide (cellsData c) (cellsEcc c)
  (if r.bad then (0 : BitVec 3) ++ cellsEcc c ++ cellsData c else cellsOf r.data, r)

/-- The row that a move copies next: targets in dst with what the reads of src found, by stone. A stone whose mark reads as not
laid is not copied (R349). -/
def State.rowTargets (s : State) (b : BankId) (m : Move) (flips : Flips) : List (Nat × (Nat × BitVec 75) × StoneRead) :=
  ((List.range 64).filter (fun k => !m.skip.contains (m.row * 64 + k)
      && markLaid (cellsMark (readCells s.mem (stoneIx b.val m.src m.row k) ^^^ flipOf flips k)))).map (fun k =>
    let c := copyCells (readCells s.mem (stoneIx b.val m.src m.row k) ^^^ flipOf flips k)
    (k, (stoneIx b.val m.dst m.row k, c.1), c.2))

/-- What the reads of a row copy leave: their trace entries, UNCORRECTABLE for the move (R350), and a corrected stone for the
record (R208). -/
def State.noteRow (s : State) (o : Op) (b : BankId) (m : Move) (t : List (Nat × (Nat × BitVec 75) × StoneRead)) : State :=
  let s1 := t.foldl (fun x e => if e.2.2.fixed || e.2.2.bad then
      x.addTrace (if e.2.2.fixed then tEccFix else tEccFail) o.slot b.val (BitVec.ofNat 16 e.1) else x) s
  (s1.modBank b (fun k => k.putMove { m with uncorr := m.uncorr || t.any (fun e => e.2.2.bad) })).modOp o.id
    (fun x => { x with copyFixed := x.copyFixed || t.any (fun e => e.2.2.fixed) })

/-- Dispatch of a row copy (R349, R351). A row whose reads leave no stone to copy is skipped, and the move goes on. -/
def State.startRow (s : State) (o : Op) (b : BankId) (flips : Flips) : State := match (s.bank b).moveOf o.id with
  | none => s
  | some m =>
    let t := s.rowTargets b m flips
    let s1 := s.noteRow o b m t
    if t.isEmpty then s1.nextCopy b { m with row := m.row + 1 }
    else
      let l := LayRun.start o.id (t.map (fun e => e.2.1)) true
      s1.putLay o b { l with blank := s.readTime t.length, relaid := l.targets.any (fun e => !s.blankStone e.1) }

/-- LAY_END (R301): RELAID once the blank-check reads are complete, DENIED or DONE once every target verified, LAY_FAIL
at the maximum time.
Log entry 15 (DEDUCED). -/
def execLayEnd (b : BankId) (s : State) : Outcome :=
  s.onStep orderEnds (match (s.bank b).lay with
    | none => s
    | some l =>
      if l.held then s
      else if l.relaid then (if l.blank = 0 then s.endLay b rRelaid else s)
      else if l.whole && l.pulse.isNone then s.endLay b (if l.denied then rDenied else rDone)
      else if l.maxPs ≤ l.time then s.endLay b rLayFail
      else s)

/-- A lay whose stones lie in the unsettled block may end (R327). -/
def State.laysUnsettled (s : State) (o : Op) : Bool :=
  o.opcode == opLay && regionOf o.addr == .main && o.state == .queued && s.afterOk o && o.waitOk && (s.fenceBefore o).isNone
  && (s.bank (bankIx (addrBank o.addr))).unsettledAt (addrBlock o.addr) (addrSector o.addr)

/-- BLOCK_UNSETTLED (R327). -/
def execBlockUnsettled (r : OpRef) (s : State) : Outcome :=
  s.onStep orderEnds (match s.opOfRef r with
    | none => s
    | some o => if s.laysUnsettled o then s.complete o.id rUnsettled else s)

/-- The first relocation of a bank that is to be submitted: one whose REPOINT was cancelled is due again (R345). One that
was submitted before waits for an edge that crosses a tick boundary (R343).
Log entry 30 (DEDUCED). -/
def State.dueReloc (s : State) (b : BankId) : Option Reloc :=
  (s.bank b).relocs.find? (fun r =>
    (!r.tried || (decide (0 < s.pace.crossed) && !s.upkeep.houseDone)) &&
    (match r.op with
     | none => true
     | some id => (match s.op? id with
       | some o => o.state == .complete
       | none => true)))

/-- The relocation `r` has been submitted, as operation `op` where it was admitted. -/
def Bank.relocTried (k : Bank) (r : Reloc) (op : Option Nat) : Bank :=
  { k with relocs := k.relocs.map (fun x => if x = r then { x with op := op, tried := true } else x) }

/-- RELOCATION (R330, R343, R345): the house submits a REPOINT of the block.
Log entry 30 (DEDUCED). -/
def execRelocation (b : BankId) (s : State) : Outcome :=
  s.onStep orderHouse (match s.dueReloc b with
    | none => s
    | some r =>
      let id := s.ledger.nextId
      let t := s.houseSubmit opRepoint (BitVec.ofNat 32 (b.val * 0x2000000 + r.block * 0x10000)) 1 .relocation
      (t.1.modUpkeep (fun u => { u with houseDone := true })).modBank b (fun k =>
        k.relocTried r (if t.2 then some id else none)))

end Sys2Proof.Machine
end

