-- ==== Sys2Proof/Machine/Regress.lean ====
section
/-! DEFINITION. The regression sequence (12, R452 to R457): its units, what counts them, and its final writes. -/
namespace Sys2Proof.Machine

/-- Position of a unit in the order of R453: bank and slot, then the mark pages. -/
def marksAt : Nat := 64 * 544

/-- The bank of a position; the mark array from `marksAt` on. -/
def posBank (p : Nat) : BankId := if h : p < marksAt then ⟨p / 544, by unfold marksAt at h; omega⟩ else markBank

/-- A slot is a unit of the regression (R453). A closed bank has none.
Log entry 35 (DEDUCED). -/
def State.slotIsUnit (s : State) (b : BankId) (k : Nat) : Bool :=
  let r := (s.bank b).kept
  !s.boot.closed.getLsbD b.val &&
  (match r.slotState b k with
    | .mapped => true
    | .footing => true
    | .grownBad => true
    | .kiln => true
    | _ => r.tidy.contains k)

/-- A position is a unit: an unlocked mark page, or a slot of R453. -/
def State.isUnit (s : State) (p : Nat) : Bool :=
  if p < marksAt then s.slotIsUnit (posBank p) (p % 544) else !s.life.lock.getLsbD (p - marksAt)

/-- Units of a gallery from position `from` on: banks ascending, slots ascending, then mark pages. -/
def State.nextUnit (s : State) (g : GalId) (start : Nat) : Option Nat :=
  ((List.range (marksAt + 16)).drop start).find? (fun p => galOf (posBank p) == g && s.isUnit p)

/-- TOCLEAR. -/
def State.unitCount (s : State) : Nat := ((List.range (marksAt + 16)).filter s.isUnit).length

/-- What a position clears first: a footing slot goes sector by sector (R273).
Log entry 35 (DEDUCED). -/
def State.unitAt (s : State) (p : Nat) : UnitRef :=
  if p < marksAt then
    (if (s.bank (posBank p)).kept.slotState (posBank p) (p % 544) == .footing then .sector (p % 544) 0 else .block (p % 544))
  else .page (p - marksAt)

/-- Stones of a whole unit. -/
def unitRange (p : Nat) : Nat × Nat :=
  if p < marksAt then (p * 8192, (p + 1) * 8192) else (markIx (p - marksAt) 0, markIx (p - marksAt) 0 + 128)

/-- Every stone from `lo` up to `hi` passes the blank check: a canonical memory lists none of their cells, and no lay has left
one partly pulsed. -/
def State.blankRange (s : State) (lo hi : Nat) : Bool :=
  s.mem.all (fun e => decide (e.1 < 10 * lo) || decide (10 * hi ≤ e.1)) && s.touched.all (fun n => decide (n < lo) || decide (hi ≤ n))

/-- Regression becomes pending (R452, R453): its counts start afresh. -/
def State.startRegression (s : State) : State :=
  s.modLife (fun l => { l with
    regPending := true, toclear := BitVec.ofNat 16 s.unitCount, cleared := 0, failed := 0, stuck := false, phase := 2,
    wpwait := false, cursor := Vector.replicate 4 0, tries := Vector.replicate 4 0, finals := false })

/-- A bank of gallery `g` runs a regression clear. -/
def State.regressionRuns (s : State) (g : GalId) : Bool :=
  allBanks.any (fun b => galOf b == g && (match (s.bank b).clear with | some c => c.purpose == .regression | none => false))

/-- Every gallery has been through its units. -/
def State.regressionThrough (s : State) : Bool :=
  allGals.all (fun g => (s.nextUnit g s.life.cursor[g.val]).isNone && !s.regressionRuns g)

/-- Every gate image as at shipment, and PRIV S00 only, in the plinth (R453).
Log entry 24 (DEDUCED). -/
def State.queueFinals (s : State) : State :=
  let s1 := if s.life.priv = 1 then s else (s.modLife (fun l => { l with priv := 1 })).bumpEpochs
  (forEach allGates (fun t g => t.plinthWrite (.image g GateImage.shipment)) s1).writeConfig.modLife (fun l => { l with finals := true })

/-- The final writes of the regression go on as far as WP# and the writes before them allow (R453, R469).
Log entry 24 (DEDUCED). -/
def State.finishRegression (s : State) : State :=
  if s.life.phase ≠ 3 ∨ s.life.regPending = false then s
  else if !s.pins.wp then s.modLife (fun l => { l with wpwait := true })
  else
    let s1 := s.modLife (fun l => { l with wpwait := false })
    if !s1.life.finals then s1.queueFinals
    else if s1.plinth.queue.isEmpty && s1.plinth.jwrite.isNone then s1.startJournal kRegressDone 0 .done
    else s1

/-- After a unit: the sequence ends when every gallery is through, with STUCK and its cause if some unit failed
(Table 16.5).
Log entry 35 (DEDUCED). -/
def State.regressionCheck (s : State) : State :=
  if s.life.phase = 2 ∧ s.life.stuck = false ∧ s.regressionThrough then
    (if s.life.failed = 0 then (s.modLife (fun l => { l with phase := 3 })).finishRegression
     else (s.modLife (fun l => { l with stuck := true })).cause cLevel)
  else s

/-- Gallery `g` goes past position `p`. -/
def State.unitPassed (s : State) (g : GalId) (p : Nat) : State :=
  s.modLife (fun l => { l with cursor := l.cursor.set g.val (p + 1), tries := l.tries.set g.val 0 })

/-- A unit counts in CLEARED; a slot on its tidy list leaves the list (R454), in the plinth too while WP# is high.
Log entry 31 (DEDUCED). -/
def State.unitCleared (s : State) (g : GalId) (p : Nat) : State :=
  let b := posBank p
  let s1 := (s.unitPassed g p).modLife (fun l => { l with cleared := l.cleared + 1 })
  if p < marksAt ∧ (s.bank b).kept.tidy.contains (p % 544) then
    let s2 := s1.modBank b (fun k => { k with kept := k.kept.tidyDrop (p % 544) })
    if s.pins.wp then s2.writeBankRec b else s2
  else s1

/-- A unit's try has ended (R453): three failed tries count it in FAILED.
Log entry 35 (DEDUCED). -/
def State.tryEnded (s : State) (g : GalId) (p : Nat) (ok : Bool) : State :=
  (if ok then s.unitCleared g p
   else if s.life.tries[g.val] + 1 < 3 then s.modLife (fun l => { l with tries := l.tries.set g.val (l.tries[g.val] + 1) })
   else (s.unitPassed g p).modLife (fun l => { l with failed := if l.failed = 255 then l.failed else l.failed + 1 })).regressionCheck

/-- Tokens of a clear that belongs to no operation are granted and returned (R402). -/
def State.regressionGrant (s : State) (b : BankId) (mA : Nat) : State := (s.addTrace tGrant none b.val (BitVec.ofNat 16 mA)).notePeak
def State.regressionRelease (s : State) (b : BankId) (mA : Nat) : State := s.addTrace tRelease none b.val (BitVec.ofNat 16 mA)

/-- A clear unit that starts. -/
def ClearRun.start (op : Nat) (purpose : ClearFor) (unit : UnitRef) (lblock : Nat) (held : Bool) (tokens : Nat) : ClearRun :=
  { op := op, purpose := purpose, unit := unit, lblock := lblock, held := held, verified := false, time := 0, pulses := 0,
    pulse := none, stretch := 100, boundary := false, serving := false, fireTime := 0, stage := 0, inClear := false,
    tokens := tokens }

/-- The regression clear of a unit starts on its bank. The mark array stays IDLE, which with LAYING is all it has (R277).
Log entry 35 (DEDUCED). -/
def State.startRegressionClear (s : State) (b : BankId) (u : UnitRef) : State :=
  (s.modBank b (fun k => { k with
    state := if b = markBank then k.state else .clearing, run := 0,
    clear := some (ClearRun.start 0 .regression u 512 false s.tokClear) })).regressionGrant b s.tokClear

/-- REGRESSION_CLEAR (R453): gallery `g` looks at its next unit. -/
def execRegressionClear (g : GalId) (s : State) : Outcome :=
  s.onEdge (
    if s.life.regPending = false ∨ s.booting ∨ s.life.phase ≠ 2 ∨ s.life.stuck ∨ s.regressionRuns g then s
    else match s.nextUnit g s.life.cursor[g.val] with
      | none => s.regressionCheck
      | some p =>
        let b := posBank p
        if s.blankRange (unitRange p).1 (unitRange p).2 then (s.unitCleared g p).regressionCheck
        else if (s.bank b).state == .idle && s.fits s.tokClear then s.startRegressionClear b (s.unitAt p)
        else s)

end Sys2Proof.Machine
end

