-- ==== Sys2Proof/Machine/Clears.lean ====
section
/-! DEFINITION. Clears (08, R309 to R313, R331 to R334) and kiln firings (09, R359 to R362): start, gate, unit ends. -/
namespace Sys2Proof.Machine

/-- First address of a clear unit of a logical block. -/
def unitAddr (b : BankId) (lblock : Nat) (u : UnitRef) : BitVec 32 :=
  BitVec.ofNat 32 (b.val * 0x2000000 + lblock * 0x10000 + (match u with | .sector _ k => k * 4096 | _ => 0))

def unitBytes : UnitRef → Nat
  | .sector _ _ => 4096
  | _ => 65536

/-- The unit that an operation's clear comes to, with its logical block: sectors of a footing block one by one (R273). -/
def State.firstUnit (s : State) (o : Op) (b : BankId) : UnitRef × Nat :=
  let l := if o.opcode = opClear then addrBlock o.addr + o.units.toNat else addrBlock o.addr
  let k := (s.bank b).kept.slotOf l
  if o.opcode = opClearFoot then (.sector k (addrSector o.addr + o.units.toNat), l)
  else if isFooting b l then (.sector k 0, l)
  else (.block k, l)

/-- Clearing time that a unit may take, in ps (Table 08.3, R455, R534). -/
def ClearRun.maxPs (c : ClearRun) : Nat :=
  (match c.unit with | .block _ => 160000000000 | _ => 120000000000) * c.stretch / 100

/-! ### The end of a clear -/

/-- The pulse train of a unit or firing has ended (R21). -/
def State.tracePulses (s : State) (b : BankId) (c : ClearRun) : State :=
  if c.pulses = 0 then s
  else s.addTrace tPulses ((s.op? c.op).bind Op.slot) b.val (BitVec.ofNat 16 (min c.pulses 0xFFFF))

/-- A clear of an operation ends. -/
def State.endClear (s : State) (b : BankId) (c : ClearRun) (r : Byte) : State := (s.closeClear b c).complete c.op r

/-- A unit's granules meet their gate at its start (R421, R423). A refused unit ends the operation.
Log entry 37 (DEDUCED). -/
def State.decideUnit (s : State) (b : BankId) : State := match (s.bank b).clear with
  | none => s
  | some c => match s.op? c.op with
    | none => s
    | some o =>
      let a := unitAddr b c.lblock c.unit
      if !c.held || s.gateHolds o a then s
      else
        let r := s.passAll o true (granulesFrom a (unitBytes c.unit))
        if r.2.2 then r.1.endClear b c rDenied
        else r.1.modBank b (fun k => { k with clear := some { c with held := false } })

/-- Dispatch of a clear: CLEARING, with its first unit at its gate. -/
def State.startClear (s : State) (o : Op) (b : BankId) : State :=
  let u := s.firstUnit o b
  let s1 := ((s.modOp o.id (fun x => { x with state := .running, work := .onBank, position := 0 })).grant o b.val s.tokClear)
  (s1.modBank b (fun k => { k with
    state := .clearing, run := 0, clear := some (ClearRun.start o.id .operation u.1 u.2 true 0) })).decideUnit b

/-- Dispatch of the clear of a move's source (R349): it passes no gate. -/
def State.startSource (s : State) (o : Op) (b : BankId) : State := match (s.bank b).moveOf o.id with
  | none => s
  | some m =>
    ((s.modOp o.id (fun x => { x with state := .running, work := .onBank })).grant o b.val s.tokClear).modBank b (fun k =>
      { k with state := .clearing, run := 0, clear := some (ClearRun.start o.id .moveSource (.block m.src) m.lblock false 0) })

/-- The next unit of a multi-unit clear starts once no fetch is reading the bank (R312).
Log entry 39 (DEDUCED). -/
def State.nextUnitStarts (s : State) (b : BankId) : State := match (s.bank b).clear with
  | none => s
  | some c =>
    if !c.boundary || c.serving || (s.bank b).state != .clearing then s
    else (s.modBank b (fun k => { k with run := 0, clear := some { c with boundary := false } })).decideUnit b

/-- The unit after `c`, if its operation has one: the next sector of a footing block, or the next block or sector. `u`
units are done. -/
def State.unitAfter (s : State) (b : BankId) (o : Op) (c : ClearRun) : Option (UnitRef × Nat) :=
  match c.unit with
  | .sector k n =>
    if o.opcode = opClear ∧ n < 15 then some (.sector k (n + 1), c.lblock)
    else if o.units.toNat < o.count.toNat then some (s.firstUnit o b) else none
  | _ => if o.units.toNat < o.count.toNat then some (s.firstUnit o b) else none

/-- A host's clear unit advances SINCE (R357). -/
def State.countSince (s : State) (b : BankId) (o : Op) : State :=
  if o.sub = 31 then s else s.modBank b (fun k => { k with since := if k.since = 0xFFFF then k.since else k.since + 1 })

/-- A unit of an operation's clear has verified (R309): the boundary of R312, or the end of the clear, whose record keeps the
pulses of the last unit as its position (R245).
Log entry 33 (DEDUCED); log entry 39 (DEDUCED). -/
def State.unitGood (s : State) (b : BankId) (c : ClearRun) (o : Op) : State :=
  let whole := countsUnit o c.unit
  let s1 := s.modOp o.id (fun x => { x with units := if whole then x.units + 1 else x.units })
  match s1.op? o.id with
  | none => s1
  | some o1 =>
    if whole && o1.marked then s1.endClear b c rCancelled
    else match s1.unitAfter b o1 c with
      | none => s1.endClear b c rDone
      | some u => (s1.modOp o.id (fun x => { x with position := 0 })).modBank b (fun k => { k with
          run := 0, clear := some { ClearRun.start o.id .operation u.1 u.2 true 0 with boundary := true, serving := true } })

/-- A failed clear of a block takes its slot out of use (R331, R287); a footing block keeps its slot (R332). Without a RESERVE
slot NORESERVE is set, in a footing block too (R333).
Log entry 36 (DEDUCED); log entry 69 (DEDUCED). -/
def State.clearFailed (s : State) (b : BankId) (c : ClearRun) : State :=
  if s.pins.wp = false then s
  else match s.spareSlot b with
    | none => s.modBank b (fun k => { k with noreserve := true })
    | some d =>
      if isFooting b c.lblock then s else
      let stamp := s.stamp
      s.modKept b (fun r => ((r.setMap c.lblock d).setSlot b d .mapped).retire b c.slot retClearFail stamp)

/-- Every cell of a unit reads blank. -/
def State.blankUnit (s : State) (b : BankId) (u : UnitRef) : State :=
  s.blankOut (u.range b).1 (u.range b).2

/-- A unit that did not verify is left open (R630). -/
def State.openUnit (s : State) (b : BankId) (u : UnitRef) : State :=
  s.leaveOpen (u.range b).1 ((u.range b).2 - (u.range b).1)

/-- Log entry 36 (DEDUCED). -/
def State.countClearFail (s : State) (b : BankId) : State := s.modBank b (fun k => { k with clearfails := k.clearfails + 1 })

/-- Position of the unit that a regression clear works on. -/
def regressionPos (b : BankId) (u : UnitRef) : Nat := match u with
  | .block k => b.val * 544 + k
  | .sector k _ => b.val * 544 + k
  | .page p => marksAt + p

/-- A regression clear has ended: it returns its tokens (R453). -/
def State.closeRegression (s : State) (b : BankId) (c : ClearRun) : State :=
  (s.modBank b (fun k => { k with state := if b = markBank then k.state else .idle, clear := none })).regressionRelease b c.tokens

/-- A unit of the regression has ended. A footing slot goes on to its next sector.
Log entry 35 (DEDUCED). -/
def State.regressionUnit (s : State) (b : BankId) (c : ClearRun) (ok : Bool) : State :=
  match c.unit, ok with
  | .sector k n, true =>
    if n < 15 then s.modBank b (fun x => { x with run := 0, clear := some (ClearRun.start 0 .regression (.sector k (n + 1)) 512 false c.tokens) })
    else (s.closeRegression b c).tryEnded (galOf b) (regressionPos b c.unit) true
  | _, _ => (s.closeRegression b c).tryEnded (galOf b) (regressionPos b c.unit) ok

/-- A clear unit ends (R309). -/
def State.endUnit (s : State) (b : BankId) (c : ClearRun) (ok : Bool) : State :=
  let s1 := s.tracePulses b c
  let s2 := if ok then (s1.blankUnit b c.unit).addClear b c.unit
    else (if c.pulses = 0 then s1 else s1.openUnit b c.unit).countClearFail b
  match c.purpose, s.op? c.op with
  | .regression, _ => s2.regressionUnit b c ok
  | .operation, some o =>
    if ok then (s2.countSince b o).unitGood b c o else (s2.clearFailed b c).endClear b c rClearFail
  | .moveSource, some o =>
    let s3 := if ok then s2.countSince b o else s2
    (s3.closeClear b c).sourceEnds b c.op ok
  | _, _ => s2

/-- A unit that verified, or has reached its maximum time. -/
def ClearRun.over (c : ClearRun) : Option Bool :=
  if c.verified && c.pulse.isNone then some true else if c.maxPs ≤ c.time then some false else none

/-- CLEAR_UNIT_END (R309).
Log entry 15 (DEDUCED). -/
def execClearUnitEnd (b : BankId) (s : State) : Outcome :=
  s.onStep orderEnds (match (s.bank b).clear with
    | none => s
    | some c =>
      if c.purpose = .firing ∨ c.held ∨ c.boundary ∨ ((s.bank b).state ≠ .clearing ∧ c.purpose ≠ .regression) then s
      else match c.over with
        | some ok => s.endUnit b c ok
        | none => s)

/-! ### Firings (R359 to R362) -/

/-- Length of a firing stage in ps of firing time (R360). -/
def stagePs (stage : Nat) : Nat := if stage = 0 then 350000000000 else 250000000000

/-- The firing of slot `k` starts: the slot is in KILN and on the tidy list (R360, R568), the bank FIRING. A gap that is
taken for firing is replaced (R358). -/
def State.startFiring (s : State) (o : Op) (b : BankId) (k : Nat) : State :=
  let s1 := s.modKept b (fun r => ((r.dropGap k).setSlot b k .kiln).tidyAdd k)
  ((s1.modOp o.id (fun x => { x with state := .running, work := .onBank })).grant o b.val s.tokKiln).modBank b (fun x =>
    { x with state := .firing, run := 0, clear := some (ClearRun.start o.id .firing (.block k) 512 false 0) })

/-- A firing ends: the slot takes its end state, or waits for WP# (R633). The firing time of a stage counts up to its length
(R245, R361). -/
def State.endFiring (s : State) (b : BankId) (c : ClearRun) (ok : Bool) : State :=
  let fired := (if c.stage = 0 then 0 else stagePs 0) + min c.fireTime (stagePs c.stage)
  let s1 := (s.closeClear b c).modOp c.op (fun x => { x with index := fired })
  if s.pins.wp then s1.firedState b c.op c.slot ok else s1.wpWaits b c.op (.firedEnd ok)

/-- The clear inside a firing has verified: firings and clears are counted (R360). -/
def State.countFiring (s : State) (b : BankId) (c : ClearRun) : State :=
  s.setWear b c.slot 0 ((s.wearOf b c.slot).2 + 1)

/-- FIRING_STAGE_END (R360): the stage length has been reached and the clear inside the firing starts; or that clear ends,
and with it the firing or its first stage.
Log entry 15 (DEDUCED). -/
def execFiringStageEnd (b : BankId) (s : State) : Outcome :=
  s.onStep orderEnds (if !s.pace.qualified || s.power.brown then s else match (s.bank b).clear with
    | none => s
    | some c =>
      if c.purpose ≠ .firing ∨ (s.bank b).state ≠ .firing then s
      else if !c.inClear then
        (if stagePs c.stage ≤ c.fireTime then
          (s.tracePulses b c).modBank b (fun k => { k with clear := some { c with
            inClear := true, verified := false, time := 0, pulses := 0, pulse := none, stretch := 100 } })
         else s)
      else match c.over with
        | none => s
        | some true =>
          let s1 := (s.tracePulses b c).blankUnit b c.unit
          (s1.countFiring b c).endFiring b c true
        | some false =>
          let s1 := s.tracePulses b c
          let s2 := (if c.pulses = 0 then s1 else s1.openUnit b c.unit).countClearFail b
          if c.stage = 0 then
            s2.modBank b (fun k => { k with clear := some { c with
              stage := 1, inClear := false, fireTime := 0, verified := false, time := 0, pulses := 0, pulse := none,
              stretch := 100 } })
          else s2.endFiring b c false)

/-! ### WP# (R468, R469, R633) -/

/-- A step of operation `id` that waited for WP# takes place (R633).
Log entry 21 (DEDUCED). -/
def State.runWpStep (s : State) (b : BankId) (e : Nat × WpStep) : State :=
  match e.2, (s.bank b).moveOf e.1 with
  | .mapChange, some m => s.mapChange b m
  | .retireDst, some m => s.retireDst b m
  | .retireSrc, some m => s.retireSrc b m
  | .nextState, some m => s.nextState b m
  | .firedEnd ok, _ => (match s.op? e.1 with
    | some o => s.firedState b o.id o.count.toNat ok
    | none => s)
  | _, none => s

/-- Every step of bank `b` that waited, oldest first. -/
def State.runWpSteps (s : State) (b : BankId) : State :=
  forEach (s.bank b).wpSteps (fun t e => t.runWpStep b e) (s.modBank b (fun k => { k with wpSteps := [] }))

/-- WP_LOW: the pin falls. The FY16 samples it on the next pace edge (R468). -/
def execWpLow (s : State) : Outcome := .next { s with pins := { s.pins with wpPin := false } }

/-- WP_HIGH: the pin rises (R468). -/
def execWpHigh (s : State) : Outcome := .next { s with pins := { s.pins with wpPin := true } }

/-- A plinth write that waits in the queue begins (R469). -/
def State.plinthGoesOn (s : State) : State := s.modPlinth (fun p => p.goOn s.pins.wp)

/-- WP# is sampled on a pace edge (R468). What waited for it takes place on an edge on which it is high: steps of moves and
firings, plinth writes, a LEVEL_RAISE, and the writes that end a regression (R469, R633, Table 12.8).
Log entry 21 (DEDUCED). -/
def State.sampleWp (s : State) : State :=
  let s1 := { s with pins := { s.pins with wp := s.pins.wpPin } }
  if s1.pins.wp then ((forEach allBanks State.runWpSteps s1.plinthGoesOn).tryRaise).finishRegression else s1.finishRegression

end Sys2Proof.Machine
end

