-- ==== Sys2Proof/Machine/Windows.lean ====
section
/-! DEFINITION. Operations on the annex windows (13, R490 to R505): lays, clears, polls; and HAUL (R516 to R522). -/
namespace Sys2Proof.Machine

/-! ### Reaching the partner (R484, R485, R504, R511) -/

/-- What an operation that is dispatched to a window address finds: the state after a probe, and the partner with the bytes
left, or the result that ends the operation. -/
def State.reachPartner (s : State) (a : BitVec 32) (rx : List Byte) :
    State × Except Byte (Option (AnnexId × PartnerId) × List Byte) := match windowOf a with
  | none => (s, .error rAbsent)
  | some n =>
    if !(s.anx n).en then (s, .error rAbsent)
    else match (s.anx n).owner a with
      | none => (s, .ok (none, rx))
      | some p =>
        if (s.partner n p).fenced then (s, .error rFault)
        else
          let r := s.probePartner n p rx
          match r.2.1 with
          | some c => (r.1, .error c)
          | none => (r.1, .ok (some (n, p), r.2.2))

/-- Stones from `a` that lie below the effective size of a partner, of `n`. -/
def State.insideCount (s : State) (ap : Option (AnnexId × PartnerId)) (a : BitVec 32) (n : Nat) : Nat := match ap with
  | none => 0
  | some q => (stonesFrom a n).takeWhile (fun x => (s.partner q.1 q.2).inside x) |>.length

/-! ### Programming and erasing (Table 13.4) -/

/-- WREN, and the RDSR byte after it (R493): `none` goes on; otherwise the code that ends the operation. -/
def writeEnabled (sr : Byte) : Option Byte :=
  if sr = 0xFF then some rLost else if sr.getLsbD 1 then none else some rFault

/-- An operation ends on a fault of its partner: a loss (R502), or a result that fences it (R503). FLAGS.UNCERTAIN stays 0
where it is no loss.
Log entry 78 (DEDUCED). -/
def State.partnerEnds (s : State) (o : Op) (ap : AnnexId × PartnerId) (r : Byte) : State :=
  if r = rLost then s.loseOp o false else (s.fencePartner ap.1 ap.2 r).endWindow o r

/-- The exchanges before a page program or an erase, and the command itself, whose bytes are `sent` (R489, R490).
Log entry 49 (DESIGN CHOICE). -/
def State.sendWrite (s : State) (o : Op) (ap : AnnexId × PartnerId) (erasing : Bool) (sent : List Byte) (rx : List Byte) : State :=
  let q := s.partner ap.1 ap.2
  let s1 := (s.send ap.1 (q.command ap.2 [(s.anx ap.1).wrenOp] 0)).send ap.1 (q.command ap.2 [(s.anx ap.1).rdsrOp] 1)
  match writeEnabled ((drive 1 rx).1.headD 0xFF) with
  | some r => s1.partnerEnds o ap r
  | none =>
    ((s1.send ap.1 (q.command ap.2 sent 0)).modPartner ap.1 ap.2 (fun x => { x with
        owner := some o.id, inFlight := true, sentTicks := 0, ffPolls := 0, erasing := erasing })).modOp o.id
      (fun x => { x with state := .running, work := .partner })

/-- Bytes of the page program that comes next: what the operation has still to write, up to the end of the page. `index`
counts the bytes confirmed, `position` the stones before those of `payload`. -/
def Op.pageBytes (o : Op) (q : Partner) : List Byte :=
  let pg := 2 ^ q.page.toNat
  let a := q.addrOf o.addr + o.index
  ((o.payload.flatMap be64).drop (o.index - 8 * o.position)).take (pg - a % pg)

/-- The next page program of a window lay. -/
def State.programNext (s : State) (id : Nat) (ap : AnnexId × PartnerId) (rx : List Byte) : State := match s.op? id with
  | none => s
  | some o =>
    let q := s.partner ap.1 ap.2
    s.sendWrite o ap false ((s.anx ap.1).ppOp :: q.addrBytes (q.addrOf o.addr + o.index) ++ o.pageBytes q) rx

/-- Erase unit `i` of a window clear: its window address. -/
def Op.eraseAt (o : Op) (q : Partner) : BitVec 32 := o.addr + BitVec.ofNat 32 (o.index * 2 ^ q.erasesz.toNat)

/-- Erase units in a 64 KiB block (R491). -/
def Partner.perBlock (q : Partner) : Nat := 2 ^ (16 - q.erasesz.toNat)

/-- A dispatched window lay or clear waits at its disabled gate; its partner is busy with it (R423, R499).
Log entry 38 (DEDUCED). -/
def State.holdAtGate (s : State) (o : Op) : State :=
  let s1 := s.modOp o.id (fun x => { x with state := .running, work := .gateHeld })
  match s.partnerAt o.addr with
  | some q => s1.modPartner q.1 q.2 (fun x => { x with owner := some o.id })
  | none => s1

/-- The erase command of the unit that a window clear has come to. -/
def State.eraseUnit (s : State) (o : Op) (ap : AnnexId × PartnerId) (rx : List Byte) : State :=
  let q := s.partner ap.1 ap.2
  s.sendWrite o ap true (q.eraseop :: q.addrBytes (q.addrOf (o.eraseAt q))) rx

/-- The next erase of a window clear. At the start of a 64 KiB block its sixteen granules meet the gate, which holds the
block while it is disabled, and then its partner (R421, R423, R484). -/
def State.eraseNext (s : State) (id : Nat) (ap : AnnexId × PartnerId) (rx : List Byte) : State := match s.op? id with
  | none => s
  | some o =>
    let q := s.partner ap.1 ap.2
    let a := o.eraseAt q
    if o.index % q.perBlock ≠ 0 then s.eraseUnit o ap rx
    else if s.gateHolds o a then s.holdAtGate o
    else
      let r := s.passAll o true (granulesFrom a 65536)
      if r.2.2 then r.1.endWindow o rDenied
      else if !q.holds a || decide (2 ^ q.effsize.toNat < q.addrOf a + 65536) then r.1.endWindow o rAbsent
      else r.1.eraseUnit o ap rx

/-! ### Dispatch of window lays and clears -/

/-- Yard slots for the further pages of a window lay (R492): its dispatch waited until they were free (R259). -/
def State.takePages (s : State) (o : Op) : Nat → State
  | 0 => s
  | n + 1 => ((s.takeYard o.id o.slot 0 []).1).takePages o n

/-- A window lay at its gate: what the gate and the effective size permit is programmed, and the rest names the result that
waits (R301, R484). -/
def State.layWindow (s : State) (o : Op) (ap : Option (AnnexId × PartnerId)) (rx : List Byte) : State :=
  let n := o.count.toNat
  let g := s.passAll o true (stonesFrom o.addr n)
  let m := s.insideCount ap o.addr n
  let code : Byte := if m < g.2.1 then rAbsent else if g.2.2 then rDenied else 0xFF
  let k := min m g.2.1
  match ap with
  | none => g.1.endWindow o (if g.2.1 = 0 then rDenied else rAbsent)
  | some q =>
    if k = 0 then g.1.endWindow o code
    else (g.1.modOp o.id (fun x => { x with payload := x.payload.take k, result := code })).programNext o.id q rx

/-- A window lay that is dispatched, or resumes at its gate. -/
def State.windowLay (s : State) (o : Op) (rx : List Byte) : State :=
  match s.reachPartner o.addr rx with
  | (s1, .error r) => s1.endWindow o r
  | (s1, .ok (ap, rest)) =>
    let s2 := if o.state == .queued then s1.takePages o (s1.pagesTouched o - 1) else s1
    if s2.gateHolds o o.addr then s2.holdAtGate o else s2.layWindow o ap rest

/-- A window clear that is dispatched: its partner, its erase type, its first unit. -/
def State.windowClear (s : State) (o : Op) (rx : List Byte) : State :=
  match s.reachPartner o.addr rx with
  | (s1, .error r) => s1.endWindow o r
  | (s1, .ok (ap, rest)) =>
    if s1.gateHolds o o.addr then s1.holdAtGate o
    else match ap with
      | none =>
        let r := s1.passAll o true (granulesFrom o.addr 65536)
        r.1.endWindow o (if r.2.2 then rDenied else rAbsent)
      | some q =>
        if (s1.partner q.1 q.2).erasesz = 0 then s1.endWindow o rFault
        else s1.eraseNext o.id q rest

/-! ### Window stones that an operation of the ledger reads (R420, R484, R490, R498) -/

/-- A result that stops a read. -/
def State.stopsWith (s : State) (id : Nat) (r : Byte) : State := s.modOp id (fun x => x.stops r)

/-- The next stone of a window comes in. -/
def State.readWindowStone (s : State) (o : Op) (r : ReadRun) (rx : List Byte) : State × List Byte × Bool :=
  match s.partnerAt o.nextStone with
  | none => (s.stopsWith o.id rAbsent, rx, false)
  | some q =>
    if !(s.partner q.1 q.2).inside o.nextStone then (s.stopsWith o.id rAbsent, rx, false)
    else
      let t := s.readPartner q.1 q.2 o.nextStone rx
      match t.2.1 with
      | none => (t.1.stopsWith o.id rLost, t.2.2, false)
      | some w => (t.1.modOp o.id (fun x => (x.gotStone w).withRun { r with gated := false, cold := false }), t.2.2, true)

/-- One step of a window read: its stone's gate, then its partner. The answer: the state, the bytes left, and whether another
step may follow. -/
def State.windowStep (s : State) (id : Nat) (rx : List Byte) : State × List Byte × Bool := match s.op? id with
  | none => (s, rx, false)
  | some o => match o.reads with
    | none => (s, rx, false)
    | some r =>
      if o.state != .running || s.readOver o then (s, rx, false)
      else if o.opcode == opFetch && s.fetchBarred o.nextStone then (s.stopsWith id rDenied, rx, false)
      else match s.gateStone o r with
        | (s1, false) => (s1, rx, false)
        | (s1, true) => s1.readWindowStone o r rx

/-- The read of operation `id` stops its READ once it is over, or held at a gate. -/
def State.readPauses (s : State) (id : Nat) : State := match s.op? id with
  | none => s
  | some o => match o.reads with
    | none => s
    | some r => if s.readOver o || (r.cold && !r.gated) then s.stopRead o.nextStone else s

/-- At most `n` stones of a window read. -/
def State.windowReads (s : State) (id : Nat) (rx : List Byte) : Nat → State
  | 0 => s.readPauses id
  | n + 1 => match s.windowStep id rx with
    | (s1, rest, true) => s1.windowReads id rest n
    | (s1, _, false) => s1.readPauses id

/-! ### HAUL -/

/-- The main-array side and the window side of a HAUL, where it has one of each (R516). -/
def State.haulSides (s : State) (o : Op) : Option (BitVec 32 × BitVec 32) :=
  match s.region o.addr, s.region o.src with
  | .main, .window _ => some (o.addr, o.src)
  | .window _, .main => some (o.src, o.addr)
  | _, _ => none

/-- `n` stones from `a` lie within the main array, in no closed bank. -/
def State.mainRange (s : State) (a : BitVec 32) (n : Nat) : Bool :=
  decide (a.toNat + 8 * n ≤ 0x80000000) &&
  mainBanks.all (fun b => decide ((b.val + 1) * 0x2000000 ≤ a.toNat) || decide (a.toNat + 8 * n ≤ b.val * 0x2000000) || !s.closedBank b)

/-- A HAUL that breaks R516 whatever its partner is.
Log entry 65 (DEDUCED). -/
def State.haulBad (s : State) (o : Op) : Bool := (s.haulSides o).isNone || o.src &&& 7 != 0 || o.bad

/-- R516, once the partner is known.
Log entry 65 (DEDUCED). -/
def State.haulOk (s : State) (o : Op) (main win : BitVec 32) (ap : Option (AnnexId × PartnerId)) : Bool :=
  let n := o.count.toNat
  s.mainRange main n && decide (win.toNat % 0x20000000 + 8 * n ≤ 0x20000000) && decide (s.insideCount ap win n = n)

/-- What the flips of the stones from number `n` on say of the stones after them. -/
def laterFlips (n : Nat) (l : Flips) : Flips := (l.filter (fun f => decide (n ≤ f.1))).map (fun f => (f.1 - n, f.2))

/-- The other yard slot of a HAUL that has taken two (R518). -/
def State.otherSlot (s : State) (o : Op) : Option (Fin 256) :=
  (s.ledger.yard.find? (fun e => e.owner == o.id && some e.slot != o.stageSlot)).map (·.slot)

/-- First stone of the chunk after the one that is being written. -/
def Op.nextChunk (o : Op) : Nat := (if (windowOf o.addr).isSome then o.position else o.units.toNat) + o.payload.length

/-- The next chunk of a HAUL, as far as it has been read, is staged (R518): a STAGE entry for its slot. One that its partner's
loss cut short is not (R520, R521). -/
def State.aheadOver (s : State) (id : Nat) : State := match s.op? id with
  | none => s
  | some o => match o.nextStaged with
    | none => s
    | some h =>
      if o.state != .running || h.staged || o.marked || !s.readOver o || h.data.isEmpty || h.stop == rLost then s
      else (s.fillYard { o with stage := some h.slot } h.data).modOp id (fun x => { x with ahead := some { h with staged := true } })

/-- The write of a HAUL's chunk has begun: with two yard slots the next chunk is staged meanwhile (R518), from the main array at
once, from a window at the next DISPATCH of its gallery. `flips` goes on with the stones of that chunk. -/
def State.startAhead (s : State) (id : Nat) (flips : Flips) : State := match s.op? id with
  | none => s
  | some o => match s.otherSlot o with
    | none => s
    | some k =>
      if o.state != .running || (o.work != .onBank && o.work != .partner) || o.result != 0xFF || o.marked
        || decide (o.count.toNat ≤ o.nextChunk) then s
      else
        let s1 := s.modOp id (fun x => { x with
          ahead := some { start := o.nextChunk, slot := k, run := s.firstRun flips, data := [], stop := 0xFF, staged := false } })
        if (windowOf o.src).isSome then s1 else (s1.readOn id 64).aheadOver id

/-- A staged chunk is written to its window: its stones pass their gate as W, and the first page is programmed (R519).
Log entry 34 (DEDUCED). -/
def State.writeChunk (s : State) (o : Op) (flips : Flips) (rx : List Byte) : State :=
  let g := s.passAll o true (stonesFrom o.layAt o.payload.length)
  let c := if g.2.2 then rDenied else o.result
  if g.2.1 = 0 then g.1.endWindow o c
  else
    let s1 := g.1.modOp o.id (fun x => { x with
      payload := x.payload.take g.2.1, result := c, position := x.units.toNat, index := 8 * x.units.toNat })
    match s1.reachPartner o.addr rx with
    | (s2, .error r) => s2.endWindow o r
    | (s2, .ok (none, _)) => s2.endWindow o rAbsent
    | (s2, .ok (some q, rest)) => (s2.programNext o.id q rest).startAhead o.id flips

/-- A staged chunk goes to the lay that its bank holds for it. -/
def State.layChunk (s : State) (o : Op) (flips : Flips) : State :=
  let b := bankIx (addrBank o.layAt)
  (((s.setWork o.id .onBank).modBank b (fun k => { k with
    lay := k.lay.map (fun l => { l with targets := s.layTargets o.layAt o.payload }) })).decideLay b).startAhead o.id flips

/-- A chunk has been staged: it goes to its bank, or to its window at the next DISPATCH of its gallery. -/
def State.chunkStaged (s : State) (o : Op) (flips : Flips) : State :=
  if (windowOf o.addr).isSome then s.setWork o.id .gateHeld else s.layChunk o flips

/-- What follows once the source stones of a chunk have been read (R519 to R521). A stone that was refused, or a partner that
was lost, ends the HAUL: with what was staged before a refusal still written, and with nothing of the chunk on a loss.
Log entry 34 (DEDUCED). -/
def State.stagingOver (s : State) (id : Nat) : State := match s.op? id with
  | none => s
  | some o =>
    if !s.stagingOp id || !s.readOver o then s
    else if o.payload.isEmpty || o.result == rLost then (s.dropHeldLay id).endWindow o o.result
    else (s.fillYard o o.payload).chunkStaged o (laterFlips o.payload.length ((o.reads.map ReadRun.flips).getD []))

/-- The chunks whose staging has ended on this edge. -/
def State.stagingEnds (s : State) : State := forEach s.ledger.ops (fun t o => (t.stagingOver o.id).aheadOver o.id) s

/-- The source of a chunk is a window: what its stones' gate lets through is read now. -/
def State.stageWindow (s : State) (id : Nat) (rx : List Byte) : State := (s.windowReads id rx 64).stagingOver id

/-- Dispatch of a chunk: its staging begins (R517, R519). A chunk for the main array has its bank in LAYING, with its tokens,
from its dispatch on (Table 08.1, Table 10.4).
Log entry 34 (DEDUCED). -/
def State.stageChunk (s : State) (o : Op) (flips : Flips) (rx : List Byte) : State :=
  let r := s.firstRun flips
  let s1 := s.modOp o.id (fun x => { x with state := .running, payload := [] })
  if (windowOf o.addr).isSome then (((s1.setWork o.id (.staging r)).readOn o.id 64).stagingOver o.id)
  else ((s1.putLay o (bankIx (addrBank o.layAt)) (LayRun.start o.id [] false)).setWork o.id (.staging r)).stageWindow o.id rx

/-- Dispatch of a chunk whose staging began before (R518): what has been staged of it is written, or its staging goes on. -/
def State.goAhead (s : State) (o : Op) (h : Ahead) (flips : Flips) (rx : List Byte) : State :=
  let r := { h.run with flips := flips }
  let b := bankIx (addrBank o.layAt)
  let q := { o with payload := h.data, stage := some h.slot, ahead := none, result := if h.stop = 0xFF then o.result else h.stop }
  let s1 := s.modOp o.id (fun x => { x with payload := q.payload, stage := q.stage, ahead := none, result := q.result })
  let s2 := if (windowOf o.addr).isSome then s1 else s1.putLay q b (LayRun.start o.id [] false)
  let s3 := s2.setWork o.id (.staging r)
  if h.staged then s3.chunkStaged q flips
  else if (windowOf o.src).isSome then s3.stageWindow o.id rx
  else (s3.readOn o.id 64).stagingOver o.id

/-- The first dispatch of a HAUL: a second yard slot where one is free (R518). -/
def State.takeSecond (s : State) (o : Op) : State :=
  if o.state != .queued then s
  else
    let s1 := s.modOp o.id (fun x => { x with stage := x.yard })
    if s1.yardOpen o.sub then (s1.takeYard o.id o.slot 0 []).1 else s1

/-- Dispatch of a chunk that has to be read from its start. The first checks R516.
Log entry 65 (DEDUCED). -/
def State.startChunk (s : State) (o : Op) (flips : Flips) (rx : List Byte) : State :=
  match s.haulSides o with
  | none => s.complete o.id rDenied
  | some (main, win) =>
    if o.state == .queued && s.haulBad o then s.complete o.id rDenied
    else match s.reachPartner win rx with
      | (s1, .error r) => s1.endWindow o r
      | (s1, .ok (ap, rest)) =>
        if o.state == .queued && !s1.haulOk o main win ap then s1.endWindow o rDenied
        else match o.nextStaged with
          | some h => (s1.takeSecond o).goAhead o h flips rest
          | none => (s1.takeSecond o).stageChunk o flips rest

/-- Dispatch of a HAUL's chunk. One that waits staged needs no source any more. -/
def State.dispatchChunk (s : State) (o : Op) (flips : Flips) (rx : List Byte) : State := match o.nextStaged with
  | some h => if h.staged then s.goAhead o h flips rx else s.startChunk o flips rx
  | none => s.startChunk o flips rx

/-- A HAUL goes on: with its staging from a window, or that of the chunk after (R518), or with the write of a staged chunk to a
window. -/
def State.resumeHaul (s : State) (o : Op) (flips : Flips) (rx : List Byte) : State :=
  if o.aheadRun.isSome then
    (match s.reachPartner o.src rx with
      | (s1, .error r) => s1.stopsWith o.id r
      | (s1, .ok (_, rest)) => (s1.windowReads o.id rest 64).aheadOver o.id)
  else if s.stagingOp o.id then
    (match s.reachPartner o.src rx with
      | (s1, .error r) => (s1.dropHeldLay o.id).endWindow o r
      | (s1, .ok (_, rest)) => s1.stageWindow o.id rest)
  else s.writeChunk o flips rx

/-- An operation that waited at a disabled gate goes on.
Log entry 38 (DEDUCED). -/
def State.resumeHeld (s : State) (o : Op) (flips : Flips) (rx : List Byte) : State :=
  if o.opcode = opHaul then s.resumeHaul o flips rx
  else if o.opcode = opLay then s.windowLay o rx
  else match s.partnerAt o.addr with
    | some q => if o.index = 0 then s.windowClear o rx else s.eraseNext o.id q rx
    | none => s.windowClear o rx

/-- The gate at which an operation waits is still disabled (R428). -/
def State.stillHeld (s : State) (o : Op) : Bool := match s.heldAt o with
  | some g => !(s.gate g).en
  | none => false

/-- Work that a DISPATCH goes on with once the gate is enabled: of a window lay or clear, of a HAUL. -/
def Op.waitsFreed (o : Op) : Bool := match o.work with
  | .gateHeld => true
  | .staging _ => (windowOf o.src).isSome
  | .onBank => o.aheadRun.isSome && !o.marked && (windowOf o.src).isSome
  | _ => false

/-! ### Polls (R494 to R496) -/

/-- A page program is confirmed: its stones count, and the next page or the end follows. -/
def State.pageConfirmed (s : State) (o : Op) (ap : AnnexId × PartnerId) (rx : List Byte) : State :=
  let q := s.partner ap.1 ap.2
  let done := o.index + (o.pageBytes q).length
  let total := 8 * (o.position + o.payload.length)
  let s1 := s.modOp o.id (fun x => { x with index := done, units := BitVec.ofNat 32 (done / 8) })
  if done < total then s1.programNext o.id ap rx
  else if o.opcode = opHaul then
    (s1.modOp o.id (fun x => { x with units := BitVec.ofNat 32 o.position })).chunkEnds o.id rDone o.payload.length
  else (s1.drainYard o).endWindow { o with index := done } (if o.result = 0xFF then rDone else o.result)

/-- An erase is confirmed: a whole block counts in UNITS, and the next erase or the end follows. -/
def State.eraseConfirmed (s : State) (o : Op) (ap : AnnexId × PartnerId) (rx : List Byte) : State :=
  let per := (s.partner ap.1 ap.2).perBlock
  let done := o.index + 1
  let s1 := s.modOp o.id (fun x => { x with index := done, units := BitVec.ofNat 32 (done / per) })
  if done % per = 0 ∧ o.marked then s1.endWindow o rCancelled
  else if o.count.toNat * per ≤ done then s1.endWindow o rDone
  else s1.eraseNext o.id ap rx

/-- Ticks before the first poll (R494). -/
def Partner.typTicks (q : Partner) : Nat := if q.erasing then q.eraseTyp else q.progTyp

/-- POLL (R494, R495): one status byte, and, once it confirms, the bytes of the exchanges that follow. Of the exchanges that
are due on one edge the polls go first, the lowest partner first (R497).
Log entry 49 (DESIGN CHOICE). -/
def execPoll (a : AnnexId) (p : PartnerId) (sr : Byte) (rx : List Byte) (s : State) : Outcome :=
  let q := s.partner a p
  s.onStep orderEnds (match q.owner.bind s.op? with
    | none => s
    | some o =>
      if !q.inFlight || s.pace.crossed = 0 || q.polled || decide (q.sentTicks < q.typTicks) || (s.anx a).yielded
        || decide (p.val < (s.anx a).turn) then s
      else
        let s1 := ((s.modPartner a p (fun x => { x with polled := true })).modAnx a (fun x => { x with turn := p.val })).send a
          (q.command p [(s.anx a).rdsrOp] 1)
        if sr = 0xFF then
          (if 1 ≤ q.ffPolls then s1.loseOp o false else s1.modPartner a p (fun x => { x with ffPolls := x.ffPolls + 1 }))
        else if sr.getLsbD 0 then s1.modPartner a p (fun x => { x with ffPolls := 0 })
        else
          let s2 := s1.modPartner a p (fun x => { x with inFlight := false, ffPolls := 0 })
          if q.erasing then s2.eraseConfirmed o (a, p) rx else s2.pageConfirmed o (a, p) rx)

/-- PARTNER_TIMEOUT (R496, R503). -/
def execPartnerTimeout (a : AnnexId) (p : PartnerId) (s : State) : Outcome :=
  let q := s.partner a p
  let limit := if q.erasing then (s.anx a).eraseLimit else (s.anx a).progLimit
  s.onStep orderEnds (match q.owner.bind s.op? with
    | none => s
    | some o => if q.inFlight && decide (0 < limit ∧ limit ≤ q.sentTicks) then s.partnerEnds o (a, p) rTimeout else s)

/-! ### MODF and MANUALON (R509, R512 to R514) -/

/-- A HAUL's partner is lost while a chunk is being laid or waits staged: the HAUL ends PARTNER_LOST after the last chunk that is
staged whole (R520). -/
def Op.lostSource (o : Op) : Op := match o.nextStaged with
  | some h => if h.staged && h.stop == 0xFF then { o with ahead := some { h with stop := rLost } }
    else if h.staged then o else { o with ahead := none, result := rLost }
  | none => { o with result := rLost }

/-- A RUNNING operation of an annex that yields (R514). What a HAUL has staged is still laid (R520). -/
def State.yieldOp (s : State) (a : AnnexId) (o : Op) : State :=
  if o.state != .running || o.annexOf != some a then s
  else if o.opcode == opHaul && (o.work == .onBank || o.aheadStaged) && (windowOf o.src).isSome then
    (match s.partnerAt o.src with
      | some q => (s.losePartner q.1 q.2 true).modOp o.id Op.lostSource
      | none => s)
  else (s.dropHeldLay o.id).loseOp o true

/-- The FY16 drives the select of a partner low: a READ streams from it. -/
def Annex.drivesSel (x : Annex) (p : PartnerId) : Bool := match x.stream with
  | some (q, _) => q == p
  | none => false

/-- The annex yields the bus: it releases every line (R513). -/
def Annex.yields (x : Annex) : Annex := { x.endRead with modf := true, yielded := true, modfs := x.modfs + 1 }

/-- The select of an enabled partner is sampled on an edge and reads low, while the FY16 neither drives it low nor has just
released it (R512, R513). -/
def Annex.senses (x : Annex) (p : PartnerId) : Bool :=
  x.en && !x.yielded && x.partners[p.val].en && x.unsensed[p.val] == 0 && !x.drivesSel p && !x.selIn.getLsbD p.val

/-- MODF (R513). -/
def execModf (a : AnnexId) (p : PartnerId) (s : State) : Outcome :=
  s.onStep orderEnds (
    if (s.anx a).senses p then
      forEach s.ledger.ops (fun t o => t.yieldOp a o) ((s.modAnx a Annex.yields).cause cAnnex)
    else s)

/-- MANUALON (R509). -/
def execManualon (a : AnnexId) (s : State) : Outcome :=
  s.onEdge (if (s.anx a).manual && !(s.anx a).manualon && !s.annexRunning a then
    s.modAnx a (fun x => { x with manualon := true }) else s)

end Sys2Proof.Machine
end

