-- ==== Sys2Proof/Machine/Gallery.lean ====
section
/-! DEFINITION. Dispatch (10, R382 to R405, R637): steps of operations, fair queuing, floor, reservation; the ends of ledger
FETCH, SIGNAL and FENCE. -/
namespace Sys2Proof.Machine

/-! ### What a dispatch starts -/

/-- A ledger FETCH starts to read: its first stone meets its gate on the dispatch edge (R293). A window is reached on it too
(R485, R504, R511). -/
def State.startFetchOp (s : State) (o : Op) (flips : Flips) (rx : List Byte) : State :=
  let s1 := s.modOp o.id (fun x => { x with state := .running, work := .fetching (s.firstRun flips) })
  if (windowOf o.addr).isSome then
    (if s1.fetchBarred o.addr then s1.stopsWith o.id rDenied
     else match s1.reachPartner o.addr rx with
      | (s2, .error r) => s2.endWindow o r
      | (s2, .ok _) => s2)
  else s1.readOn o.id 64

/-- A REPOINT starts to read its next block (R636); a host's passes its gate granule by granule (R414, R421). -/
def State.startRead (s : State) (o : Op) (b : BankId) (flips : Flips) : State :=
  let r := s.passAll o false (granulesFrom (unitAddr b (addrBlock o.addr + o.index) (.block 0)) 65536)
  if r.2.2 then r.1.complete o.id rDenied
  else r.1.modOp o.id (fun x => { x with
    state := .running, work := .reading { next := 0, ready := s.pace.devtime + s.fetchPs, fixes := 0, bad := 0, flips := flips } })

/-- A KILN that fires no slot and moves no block (Table 09.2, R355).
Log entry 32 (DEDUCED). -/
def State.kilnNothing (s : State) (o : Op) (b : BankId) : State :=
  let r := (s.bank b).kept
  let st := r.slotState b o.count.toNat
  let movable := st == .mapped || st == .gap
  if movable && (s.spareSlot b).isNone then (s.modBank b (fun k => { k with overdue := true })).complete o.id rDone
  else if movable || st == .reserve then s.countDeferred.complete o.id rDone
  else s.complete o.id rDone

/-- The move of a kiln swap begins (Table 09.2). -/
def State.beginSwap (s : State) (o : Op) (b : BankId) : State :=
  let r := (s.bank b).kept
  match r.blockOf o.count.toNat, s.spareSlot b with
  | some l, some d =>
    (s.modOp o.id (fun x => { x with state := .running })).beginMove b
      { op := o.id, kind := .kilnSwap, lblock := l, src := o.count.toNat, dst := d, row := 0, skip := [], uncorr := false,
        mapped := false }
  | _, _ => s

/-- A step of a KILN: on its first dispatch a host's meets its gate (R414), and a swap begins.
Log entry 32 (DEDUCED). -/
def State.startKiln (s : State) (o : Op) (b : BankId) (act : Act) (flips : Flips) : State :=
  let first := o.state == .queued
  let g := if first then s.passAll o true [o.addr] else (s, 1, false)
  if g.2.2 then g.1.complete o.id rDenied
  else match act with
    | .row => (if first then g.1.beginSwap o b else g.1).startRow o b flips
    | .source => (if first then g.1.beginSwap o b else g.1).startSource o b
    | .fire => g.1.startFiring o b o.count.toNat
    | _ => g.1.kilnNothing o b

/-- What the dispatch of a step does (Table 10.2). -/
def State.startStep (s : State) (o : Op) (act : Act) (flips : Flips) (rx : List Byte) : State :=
  let win := (windowOf o.addr).isSome
  match act, o.bankOf with
  | .fetch, _ => s.startFetchOp o flips rx
  | .chunk, _ => s.dispatchChunk o flips rx
  | .lay, some b => s.startLay o b o.payload
  | .clear, some b => s.startClear o b
  | .suspend, some b => let r := s.requestSuspend b true; State.completeWith false r.1 o.id (suspResult r.2)
  | .resume, some b => let r := s.requestResume b; State.completeWith false r.1 o.id (suspResult r.2)
  | .read, some b => s.startRead o b flips
  | a, some b =>
    if o.opcode = opKiln then s.startKiln o b a flips
    else if a = .row then s.startRow o b flips
    else s.startSource o b
  | .lay, none => if win then s.windowLay o rx else s
  | .clear, none => if win then s.windowClear o rx else s
  | _, none => s.complete o.id rDenied

/-! ### Virtual times (R394 to R398, R637) -/

def vlt (a b : BitVec 48) : Bool := decide (1 ≤ (b - a).toNat ∧ (b - a).toNat ≤ 140737488355327)

def vmax (a b : BitVec 48) : BitVec 48 := if vlt a b then b else a

/-- inc(c, w) of R397, for w > 0. -/
def vinc (c w : Nat) : BitVec 48 := BitVec.ofNat 48 (min (2 ^ 46) ((c * 256 + w - 1) / w))

def Gal.leafTag (g : Gal) (i : SubId) (v : SvcId) : BitVec 48 := g.fl[4 * i.val + v.val]'(by omega)

def Gal.setLeafTag (g : Gal) (i : SubId) (v : SvcId) (t : BitVec 48) : Gal :=
  { g with fl := g.fl.set (4 * i.val + v.val) t (by omega) }

/-- Leaves of a gallery that offer, as a mask. -/
def State.awakeNow (s : State) (g : GalId) : BitVec 128 :=
  allSubs.foldl (fun (m : BitVec 128) i => ([0, 1, 2, 3] : List SvcId).foldl (fun (x : BitVec 128) v =>
    if (s.offer g v i).isSome then x ||| (1 <<< leafIx i v) else x) m) 0

/-- Services of which some leaf offers. -/
def svcMask (m : BitVec 128) : BitVec 4 :=
  ([0, 1, 2, 3] : List SvcId).foldl (fun (x : BitVec 4) v =>
    if allSubs.any (fun i => m.getLsbD (leafIx i v)) then x ||| (1 <<< v.val) else x) 0

/-- The wake rule for a gallery whose offers are `m` (R396). -/
def Gal.wake (g : Gal) (m : BitVec 128) : Gal :=
  let leaf := allSubs.foldl (fun (x : Gal) i => ([0, 1, 2, 3] : List SvcId).foldl (fun (y : Gal) v =>
    if m.getLsbD (leafIx i v) && !g.awake.getLsbD (leafIx i v) then y.setLeafTag i v (vmax (y.leafTag i v) y.vs[v.val]) else y) x) g
  let sm := svcMask m
  let svc := ([0, 1, 2, 3] : List SvcId).foldl (fun (x : Gal) v =>
    if sm.getLsbD v.val && !g.svcAwake.getLsbD v.val then { x with fs := x.fs.set v.val (vmax x.fs[v.val] x.vg) } else x) leaf
  { svc with awake := m, svcAwake := sm }

def State.wakeGal (s : State) (g : GalId) : State :=
  if s.ledger.ops.isEmpty then s.modGal g (fun x => { x with awake := 0, svcAwake := 0 })
  else let m := s.awakeNow g; s.modGal g (fun x => x.wake m)

/-- FL, VS, FS and VG after the dispatch of an operation of leaf (i, v) at cost `c` (R397, R398). -/
def State.charge (s : State) (g : GalId) (i : SubId) (v : SvcId) (c : Nat) : State :=
  let wl := (s.sub i).weight[v.val].toNat
  s.modGal g (fun x =>
    let wv := x.weight[v.val].toNat
    let y := if wl = 0 then x else
      let t := x.leafTag i v + vinc c wl
      { x.setLeafTag i v t with vs := x.vs.set v.val t }
    if wv = 0 then y else
      let t := y.fs[v.val] + vinc c wv
      { y with fs := y.fs.set v.val t, vg := t })

/-- The dispatch cost of an operation's next step. -/
def State.stepCost (s : State) (o : Op) : Nat := match s.nextAct o with
  | some a => s.costOf o a
  | none => 0

/-- The entry with the least tag, the earlier of two equal ones; entries of weight 0 only where there is no other (R398).
An entry is a weight, a tag and what it stands for. -/
def leastTag {α : Type} (l : List (Nat × BitVec 48 × α)) : Option α :=
  match l.filter (fun e => decide (0 < e.1)) with
  | [] => (l.head?).map (·.2.2)
  | e :: r => some (r.foldl (fun (m : Nat × BitVec 48 × α) x => if vlt x.2.1 m.2.1 then x else m) e).2.2

/-- best(v) of R397. -/
def State.bestOf (s : State) (g : GalId) (v : SvcId) : Option Op :=
  let offers := allSubs.filterMap (fun i => (s.offer g v i).map (fun o => (i, o)))
  let green := offers.filter (fun e => e.2.colour != .yellow)
  let pool := if green.isEmpty then offers else green
  leastTag (pool.map (fun e =>
    let w := (s.sub e.1).weight[v.val].toNat
    (w, (s.gal g).leafTag e.1 v + vinc (s.stepCost e.2) w, e.2)))

/-- The pick of R397. -/
def State.fairPick (s : State) (g : GalId) : Option Op :=
  leastTag (([0, 1, 2, 3] : List SvcId).filterMap (fun v => (s.bestOf g v).map (fun o =>
    let w := (s.gal g).weight[v.val].toNat
    (w, (s.gal g).fs[v.val] + vinc (s.stepCost o) w, o))))

/-! ### Special cases: the floor and the reservation -/

/-- The house operation of a gallery that has waited longest for the floor, of those that may go now (R348). -/
def State.floorPick (s : State) (g : GalId) : Option Op :=
  let w := s.upkeep.floorwait.toNat
  if w = 0 then none
  else (s.ledger.ops.filter (fun o => o.house && o.gal == g && decide (w ≤ o.floorTicks) && s.eligible o)).foldl
    (fun (m : Option Op) o => match m with
      | none => some o
      | some x => if x.floorTicks < o.floorTicks then some o else some x) none

/-- The reserved operation, if it is eligible on this gallery (R404). -/
def State.reservedPick (s : State) (g : GalId) : Option Op :=
  (s.power.reserved.bind s.op?).bind (fun o => if o.gal == g && s.eligible o then some o else none)

/-! ### A dispatch -/

/-- Another operation goes in their place (WHY 7, R348). -/
def State.passOthers (s : State) (g : GalId) (id : Nat) : State :=
  s.modLedger (fun l => { l with ops := l.ops.map (fun o =>
    if o.id != id && o.gal == g && s.eligible o then { o with passed := true } else o) })

/-- A dispatch's own counts: DISPATCHES, the last dispatch, the DISPATCH entry (R626), its reservation and waits. -/
def State.countDispatch (s : State) (g : GalId) (o : Op) : State :=
  let s1 := s.modGal g (fun x => { x with
    dispatches := x.dispatches + 1, lastslot := (match o.slot with | some k => BitVec.ofNat 8 k.val | none => 0xFF),
    lastledger := o.slot.isSome, lastsvc := BitVec.ofNat 2 ((o.svc.getD 0).val) })
  ((s1.traceOp tDispatch o (BitVec.setWidth 16 o.opcode)).endReservation o.id).modOp o.id
    (fun x => { x with short := 0, floorTicks := 0, passed := false })

/-- Gallery `g` dispatches operation `o`; `counts`: it is the gallery's one dispatch of the edge (R393). -/
def State.dispatchOp (s : State) (g : GalId) (o : Op) (counts : Bool) : State :=
  match s.nextAct o, o.svc with
  | some act, some v =>
    let s1 := if counts then (s.passOthers g o.id).modGal g (fun x => { x with busy := true }) else s
    (s1.charge g o.sub v (s.costOf o act)).countDispatch g o
  | _, _ => s

/-- A dispatch with what it starts. -/
def State.dispatchStep (s : State) (g : GalId) (o : Op) (counts : Bool) (flips : Flips) (rx : List Byte) : State :=
  match s.nextAct o with
  | some act => (s.dispatchOp g o counts).startStep o act flips rx
  | none => s

/-- The partner that the dispatch of an operation probes first (R485): its steps and yard slots follow the page size that the
probe finds (R259, R382, R492). -/
def State.probesFirst (s : State) (o : Op) : Option (AnnexId × PartnerId) :=
  match o.windowAddr.bind s.partnerAt with
  | none => none
  | some q =>
    if (s.anx q.1).en && !(s.partner q.1 q.2).fenced && decide ((s.partner q.1 q.2).state.toNat < 2)
      && !o.aheadStaged && !(o.opcode == opHaul && o.state == .queued && s.haulBad o) && !(o.opcode == opFetch && s.fetchBarred o.addr)
    then some q else none

/-- A dispatch whose partner may have to be probed first. A probe that ends the operation ends its dispatch; a window lay that
then finds too few yard slots for its pages waits (R259).
Log entry 79 (DEDUCED). -/
def State.dispatchProbed (s : State) (g : GalId) (o : Op) (counts : Bool) (flips : Flips) (rx : List Byte) : State :=
  match s.probesFirst o with
  | none => s.dispatchStep g o counts flips rx
  | some q =>
    let t := s.probePartner q.1 q.2 rx
    match t.2.1 with
    | some r => ((t.1.dispatchOp g o counts).modOp o.id (fun x => { x with state := .running })).endWindow o r
    | none => if t.1.eligible o then t.1.dispatchStep g o counts flips t.2.2 else t.1

/-- The ledger FETCH of gallery `g` that its bank's unit boundary serves (R312).
Log entry 39 (DEDUCED). -/
def State.boundaryFetch (s : State) (g : GalId) : Option Op :=
  s.ledger.ops.find? (fun o => o.opcode == opFetch && o.gal == g && s.eligible o &&
    (match o.bankOf with
      | some b => (s.bank b).state == .clearing
      | none => false))

/-- A window operation of gallery `g` whose gate has been enabled, or a HAUL whose chunk is staged for a window (R428, R519).
Log entry 38 (DEDUCED). -/
def State.freedOp (s : State) (g : GalId) : Option Op :=
  s.ledger.ops.find? (fun o => o.state == .running && o.waitsFreed && o.gal == g && !s.stillHeld o && s.windowFree o)

/-- A ledger SUSPEND or RESUME that may go (R320). -/
def State.suspOp (s : State) (g : GalId) : Option Op :=
  s.ledger.ops.find? (fun o => !o.isDirect && (o.opcode == opSuspend || o.opcode == opResume) && o.gal == g && s.eligible o)

/-- The operation that DISPATCH takes as the gallery's one dispatch of the edge: the reserved one, the floor's, or the
pick of R397. -/
def State.mainPick (s : State) (g : GalId) : Option (Op × Bool) :=
  match s.reservedPick g with
  | some o => some (o, false)
  | none => match s.floorPick g with
    | some o => some (o, true)
    | none => (s.fairPick g).map (fun o => (o, false))

def State.dispatchPick (s : State) (g : GalId) (e : Op × Bool) (flips : Flips) (rx : List Byte) : State :=
  (if e.2 then s.modGal g (fun x => { x with floors := x.floors + 1 }) else s).dispatchProbed g e.1 true flips rx

/-- Ledger FETCHes of a gallery that are eligible but for their bank meet it (R316).
Log entry 19 (DEDUCED). -/
def State.fetchRequests (s : State) (g : GalId) : State :=
  forEach (s.ledger.ops.filter (fun o => o.opcode == opFetch && o.gal == g && s.eligibleButBank o && !s.eligible o))
    (fun t o => match o.bankOf with
      | some b => t.fetchMeets b (addrBlock o.addr) (addrSector o.addr)
      | none => t) s

/-- DISPATCH (R393, R397): the next dispatch of gallery `g` on this edge. The galleries go in order (Table 10.3).
Log entry 6 (DEDUCED). -/
def execDispatch (g : GalId) (flips : Flips) (rx : List Byte) (s : State) : Outcome :=
  s.onStep (orderGallery g) (if s.ledger.ops.isEmpty then s else
    let t := (s.wakeGal g).fetchRequests g
    match t.boundaryFetch g, t.freedOp g, t.suspOp g with
    | some o, _, _ => t.dispatchProbed g o false flips rx
    | none, some o, _ => t.resumeHeld o flips rx
    | none, none, some o => t.dispatchProbed g o false flips rx
    | none, none, none =>
      if (t.gal g).busy then t
      else match t.mainPick g with
        | some e => t.dispatchPick g e flips rx
        | none => t)

/-- FLOOR (R348).
Log entry 6 (DEDUCED). -/
def execFloor (g : GalId) (flips : Flips) (rx : List Byte) (s : State) : Outcome :=
  s.onStep (orderGallery g) (if s.ledger.ops.isEmpty || (s.gal g).busy then s else
    let t := s.wakeGal g
    if (t.reservedPick g).isSome then s
    else match t.floorPick g with
      | some o => t.dispatchPick g (o, true) flips rx
      | none => s)

/-! ### Reservation (R403 to R405) -/

/-- Tokens of an operation's next dispatch, if it takes any. -/
def State.needs (s : State) (o : Op) : Option Nat := (s.nextAct o).bind (fun a => s.tokensOf o a)

/-- Place of an operation in the tie of R403: gallery, then ledger slot, then direct operations by port. -/
def Op.tieRank (o : Op) : Nat :=
  o.gal.val * 512 + (match o.origin with | .ledger k => k.val | .direct p => 256 + p.val)

/-- An operation that qualifies for a reservation (R403). -/
def State.qualifies (s : State) (o : Op) : Bool :=
  decide (s.tokenWait ≤ o.short) && s.tokenShort o &&
  (match s.needs o with
    | some t => decide (t + s.portTokens ≤ s.power.budget.toNat)
    | none => false)

/-- Operation `o` has been token-short longer than `x`, or as long with a tie that it wins (R403). -/
def State.shorter (s : State) (o x : Op) : Bool :=
  let age := fun (y : Op) => s.since (y.shortAt.getD s.pace.devtime)
  decide (age x < age o ∨ (age o = age x ∧ o.tieRank < x.tieRank))

/-- The operation that becomes reserved. -/
def State.reservePick (s : State) : Option Op :=
  (s.ledger.ops.filter s.qualifies).foldl (fun (m : Option Op) o => match m with
    | none => some o
    | some x => if s.shorter o x then some o else some x) none

/-- RESERVATION (R403), at the start of step 5 of Table 10.3. -/
def execReservation (s : State) : Outcome :=
  s.onStep orderReserve (if s.tokenWait = 0 ∨ s.power.reserved.isSome then s
    else match s.reservePick with
      | some o => s.modPower (fun w => { w with reserved := some o.id, reservations := w.reservations + 1 })
      | none => s)

/-! ### The end of a ledger FETCH (R293, R484, R501, R639) -/

/-- A FETCH whose read is over completes: its stones are staged in its yard slot, and its bank has one fetch less (R323). -/
def State.endFetch (s : State) (o : Op) : State :=
  let s1 := match o.bankOf with
    | some b => s.modBank b (fun k => { k with quiet := 0 })
    | none => s
  (if o.fetched.isEmpty then s1 else s1.fillYard o o.fetched).endWindow o (if o.result = 0xFF then o.repointResult else o.result)

/-- A running FETCH completes if its read is over. -/
def State.fetchOver (s : State) (id : Nat) : State := match s.op? id with
  | none => s
  | some o => if o.state == .running && s.readOver o then s.endFetch o else s

/-- The partner's turn among the exchanges that are due on an edge, after its polls (R497): 4 and its number. -/
def State.takesTurn (s : State) (q : AnnexId × PartnerId) : State := s.modAnx q.1 (fun x => { x with turn := 4 + q.2.val })

/-- A window FETCH may use its annex now (R497, R509). -/
def State.turnOpen (s : State) (q : AnnexId × PartnerId) : Bool :=
  decide ((s.anx q.1).turn ≤ 4 + q.2.val) && !((s.anx q.1).manual && (s.anx q.1).manualon)

/-- The next `n` stones of a window FETCH, which its partner has driven whole. One that a CANCEL has marked, and that has no stone in
progress, ends CANCELLED (Table 06.5).
Log entry 49 (DESIGN CHOICE). -/
def State.fetchWindow (s : State) (o : Op) (n : Nat) (rx : List Byte) : State :=
  match s.partnerAt o.nextStone with
  | none => (s.windowReads o.id rx 1).fetchOver o.id
  | some q =>
    if !s.turnOpen q then s
    else if o.marked && n == 0 then (s.stopsWith o.id rCancelled).fetchOver o.id
    else ((s.takesTurn q).windowReads o.id rx n).fetchOver o.id

/-- FETCH_COMPLETE (R293): a FETCH of stones that the array holds, all read; or `n` stones of a window, the
last of which completes it.
Log entry 49 (DESIGN CHOICE). -/
def execFetchComplete (k : Fin 256) (n : Nat) (rx : List Byte) (s : State) : Outcome :=
  s.onStep orderEnds (match s.opOfSlot k with
    | none => s
    | some o => match o.work with
      | .fetching _ => if o.bankOf.isSome || s.readOver o then s.fetchOver o.id else s.fetchWindow o n rx
      | _ => s)

/-- The ledger FETCH that a partner's read serves. -/
def State.fetchAt (s : State) (q : AnnexId × PartnerId) : Option Op :=
  s.ledger.ops.find? (fun o => o.opcode == opFetch && o.state == .running && s.partnerAt o.nextStone == some q && !o.isDirect)

/-- RDS_EDGE_MISSING (R501): a DDR read with USERDS loses its strobe after the bytes given. -/
def execRdsEdgeMissing (a : AnnexId) (p : PartnerId) (rx : List Byte) (s : State) : Outcome :=
  s.onStep orderEnds (if !(s.partner a p).byStrobe then s
    else match s.fetchAt (a, p) with
      | none => s
      | some o =>
        if !s.turnOpen (a, p) then s
        else (((s.takesTurn (a, p)).windowReads o.id rx (rx.length / 8 + 1))).fetchOver o.id)

/-! ### SIGNAL and FENCE (R239, R240) -/

/-- SIGNAL_COMPLETE (R239), in the last step of R237: its event latches waits on the next edge. -/
def execSignalComplete (k : Fin 256) (s : State) : Outcome :=
  s.onStep orderEvents (match s.opOfSlot k with
    | none => s
    | some o => if o.opcode == opSignal && o.state == .queued && !o.fresh && s.linksOk o then State.completeWith false s o.id rDone else s)

/-- FENCE_COMPLETE (R240), in the last step of R237. -/
def execFenceComplete (k : Fin 256) (s : State) : Outcome :=
  s.onStep orderEvents (match s.opOfSlot k with
    | none => s
    | some o =>
      if o.opcode == opFence && o.state == .queued && !o.fresh && s.linksOk o && s.earlierDone o then State.completeWith false s o.id rDone else s)

end Sys2Proof.Machine
end

