-- ==== Sys2Proof/Machine/House.lean ====
section
/-! DEFINITION. What falls due by the tick counts: the house's duties (09, R341 to R346, R355 to R358, R366, R570),
standstill and lapse (06, R249 to R255), and samples (10, R406 to R408). -/
namespace Sys2Proof.Machine

/-! ### The house -/

/-- The house may examine its duties on this edge (R341, R343).
Log entry 52 (DEDUCED). -/
def State.houseReady (s : State) : Bool := decide (0 < s.pace.crossed) && !s.upkeep.houseDone && !s.booting

/-- The house submits a packet: the one submission of the edge. -/
def State.dutySubmit (s : State) (op : Byte) (addr : BitVec 32) (count : Nat) (kind : MoveKind) : State × Bool :=
  let t := s.houseSubmit op addr count kind
  (t.1.modUpkeep (fun u => { u with houseDone := true }), t.2)

def bankBaseOf (b : Fin 64) : BitVec 32 := BitVec.ofNat 32 (b.val * 0x2000000)

/-- A house operation that is queued, running or suspended. -/
def Op.houseLive (o : Op) : Bool := o.house && o.state != .complete

/-- A KILN of slot `k` of bank `b` is queued or running. -/
def State.kilnOf (s : State) (b : Fin 64) (k : Nat) : Bool :=
  s.ledger.ops.any (fun o => o.opcode == opKiln && !o.isDirect && o.state != .complete && o.addr == bankBaseOf b
    && o.count.toNat == k)

/-- A move or firing that is under way uses slot `k` of bank `b`. -/
def State.slotBusy (s : State) (b : Fin 64) (k : Nat) : Bool :=
  s.kilnOf b k || (s.bank (bankIx b)).moving.any (fun m => m.src == k || m.dst == k)

/-- A tidy-list slot whose KILN is to be submitted (R570), lowest bank first. -/
def State.tidyDue (s : State) : Option (Fin 64 × Nat) :=
  (mainBanks.filter (fun b => !s.closedBank b)).findSome? (fun b =>
    ((s.bank (bankIx b)).kept.tidy.find? (fun k => !s.slotBusy b k)).map (fun k => (b, k)))

/-- TIDY_KILN (R570).
Log entry 52 (DEDUCED). -/
def execTidyKiln (s : State) : Outcome :=
  s.onStep orderHouse (if !s.houseReady then s else match s.tidyDue with
    | some (b, k) => (s.dutySubmit opKiln (bankBaseOf b) k .kilnSwap).1
    | none => s)

/-- The duties of Table 09.1 are examined: PAUSE is 0 (R344), and no KILN of a tidy list goes first (R570).
Log entry 52 (DEDUCED). -/
def State.dutiesOpen (s : State) : Bool := s.houseReady && !s.upkeep.pause && s.tidyDue.isNone

/-- A house KILN or move is queued or running on bank `b` (Table 09.1). -/
def State.houseOn (s : State) (b : Fin 64) : Bool :=
  s.ledger.ops.any (fun o => o.houseLive && o.bankOf == some (bankIx b) &&
    (o.opcode == opKiln || (o.opcode == opRepoint && (o.kind != .scrub || ((s.bank (bankIx b)).moveOf o.id).isSome))))

/-- Slots of a bank with a clear count of at least KILN_AT, ascending. Every slot whose count is above 0 is listed in the
counts used since boot or in the plinth. -/
def State.hotSlots (s : State) (b : Fin 64) : List Nat :=
  (List.range 544).filter (fun k => decide (s.upkeep.kilnAt.toNat ≤ (s.wearOf (bankIx b) k).1))

/-- A slot makes a kiln duty due (Table 09.1). -/
def State.kilnDueSlot (s : State) (b : Fin 64) (k : Nat) : Bool :=
  let r := (s.bank (bankIx b)).kept
  match r.slotState (bankIx b) k with
  | .reserve => true
  | .mapped => 0 < r.reserveCount (bankIx b)
  | .gap => 0 < r.reserveCount (bankIx b)
  | _ => false

/-- The kiln duty that is due: the lowest bank's lowest slot. -/
def State.kilnDue (s : State) : Option (Fin 64 × Nat) :=
  (mainBanks.filter (fun b => !s.closedBank b && !s.houseOn b)).findSome? (fun b =>
    ((s.hotSlots b).find? (s.kilnDueSlot b)).map (fun k => (b, k)))

/-- A bank holds a slot in MAPPED or GAP that has reached KILN_AT, and no RESERVE slot (R346). -/
def State.hotWithoutReserve (s : State) (b : Fin 64) : Bool :=
  let r := (s.bank (bankIx b)).kept
  r.reserveCount (bankIx b) == 0 && !s.closedBank b &&
    (s.hotSlots b).any (fun k => r.slotState (bankIx b) k == .mapped || r.slotState (bankIx b) k == .gap)

/-- R346. -/
def State.noteOverdue (s : State) : State :=
  forEach mainBanks (fun t b => if t.hotWithoutReserve b then t.modBank (bankIx b) (fun k => { k with overdue := true }) else t) s

/-- A kiln or slide duty is passed over for want of WP#: DEFERRED rises once on the edge (R355). -/
def State.passOver (s : State) : State :=
  if s.upkeep.passedOver then s else s.countDeferred.modUpkeep (fun u => { u with passedOver := true })

/-- KILN_DUTY (R341, R346, R355).
Log entry 52 (DEDUCED). -/
def execKilnDuty (s : State) : Outcome :=
  s.onStep orderHouse (if !s.dutiesOpen then s else
    let t := s.noteOverdue
    match t.kilnDue with
    | none => t
    | some (b, k) => if t.pins.wp then (t.dutySubmit opKiln (bankBaseOf b) k .kilnSwap).1 else t.passOver)

/-- The slide ring of a bank (R356). -/
def BankRec.ring (r : BankRec) (b : BankId) : List Nat :=
  (List.range 544).filter (fun k => r.slotState b k == .mapped || r.slotState b k == .gap)

/-- The slide source: the ring slot just below the gap, or the highest (R356). -/
def BankRec.slideSource (r : BankRec) (b : BankId) : Option Nat := match r.gap with
  | none => none
  | some g => match ((r.ring b).filter (fun k => decide (k < g))).getLast? with
    | some k => some k
    | none => ((r.ring b).filter (· != g)).getLast?

/-- Block of a bank's next slide move. -/
def BankRec.slideBlock (r : BankRec) (b : BankId) : Option Nat := (r.slideSource b).bind r.blockOf

def State.slideInterval (s : State) : Nat := max 1 s.upkeep.slideInt.toNat

/-- The slide duty of a bank is due (Table 09.1). -/
def State.slideDueOn (s : State) (b : Fin 64) : Bool :=
  s.glob.mapmode.getLsbD b.val && decide (s.slideInterval ≤ (s.bank (bankIx b)).since.toNat) && !s.closedBank b
    && !s.houseOn b && ((s.bank (bankIx b)).kept.slideBlock (bankIx b)).isSome

def State.slideDue (s : State) : Option (Fin 64) := mainBanks.find? s.slideDueOn

/-- A block of a bank. -/
def blockAddr (b : Fin 64) (l : Nat) : BitVec 32 := BitVec.ofNat 32 (b.val * 0x2000000 + l * 0x10000)

/-- SLIDE_DUTY (R341, R355, R357): no kiln duty goes first.
Log entry 52 (DEDUCED). -/
def execSlideDuty (s : State) : Outcome :=
  s.onStep orderHouse (if !s.dutiesOpen || (s.pins.wp && s.kilnDue.isSome) then s else match s.slideDue with
    | none => s
    | some b => match (s.bank (bankIx b)).kept.slideBlock (bankIx b) with
      | none => s
      | some l =>
        if !s.pins.wp then s.passOver
        else
          let t := s.dutySubmit opRepoint (blockAddr b l) 1 .slide
          if t.2 then t.1.modBank (bankIx b) (fun k => { k with since := k.since - BitVec.ofNat 16 s.slideInterval }) else t.1)

/-- Where the next scrub goes: NEXTBANK, or the next bank that is not closed, from block 0 (R366). -/
def State.scrubAt (s : State) : Option (Fin 64 × Nat) :=
  let n := s.upkeep.nextbank.toFin
  if !s.closedBank n then some (n, s.upkeep.nextblock.toNat)
  else ((mainBanks.map (fun i => n + i)).find? (fun b => !s.closedBank b)).map (fun b => (b, 0))

/-- A scrub is queued or running. -/
def State.scrubLive (s : State) : Bool := s.ledger.ops.any (fun o => o.houseLive && o.opcode == opRepoint && o.kind == .scrub)

def State.scrubDue (s : State) : Bool :=
  decide (0 < s.upkeep.scrubInt.toNat ∧ s.upkeep.scrubInt.toNat ≤ s.upkeep.scrubTicks) && !s.scrubLive

/-- SCRUB_DUTY (R341, R366): no kiln or slide duty goes first.
Log entry 52 (DEDUCED). -/
def execScrubDuty (s : State) : Outcome :=
  s.onStep orderHouse (if !s.dutiesOpen || !s.scrubDue || (s.pins.wp && (s.kilnDue.isSome || s.slideDue.isSome)) then s
    else match s.scrubAt with
      | none => s
      | some (b, l) =>
        let s1 := s.modUpkeep (fun u => { u with nextbank := BitVec.ofNat 6 b.val, nextblock := BitVec.ofNat 9 l })
        let t := s1.dutySubmit opRepoint (blockAddr b l) 1 .scrub
        if t.2 then t.1.modUpkeep (fun u => { u with
            scrubTicks := 0, nextblock := u.nextblock + 1, nextbank := if u.nextblock = 511 then u.nextbank + 1 else u.nextbank })
        else t.1)

/-! ### Standstill and lapse -/

/-- A QUEUED operation with an unsatisfied AFTER or an unlatched WAIT (R249). -/
def State.waiter (s : State) (o : Op) : Bool := o.state == .queued && (!s.afterOk o || !o.waitOk)

/-- A QUEUED operation can go on: it is eligible, or is a SIGNAL or FENCE that completes.
Log entry 61 (DEDUCED). -/
def State.canGo (s : State) (o : Op) : Bool :=
  o.state == .queued && (s.eligible o || (o.opcode == opSignal && s.linksOk o)
    || (o.opcode == opFence && s.linksOk o && s.earlierDone o))

/-- The standstill condition (R249).
Log entry 61 (DEDUCED). -/
def State.standing (s : State) : Bool :=
  !s.ledger.ops.any (fun o => o.state == .running) && !s.ledger.ops.any s.canGo && s.ledger.ops.any s.waiter

/-- STANDSTILL (R251, R252). -/
def execStandstill (s : State) : Outcome :=
  s.onEdge (
    let limit := s.ledger.standLimit.toNat
    let w := s.ledger.ops.filter s.waiter
    if limit = 0 ∨ s.ledger.standCount.toNat < limit ∨ !s.standing then s
    else
      let old : BitVec 8 := match w.find? (fun o => !o.isDirect) with
        | some o => (match o.slot with | some k => BitVec.ofNat 8 k.val | none => 0)
        | none => 0
      ((s.modLedger (fun l => { l with
        standFlag := true, standWaiters := BitVec.ofNat 9 w.length, standOldest := old, standCount := 0 })).addTrace
        tStandstill none 0 (BitVec.ofNat 16 w.length)).cause cStandstill)

/-- LAPSE (R253 to R255): a record that no open COLLECT reply drives or has driven. -/
def execLapse (k : Fin 256) (s : State) : Outcome :=
  s.onEdge (match s.opOfSlot k with
    | none => s
    | some o =>
      let limit := s.ledger.lapseLimit.toNat
      if o.state != .complete || s.ports.toList.any (fun p => p.reply.shown.contains o.id) || decide (limit = 0 ∨ o.age < limit) then s
      else (((s.traceOp tComplete o 0x0041).freeYard o.id).dropOp o.id).modLedger (fun l => { l with lapses := l.lapses + 1 }))

/-! ### Samples -/

/-- Operations of leaf (i, v) that are queued on the galleries of a SCOPE (R407). -/
def State.sampled (s : State) (i : SubId) (v : SvcId) : List Op :=
  s.ledger.ops.filter (fun o => o.state == .queued && o.sub == i && o.svc == some v &&
    (decide (4 ≤ s.power.sampleScope.toNat) || o.gal.val == s.power.sampleScope.toNat))

def bvMax {w : Nat} (a b : BitVec w) : BitVec w := if a.toNat < b.toNat then b else a

/-- One sample of a leaf (R407, R408).
Log entry 46 (DEDUCED). -/
def State.sampleLeaf (s : State) (i : SubId) (v : SvcId) (l : Leaf) : Leaf :=
  let q := s.sampled i v
  let depth := BitVec.ofNat 9 q.length
  let delay := BitVec.ofNat 20 (min 0xFFFFF ((q.map (fun o => (s.stamp - o.admitted).toNat)).foldl max 0))
  { depth := depth, delay := delay, maxdepth := bvMax l.maxdepth depth, maxdelay := bvMax l.maxdelay delay }

/-- SAMPLE (R406).
Log entry 6 (DEDUCED); log entry 46 (DEDUCED). -/
def execSample (s : State) : Outcome :=
  s.onStep orderSample (
    let n := s.power.sampleInt.toNat
    let c := s.power.sampleCount
    if n = 0 ∨ c < n ∨ s.power.sampleFreeze ∨ s.pace.crossed = 0 then s
    else
      { s with
        subs := s.subs.mapFinIdx (fun i u h => { u with
          leaf := u.leaf.mapFinIdx (fun v l h2 => s.sampleLeaf ⟨i, h⟩ ⟨v, h2⟩ l) })
        power := { s.power with
          sampleCount := c % n, samples := s.power.samples + 1, sampleStamp := s.stamp,
          missed := s.power.missed + BitVec.ofNat 16 (c / n - 1) } })

end Sys2Proof.Machine
end

