-- ==== Sys2Proof/Machine/Pulses.lean ====
section
/-! DEFINITION. Pulses and pumps (02, R52 to R59; 08, R301, R309; 09, R371; 14, R530 to R547): what a pace edge advances,
aborts and starts, and the rows for the ends of pulses, pump outputs, stall guard and brown-out. -/
namespace Sys2Proof.Machine

/-! ### Open gates -/

/-- A high-voltage gate is open on the bank: a pulse is in progress. -/
def Bank.gateOpen (k : Bank) : Bool :=
  (match k.lay with | some l => l.pulse.isSome | none => false) || (match k.clear with | some c => c.pulse.isSome | none => false)

/-- Close the bank's gates: what pulse is in progress is discarded (R58). -/
def Bank.closeGates (k : Bank) : Bank :=
  { k with lay := k.lay.map (fun l => { l with pulse := none }), clear := k.clear.map ClearRun.dropPulse }

/-- Banks with an open gate. -/
def State.openBanks (s : State) : List BankId := allBanks.filter (fun b => (s.bank b).gateOpen)

def State.closeAllGates (s : State) : State := { s with banks := s.banks.map Bank.closeGates }

/-- STALL_GUARD_TRIP (R57 to R59): every gate closes; the galleries that had one open are recorded on the next pace
edge. The mark array's stands for G0. -/
def execStallGuardTrip (s : State) : Outcome :=
  let gals : BitVec 4 := s.openBanks.foldl (fun (m : BitVec 4) b => m ||| (1 <<< (galOf b).val)) 0
  .next (if gals = 0 then s
    else { s.closeAllGates with
      pace := { s.pace with guardGals := s.pace.guardGals ||| gals },
      ports := s.ports.map (fun p => { p with guarded := true }) })

/-! ### Pumps (R530 to R539) -/

/-- The lay pump of gallery `g` serves something: a lay on its banks, and for G0 a plinth write (R530). -/
def State.layPumpServes (s : State) (g : GalId) : Bool :=
  allBanks.any (fun b => galOf b == g && (s.bank b).lay.isSome)
    || (g == 0 && (s.plinth.begun || s.plinth.jwrite.isSome))

/-- The clear pump of gallery `g` serves something: a clear or a firing that runs (R530). -/
def State.clearPumpServes (s : State) (g : GalId) : Bool :=
  allBanks.any (fun b => galOf b == g && ((s.bank b).state == .clearing || (s.bank b).state == .firing
    || (match (s.bank b).clear with | some c => c.purpose == .regression | none => false)))

/-- A pump runs only while it serves something and BROWN is 0; a pump that stops has to reach its target again (R531,
R545). -/
def Pump.run (p : Pump) (on : Bool) : Pump := { p with running := on, ready := p.ready && on }

def State.runPumps (s : State) : State :=
  { s with gals := s.gals.mapFinIdx (fun i g h => { g with
      lpump := g.lpump.run (s.layPumpServes ⟨i, h⟩ && !s.power.brown),
      cpump := g.cpump.run (s.clearPumpServes ⟨i, h⟩ && !s.power.brown) }) }

/-- The loop's part of R537. -/
def Pump.loopStep (p : Pump) (smin : Nat) (low : Bool) : Pump :=
  let lean := p.lean.toInt + (if low then 1 else -1)
  let q := { p with reglow := low }
  if lean = 4 then
    (if p.phase.toNat < 15 then { q with lean := 0, phase := p.phase + 1 }
     else if p.stages.toNat < 8 then { q with lean := 0, stages := p.stages + 1, phase := 8 }
     else { q with lean := 0 })
  else if lean = -4 then
    (if 0 < p.phase.toNat then { q with lean := 0, phase := p.phase - 1 }
     else if smin < p.stages.toNat then { q with lean := 0, stages := p.stages - 1, phase := 8 }
     else { q with lean := 0 })
  else { q with lean := BitVec.ofInt 8 lean }

/-- The floor of R537. -/
def Pump.floorStep (p : Pump) (smin : Nat) : Pump :=
  if p.stages.toNat < smin then { p with stages := BitVec.ofNat 4 smin, phase := 8 } else p

/-- A change of STAGES or PHASE counts in CHANGES (R539). -/
def Pump.counted (old new : Pump) : Pump :=
  if old.stages = new.stages ∧ old.phase = new.phase then new else { new with changes := new.changes + 1 }

/-- R539: one PUMP entry for a change.
Log entry 28 (DEDUCED). -/
def State.tracePump (s : State) (old new : Pump) : State :=
  if old.stages = new.stages ∧ old.phase = new.phase then s
  else s.addTrace tPump none 0 (BitVec.ofNat 16 (new.stages.toNat * 256 + new.phase.toNat))

/-- Adapt one pump: the loop, then the floor. -/
def Pump.adapt (p : Pump) (smin : Nat) (low : Bool) : Pump × Pump :=
  let a := p.counted (p.loopStep smin low)
  (a, a.counted (a.floorStep smin))

/-- A pump adapts on this edge. -/
def Pump.adapts (p : Pump) : Bool := p.running && !p.freeze && !p.override

/-- Log entry 28 (DEDUCED). -/
def State.adaptPump (s : State) (g : GalId) (clearPump low : Bool) : State :=
  let p := if clearPump then (s.gal g).cpump else (s.gal g).lpump
  if !p.adapts then s
  else
    let r := p.adapt (sminOf (if clearPump then 12000 else 11000) s.power.mv.toNat) low
    let s1 := s.modGal g (fun x => if clearPump then { x with cpump := r.2 } else { x with lpump := r.2 })
    (s1.tracePump p r.1).tracePump r.1 r.2

/-- Every running pump adapts (R537): lay pumps by REGLOW bits 3:0, clear pumps by bits 7:4. -/
def State.adaptPumps (s : State) (reglow : BitVec 8) : State :=
  forEach allGals (fun t g => (t.adaptPump g false (reglow.getLsbD g.val)).adaptPump g true (reglow.getLsbD (4 + g.val))) s

/-- A pump that is overridden below what VCC needs does not reach its target (R538). -/
def Pump.reaches (p : Pump) (smin : Nat) : Bool := !p.override || decide (smin ≤ p.setStages.toNat)

/-- The pump's output is at its target. -/
def State.pumpAtTarget (s : State) (g : GalId) (clearPump : Bool) : Bool :=
  if clearPump then (s.gal g).cpump.ready && (s.gal g).cpump.reaches (sminOf 12000 s.power.mv.toNat)
  else (s.gal g).lpump.ready && (s.gal g).lpump.reaches (sminOf 11000 s.power.mv.toNat)

/-- PUMP_READY (R531). -/
def execPumpReady (g : GalId) (clearPump : Bool) (s : State) : Outcome :=
  s.onEdge (s.modGal g (fun x =>
    if clearPump then { x with cpump := { x.cpump with
      ready := x.cpump.ready || (x.cpump.running && x.cpump.reaches (sminOf 12000 s.power.mv.toNat)) } }
    else { x with lpump := { x.lpump with
      ready := x.lpump.ready || (x.lpump.running && x.lpump.reaches (sminOf 11000 s.power.mv.toNat)) } }))

/-! ### Brown-out (R543 to R547) -/

/-- BROWN_OUT_TRIP (R544): every gate closes and every pump stops at once.
Log entry 63 (DEDUCED); log entry 67 (DEDUCED). -/
def execBrownOutTrip (s : State) : Outcome :=
  let cut := s.openBanks.map (·.val) ++ (if s.plinth.begun || s.plinth.jwrite.isSome then [65] else [])
  .next (if s.power.detector then s
    else { s.closeAllGates with
      power := { s.power with detector := true, brown := true, brownCut := s.power.brownCut ++ cut },
      gals := s.gals.map (fun g => { g with lpump := g.lpump.run false, cpump := g.cpump.run false }) })

/-- Operation whose pulse a trip cut on bank `b`. -/
def State.pulseOp (s : State) (b : BankId) : Option Op := match (s.bank b).lay, (s.bank b).clear with
  | some l, _ => s.op? l.op
  | none, some c => s.op? c.op
  | none, none => none

/-- The trip is counted, with one ABORT entry for each bank, 64 for the mark array and 65 for a plinth write (R547). -/
def State.countBrown (s : State) : State :=
  if s.power.brownCut.isEmpty then s
  else
    let s1 := forEach s.power.brownCut (fun t n =>
      t.addTrace tAbort (if h : n < 65 then (t.pulseOp ⟨n, h⟩).bind Op.slot else none) n (BitVec.ofNat 16 n)) s
    (s1.modPower (fun w => { w with brownouts := w.brownouts + 1, brownseen := true, brownCut := [] })).cause cBrown

/-- BROWN_OUT_RELEASE (R544, R546): on the first pace edge after the detector has released, BROWN clears and the pumps
start again.
Log entry 67 (DEDUCED). -/
def execBrownOutRelease (s : State) : Outcome :=
  s.onEdge (if !s.power.detector then s
    else ((s.countBrown).modPower (fun w => { w with detector := false, brown := false })).runPumps)

/-! ### What a pace edge advances -/

/-- Device time passes for a pulse on an edge on which pulses run; on any other it is aborted (R54). -/
def Pulse.advance (u : Pulse) (e : Nat) : Pulse := { u with elapsed := u.elapsed + e }

/-- A lay over an edge of `e` ps; `go`: pulses run on it (R306, R424, R628).
Log entry 15 (DEDUCED). -/
def LayRun.advance (l : LayRun) (e : Nat) (go : Bool) : LayRun :=
  if l.held then l
  else { l with time := if go then l.time + e else l.time, blank := l.blank - e,
                pulse := if go then l.pulse.map (·.advance e) else none }

/-- A clear unit or firing that runs, over an edge of `e` ps (R310, R361, R362).
Log entry 15 (DEDUCED). -/
def ClearRun.advance (c : ClearRun) (e : Nat) (go : Bool) : ClearRun :=
  if c.held || c.boundary then c
  else if !go then c.dropPulse
  else if c.purpose == .firing && !c.inClear then { c with fireTime := c.fireTime + e, pulse := c.pulse.map (·.advance e) }
  else { c with time := c.time + e, pulse := c.pulse.map (·.advance e) }

/-- The bank's clear or firing runs, not suspended. -/
def Bank.clearRuns (k : Bank) : Bool :=
  k.state == .clearing || k.state == .firing || (match k.clear with | some c => c.purpose == .regression | none => false)

/-- The run of a clear unit counts (R317, R424). -/
def Bank.runCounts (k : Bank) : Bool :=
  k.clearRuns && k.state != .firing && (match k.clear with | some c => !c.held && !c.boundary | none => false)

/-- What an edge of `e` ps that crosses `n` tick boundaries advances on a bank. -/
def Bank.advance (k : Bank) (e n : Nat) (go : Bool) : Bank :=
  { k with
    lay := k.lay.map (·.advance e go),
    clear := if k.clearRuns then k.clear.map (fun c => { c.advance e go with serving := false }) else k.clear,
    run := if k.runCounts then k.run + n else k.run,
    suspPs := if k.state == .suspending then k.suspPs + e else k.suspPs,
    quiet := k.quiet + n }

/-! ### What starts on a pace edge -/

/-- A fetch is reading the bank (R312).
Log entry 40 (DESIGN CHOICE). -/
def State.fetchReads (s : State) (b : BankId) : Bool :=
  s.ports.toList.any (fun p => p.reading && p.fetchBank == some b)
    || s.ledger.ops.any (fun o => o.state == .running && o.reads.isSome && bankOfAddr o.nextStone == some b)

/-- What was held at a gate meets it, and the unit after a boundary starts (R312, R428). -/
def State.bankGoesOn (s : State) (b : BankId) : State :=
  let s1 := s.decideLay b
  match (s1.bank b).clear with
  | none => s1
  | some c =>
    if (s1.bank b).state != .clearing then s1
    else if !c.boundary then s1.decideUnit b
    else if s1.fetchReads b then s1 else s1.nextUnitStarts b

/-- Height of pulse `j` of a lay on gallery `g` (R371). -/
def State.layPulseHeight (s : State) (g : GalId) (j : Nat) : Nat :=
  let x := s.gal g
  min 31 ((if x.tampOver then x.setHeight.toNat else x.height.toNat) + (j - 1))

/-- Width in ps of a lay pulse on gallery `g` (R371, R533); `f` is the stretch in hundredths. -/
def State.layPulsePs (s : State) (g : GalId) (f : Nat) : Nat :=
  let x := s.gal g
  let cold := (max 0 ((25 - s.power.temp.toInt) / 20)).toNat
  (if x.tampOver then x.setWidth.toNat else min 63 (x.width.toNat + cold)) * 1000 * f

/-- A lay's next pulse starts; `height` gives the height of pulse j. -/
def LayRun.startPulse (l : LayRun) (width : Nat) (height : Nat → Nat) (f : Nat) : LayRun :=
  if l.held || l.relaid || l.blank != 0 || l.pulse.isSome || l.whole || decide (l.maxPs ≤ l.time) then l
  else { l with pulse := some { elapsed := 0, width := width, height := height (l.pulses + 1) }, pulses := l.pulses + 1, stretch := max l.stretch f }

/-- A clear's or firing's next pulse starts: 500 µs stretched (R309, R533), or a firing pulse, of a width the spec does not
give (R360).
Log entry 9 (DESIGN CHOICE). -/
def ClearRun.startPulse (c : ClearRun) (fireWidth f : Nat) : ClearRun :=
  if c.held || c.boundary || c.pulse.isSome then c
  else if c.purpose == .firing && !c.inClear then
    (if stagePs c.stage ≤ c.fireTime then c
     else { c with pulse := some { elapsed := 0, width := fireWidth, height := 0 }, pulses := c.pulses + 1 })
  else if c.verified || decide (c.maxPs ≤ c.time) then c
  else { c with pulse := some { elapsed := 0, width := 5000000 * f, height := 0 }, pulses := c.pulses + 1, stretch := max c.stretch f }

/-- Pulses start on every bank whose pump is at its target. -/
def State.startPulses (s : State) (f : Nat) : State :=
  { s with
    banks := s.banks.mapFinIdx (fun i k h =>
      let g := galOf ⟨i, h⟩
      { k with
        lay := if s.pumpAtTarget g false then k.lay.map (·.startPulse (s.layPulsePs g f) (s.layPulseHeight g) f) else k.lay,
        clear := if k.clearRuns && s.pumpAtTarget g true
          then k.clear.map (·.startPulse (Config.freeWidth (s.freeCtr + i)) f) else k.clear }),
    freeCtr := if s.banks.toList.any (fun k => k.state == .firing) then s.freeCtr + 65 else s.freeCtr }

/-! ### The end of a pulse -/

/-- A pulse has reached its width. -/
def Pulse.over (p : Option Pulse) : Bool := match p with
  | some u => decide (u.width ≤ u.elapsed)
  | none => false

/-- A lay pulse ends, and its verify, which looks at every target bit again, finds the stones of `ok` good (R301, R307). -/
def LayRun.endPulse (l : LayRun) (ok : BitVec 64) : LayRun := { l with pulse := none, verified := ok }

/-- A clear pulse ends and its verify finds `ok`; after a firing pulse nothing is verified. -/
def ClearRun.endPulse (c : ClearRun) (ok : Bool) : ClearRun :=
  if c.purpose == .firing && !c.inClear then { c with pulse := none } else { c with pulse := none, verified := ok }

/-- PULSE_END (R55): the pulse of bank `b` ends, and its verify finds these stones, or every cell of the unit, good.
Log entry 15 (DEDUCED). -/
def execPulseEnd (b : BankId) (layOk : BitVec 64) (clearOk : Bool) (s : State) : Outcome :=
  s.onEdge (
    if !s.pace.qualified || s.power.brown then s
    else match (s.bank b).lay, (s.bank b).clear with
      | some l, _ => if Pulse.over l.pulse then s.modBank b (fun k => { k with lay := some (l.endPulse layOk) }) else s
      | none, some c =>
        if Pulse.over c.pulse then
          (s.modBank b (fun k => { k with clear := some (c.endPulse clearOk) })).modOp c.op (fun o => { o with position := o.position + 1 })
        else s
      | none, none => s)

end Sys2Proof.Machine
end

