-- ==== Sys2Proof/Machine/Reply.lean ====
section
/-! DEFINITION. The reply on the wire (02, R61 to R67; 03, R85 to R113; 05, R173 to R207; 04, R137, R158 to R161): what a
rising SCK edge of a port clocks out of it, when the content of each part is taken, and the levels of its lanes and of
HnRDS. -/
namespace Sys2Proof.Machine

/-! ### Wait cycles, transfers -/

/-- Wait cycles before the status byte: a PACE frame has none (R85, R166). -/
def Port.waitCycles (p : Port) : Nat := if p.txOp = some 0x70 then 0 else p.waitsNow.toNat

/-- Bytes of a reply as they go out: in 8D the status byte at both edges of its cycle (R88). -/
def Port.wire (p : Port) : List Byte :=
  (if p.txMode.extractLsb' 0 3 = 7 then [p.reply.status, p.reply.status] else [p.reply.status]) ++ p.reply.data

/-- The transfer over `lanes` lanes that begins at bit `q` of a byte string, most significant bits first, on the lowest lanes
(R81). What lies past the end is 1. -/
def transferAt (l : List Byte) (lanes q : Nat) : Byte :=
  (l.getD (q / 8) 0xFF >>> (8 - lanes - q % 8)) &&& BitVec.ofNat 8 (2 ^ lanes - 1)

/-- The bits of a transfer at bit `q` that lie beyond bit `len` are 1 (R113). -/
def padTransfer (len lanes q : Nat) (v : Byte) : Byte := v ||| BitVec.ofNat 8 (2 ^ min lanes (q + lanes - len) - 1)

/-- The transfers of one SCK cycle from bit `q` on: one in SDR, two in DDR (R80). -/
def cellAt (l : List Byte) (mode : BitVec 4) (q : Nat) : Byte × Byte :=
  let n := modeLanes mode
  (transferAt l n q, if mode.getLsbD 2 then transferAt l n (q + n) else transferAt l n q)

def padCell (len : Nat) (mode : BitVec 4) (q : Nat) (c : Byte × Byte) : Byte × Byte :=
  let n := modeLanes mode
  (padTransfer len n q c.1, padTransfer len n (if mode.getLsbD 2 then q + n else q) c.2)

/-- Two bytes of the Ehrif sequences over `n` lanes, from transfer `t` on: in each transfer lane k carries its own sequence
(R132, R137). -/
def ehrifBytes (n t : Nat) : List Byte :=
  (List.range 2).map (fun i => (List.range (8 / n)).foldl (fun b j =>
    (b <<< n) ||| ((List.finRange 8).foldl (fun v k =>
      if k.val < n && ehrifBit k ((t + i * (8 / n) + j) % 256) then v ||| (1 <<< k.val) else v) 0)) 0)

/-! ### The next part of a reply -/

/-- The reply goes on with the given bytes and then with `feed`. -/
def State.feedMore (s : State) (p : PortId) (data : List Byte) (feed : Feed) : State :=
  s.modPort p (fun x => { x with reply := { x.reply with data := x.reply.data ++ data, feed := feed } })

/-- COLLECT picks its next block at the last pace edge before its first bit (R205); with none left it drives 1s. -/
def State.pickRecord (s : State) (p : PortId) (peek : Bool) (done : List Nat) : State :=
  match oldest (s.collectable p done) with
  | none => s.feedMore p [] .ones
  | some o => ((s.modOp o.id (fun x => { x with driving := some p })).feedMore p o.block (.records peek done (some o.id))).modPort p
      (fun x => { x with reply := { x.reply with shown := o.id :: x.reply.shown } })

/-- The bytes so far have gone out and more is due: the content is taken as the last pace edge has left the state (R66,
R189, R205). -/
def State.pull (s : State) (p : PortId) : State :=
  let x := s.port p
  match x.reply.feed with
  | .ones => s
  | .still => s
  | .stones => match x.fetch with
    | some f => if x.hold.isSome then s else s.nextStone p f
    | none => s
  | .ehrif t => s.feedMore p (ehrifBytes (modeLanes x.txMode) t) (.ehrif ((t + 16 / modeLanes x.txMode) % 256))
  | .status => (s.feedMore p (s.statusBlock p) .ones).recordSent p
  | .sfdp a => s.feedMore p [sfdpTable.getD a 0xFF, sfdpTable.getD (a + 1) 0xFF] (.sfdp (a + 2))
  | .records peek done _ => s.pickRecord p peek done
  | .progress => (s.feedMore p (s.progressRecord p) .progress).recordSent p

/-- The last bit of a part has been driven: a stone counts in STONES (R177), a record is collected (R116, R206). The last
bit of a record is that of its block, CRC included.
Log entry 76 (DEDUCED). -/
def State.partDone (s : State) (p : PortId) : State :=
  let x := s.port p
  match x.reply.feed with
  | .records peek done (some id) =>
    let s1 := s.modPort p (fun y => { y with reply := { y.reply with feed := .records peek (id :: done) none } })
    let s2 := s1.modOp id (fun o => { o with driving := none })
    if peek then s2 else match s2.op? id with
      | some o => s2.collected o
      | none => s2
  | _ =>
    if x.fetch.isSome && !x.reply.data.isEmpty then
      s.modPort p (fun y => { y with stones := if y.stones = 0xFFFF then y.stones else y.stones + 1 })
    else s

/-- A PACE data phase has had its LEN bits: the next one opens with a fresh status byte (R65). -/
def Port.nextPhase (p : Port) : Port := { p with reply := { p.reply with data := [], bits := 0 } }

/-- One SCK cycle of the reply: its transfers go out, if there are any. -/
def State.emit (s : State) (p : PortId) : State :=
  let x := s.port p
  let n := 8 * x.wire.length
  let q := x.reply.bits
  let k := modeBits x.txMode
  if q < n || x.reply.feed == .ones then
    let c0 := cellAt x.wire x.txMode q
    let pacing := x.reply.feed == .progress
    let c := if pacing then padCell x.lenNow.toNat x.txMode q c0 else c0
    let s1 := s.modPort p (fun y => { y with cell := some c, level := c.2, reply := { y.reply with bits := q + k } })
    if pacing then (if x.lenNow.toNat ≤ q + k then s1.modPort p Port.nextPhase else s1)
    else if q < n && n ≤ q + k then s1.partDone p else s1
  else s

/-! ### The status byte (R94, R97, R103) -/

/-- The first bit of the status byte can go out: with strobe once the command has been carried out or has ended (R103),
without it as soon as the wait phase is over. -/
def State.statusDue (s : State) (p : PortId) : Bool :=
  let x := s.port p
  x.hold.isNone && (!x.strobed || (match x.fetch with | some f => s.ripe f || decide (0 < f.index) | none => true))

/-- The status byte with ATTN and BOOT as they stand. -/
def freshByte (status : Byte) (attn boot : Bool) : Byte :=
  (status &&& 0xF6) ||| ((0 : BitVec 4) ++ BitVec.ofBool attn ++ (0 : BitVec 2) ++ BitVec.ofBool boot)

/-- A fetch without strobe whose first stone is not ready: RDY 0 and 1s (R94). The fetch has left no state behind. -/
def State.fetchLate (s : State) (p : PortId) : State :=
  s.modPort p (fun x => { x with
    fetch := none, reading := false, fetchBank := none,
    reply := { x.reply with status := statusByte .notReady (s.attn p) s.bootBit, feed := .ones } })

/-- The content of the status byte is taken, ATTN and BOOT among it (R97).
Log entry 11 (DEDUCED). -/
def State.fixStatus (s : State) (p : PortId) : State :=
  let s1 := s.modPort p (fun x => { x with reply := { x.reply with status := freshByte x.reply.status (s.attn p) s.bootBit } })
  match (s.port p).fetch with
  | some f => if !(s.port p).strobed && !s.ripe f && f.index == 0 then s.fetchLate p else s1
  | none => s1

/-- An SCK cycle after the wait phase. -/
def State.drive (s : State) (p : PortId) : State :=
  let begins := (s.port p).reply.bits = 0
  if begins ∧ s.statusDue p = false then s
  else
    let s1 := if begins then s.fixStatus p else s
    let s2 := if 8 * (s1.port p).wire.length ≤ (s1.port p).reply.bits then s1.pull p else s1
    s2.emit p

/-- A rising SCK edge of a port whose CS# is low: its chain shifter moves (R161), or a cycle of its wait phase or reply
passes (R28). What the cycle carried was taken before this edge.
Log entry 1 (DESIGN CHOICE). -/
def State.clock (s : State) (p : PortId) (dq0 : Bool) : State :=
  let x := s.port p
  if x.chainFrame then s.modPort p (fun y => y.chainShift dq0)
  else if x.txOp.isNone then s
  else
    let s1 := s.modPort p (fun y => { y with cycle := y.cycle + 1, cell := none })
    if x.reply.silent || decide (x.cycle < x.waitCycles) then s1 else s1.drive p

/-! ### Levels (R70, R73, R77, R86, R100, R101, R104, R159 to R161) -/

/-- The port drives its reply lanes: from the falling edge that ends the first wait cycle until CS# rises (R73, R83, R86). -/
def State.replies (s : State) (p : PortId) : Bool :=
  let x := s.port p
  x.low && !x.chainFrame && !x.reply.silent && s.drives p && decide (x.waitCycles = 0 ∨ 2 ≤ x.cycle)

/-- What lane k of the port is driven to in the SCK cycle under way, in its first or second half; none where the FY16 does
not drive it. In 1S the reply lane is DQ1 (R77). Without a transfer the lanes keep their last level, 1 before the first
(R86, R104). -/
def State.dqOut (s : State) (p : PortId) (k : Fin 8) (second : Bool) : Option Bool :=
  let x := s.port p
  let c := x.cell.getD (x.level, x.level)
  let v := if second then c.2 else c.1
  if !s.replies p then none
  else if modeLanes x.txMode = 1 then (if k = 1 then some (v.getLsbD 0) else none)
  else if k.val < modeLanes x.txMode then some (v.getLsbD k.val) else none

/-- HnRDS in an SCK cycle: not driven, at a level, or making edges, after which it is low again. -/
inductive Rds where
  | off
  | level (high : Bool)
  | edges (n : Nat)
  deriving DecidableEq, Repr

/-- HnRDS of a port: chain-out in chain mode, 1 while CS# is high (R159 to R161); in a "+S" mode low from the first wait
cycle on (R100), with one rising edge for each SDR transfer or one edge for each DDR transfer of the reply (R101). -/
def State.rdsOut (s : State) (p : PortId) : Rds :=
  let x := s.port p
  if !s.drives p then .off
  else if !x.csLow then (if x.chainEn then .level true else .off)
  else if x.chainFrame then .level (x.shifter.getLsbD 127)
  else if x.strobed && s.replies p then
    (if x.cell.isSome then .edges (if x.ddr then 2 else 1) else .level false)
  else .off

end Sys2Proof.Machine
end

