-- ==== Sys2Proof/Machine/Pace.lean ====
section
/-! DEFINITION. The pace edge (02, R27 to R59; Table 10.3): which SCK edges are one, and the ordered work of each. -/
namespace Sys2Proof.Machine

/-! ### Time -/

/-- Tick boundaries crossed by an edge of `e` ps (R49). -/
def crossedBy (devtime : BitVec 64) (e : Nat) : Nat :=
  (((devtime + BitVec.ofNat 64 e) >>> 20) - (devtime >>> 20)).toNat % 2 ^ 44

/-- What an operation counts for the edge before, as it stands at that edge's end: ticks token-short (R403) and ticks that
a house operation waited for the floor (R348). A record ages (R253). -/
def State.agedOp (s : State) (n : Nat) (o : Op) : Op :=
  { o with
    short := if s.tokenShort o then o.short + n else 0,
    shortAt := if s.tokenShort o then some (o.shortAt.getD s.pace.devtime) else none,
    floorTicks := if o.house && (o.passed || s.bankShort o) then o.floorTicks + n else 0,
    age := if o.state == .complete then o.age + n else o.age,
    passed := false, fresh := false }

/-- An edge is over for an annex: what it sent, whose turn it was, polls; and a select that was released comes nearer to being
sensed again (R497, R512). -/
def Annex.closeEdge (a : Annex) : Annex :=
  { a with sent := [], turn := 0, unsensed := a.unsensed.map (· - 1), partners := a.partners.map (fun q => { q with polled := false }) }

/-- The edge before is over: what galleries offered, and the marks of that edge.
Log entry 6 (DEDUCED); log entry 68 (DEDUCED). -/
def State.closeEdge (s : State) (n : Nat) : State :=
  let s1 := forEach allGals State.wakeGal s
  { s1 with
    ledger := { s1.ledger with ops := s1.ledger.ops.map (s1.agedOp n) },
    gals := s1.gals.map (fun g => { g with busy := false }),
    upkeep := { s1.upkeep with houseDone := false, passedOver := false },
    glob := { s1.glob with violFresh := false, freshCauses := 0, freshDirect := 0 },
    annex := s1.annex.map Annex.closeEdge }

/-- DEVTIME advances (R49), and the work of Table 10.3 begins anew; a pulse-qualified edge sets PDIV from the holder's PERIOD `p` (R532).
Log entry 70 (DESIGN CHOICE). -/
def Pace.tick (x : Pace) (e p n : Nat) (q : Bool) : Pace :=
  { x with devtime := x.devtime + BitVec.ofNat 64 e, crossed := n, qualified := q, pdiv := if q then pdivOf p else x.pdiv,
           stage := 0 }

/-- A stall-guard trip that closed an open gate is recorded (R59). -/
def State.recordGuard (s : State) : State :=
  if s.pace.guardGals = 0 then s
  else
    let s1 := forEach allGals (fun t g => if s.pace.guardGals.getLsbD g.val then t.addTrace tGuard none 0 (BitVec.ofNat 16 g.val) else t) s
    s1.modPace (fun x => { x with guardTrips := x.guardTrips + 1, guardGals := 0 })

/-- A count of 32 bits that stays at its end. -/
def satAdd (c : BitVec 32) (n : Nat) : BitVec 32 := BitVec.ofNat 32 (min 0xFFFFFFFF (c.toNat + n))

/-- The tick counts of Table 02.3 advance by `n`.
Log entry 58 (DEDUCED). -/
def State.countTicks (s : State) (n : Nat) : State :=
  { s with
    subs := s.subs.map (fun u => u.refill n),
    ports := s.ports.map (fun p => { p with hold := p.hold.map (fun h => { h with ticks := h.ticks + n }) }),
    ledger := { s.ledger with standCount := if s.standing then satAdd s.ledger.standCount n else 0 },
    power := { s.power with
      sampleCount := if s.power.sampleFreeze || s.power.sampleInt == 0 then s.power.sampleCount else s.power.sampleCount + n },
    upkeep := { s.upkeep with scrubTicks := s.upkeep.scrubTicks + n },
    annex := s.annex.map (fun a => { a with
      partners := a.partners.map (fun q => { q with sentTicks := if q.inFlight then q.sentTicks + n else q.sentTicks }) }) }

/-! ### Port tokens (Table 10.4) -/

/-- A port whose CS# is seen low takes its tokens, one whose CS# is seen high returns them (R400). -/
def State.portTokensMove (s : State) : State :=
  let t := s.tokPort
  { s with ports := s.ports.map (fun p =>
      { p with tokens := if p.low then (if p.seenLow then p.tokens else t) else 0, seenLow := p.low }) }

/-- A reservation whose tokens no longer fit beside the ports' ends (R405). -/
def State.checkReservation (s : State) : State := match s.power.reserved with
  | none => s
  | some id => match s.op? id with
    | none => s.modPower (fun w => { w with reserved := none })
    | some o => match s.needs o with
      | some t => if s.power.budget.toNat < t + s.portTokens then s.modPower (fun w => { w with reserved := none }) else s
      | none => s

/-! ### Sensing (R548, R549) -/

def senseMv (mv : Nat) : BitVec 16 := BitVec.ofNat 16 (mv / 10 * 10)

def senseTemp (t : Int) : BitVec 8 := BitVec.ofInt 8 (max (-64) (min 127 t))

/-- VCC and temperature are sampled. -/
def Power.sense (w : Power) (inp : EdgeIn) : Power :=
  let m := senseMv inp.mv
  { w with mv := m, min := if m.toNat < w.min.toNat then m else w.min, temp := if w.hold then w.temp else senseTemp inp.temp }

/-! ### Annexes -/

/-- What the annex pins show, and an annex whose disabling waited for its last operation (R511, R512).
Log entry 50 (DESIGN CHOICE). -/
def State.annexEdge (s : State) (inp : EdgeIn) : State :=
  { s with annex := s.annex.mapFinIdx (fun i x h =>
      let off := x.enOff && !s.annexRunning ⟨i, h⟩
      { x with
        selIn := ~~~ (inp.selLow.extractLsb' (4 * i) 4), sckIn := inp.anxSck.getLsbD i, rdsIn := inp.anxRds.getLsbD i,
        dqIn := inp.anxDq.extractLsb' (4 * i) 4, en := x.en && !off, enOff := x.enOff && !off }) }

/-! ### The edge -/

/-- Boot counts its edges, and waits for pulse-qualified ones where it has a journal copy to repair (R563, R564).
Log entry 25 (DESIGN CHOICE). -/
def Boot.edge (b : Boot) (go : Bool) : Boot :=
  if b.step = 0 then b else { b with cycles := b.cycles + 1, jwait := b.step == 2 && !go }

/-- Steps 1 and 2 of Table 10.3: time, tick counts, meters, what trips left to record, and port tokens. -/
def State.edgeStart (s : State) (e p : Nat) (q : Bool) : State :=
  let n := crossedBy s.pace.devtime e
  let s1 := (((s.closeEdge n).modPace (fun x => x.tick e p n q)).recordGuard).countBrown
  ((((s1.countTicks n).portTokensMove).notePeak).checkReservation).latchWaits

/-- Pulses, reads, pumps and sensors on an edge of `e` ps with stretch `f`; `go`: it is pulse-qualified and BROWN is 0. -/
def State.edgePulses (s : State) (e f : Nat) (go : Bool) (inp : EdgeIn) : State :=
  let n := s.pace.crossed
  let s1 : State := { s with banks := s.banks.map (fun k => k.advance e n go) }
  let s2 := if 0 < n then s1.modPower (fun w => w.sense inp) else s1
  let s3 := (forEach allBanks State.bankGoesOn s2.readsGoOn.stagingEnds).runPumps
  let s4 := if 0 < n then s3.adaptPumps inp.reglow else s3
  if go then s4.startPulses f else s4

/-- The direct fetch that port `p` holds meets its bank on every edge (R316).
Log entry 19 (DEDUCED). -/
def State.heldMeets (s : State) (p : PortId) : State := match (s.port p).hold, (s.port p).fetch with
  | some _, some f => if s.fetchMeetsNext p f == .waits then s.fetchWaits p f.source f.addr else s
  | _, _ => s

/-- The work of a pace edge of port `p`.
Log entry 6 (DEDUCED); log entry 57 (DESIGN CHOICE). -/
def State.edge (s : State) (p : PortId) (inp : EdgeIn) : State :=
  let e := (s.port p).edgePs
  let q := (s.port p).qualifies
  let go := q && !s.power.brown
  let period := (s.port p).periodNow.toNat
  let s1 := (forEach allPorts State.heldMeets
    ((s.edgeStart e period q).sampleWp.edgePulses e (stretchOf period) go inp)).annexEdge inp
  s1.modBoot (fun b => b.edge go)

/-- The conditions of R604 hold for the sensed VCC: 3.6 V, read within 30 mV (R548).
Log entry 8 (DESIGN CHOICE). -/
def vccInRange (mv : Nat) : Bool := decide (mv ≤ 3630)

def State.paceEdgeOf (s : State) (p : PortId) (inp : EdgeIn) : Outcome :=
  if vccInRange inp.mv then .next (s.edge p inp) else .fault .outsideOperatingConditions

/-- The pace side of a rising SCK edge: a synchronising edge of the holder, or of an old holder that still owes some, is
no pace edge (R35, R36); the first pace edge of the nominated port ends the old holder's (R34). -/
def State.paceSide (s : State) (p : PortId) (inp : EdgeIn) : Outcome :=
  if s.pace.holder = some p then
    (if 0 < s.pace.sync then .next (s.modPace (fun x => { x with sync := x.sync - 1 }))
     else (s.modPace (fun x => { x with oldPacer := none, oldSync := 0 })).paceEdgeOf p inp)
  else if s.pace.oldPacer = some p then
    (if 0 < s.pace.oldSync then .next (s.modPace (fun x => { x with oldSync := x.oldSync - 1 })) else s.paceEdgeOf p inp)
  else .next s

/-- PACE_EDGE (R27, R28, R34 to R37): a rising SCK edge of port `p` while its CS# is low. What the port's lanes carry moves
on with it; it is a pace edge of the holder after its two synchronising edges, or of the old holder up to the nominated
port's first.
Log entry 1 (DESIGN CHOICE); log entry 8 (DESIGN CHOICE). -/
def execPaceEdge (p : PortId) (inp : EdgeIn) (s : State) : Outcome :=
  if !(s.port p).low then .next s else (s.clock p inp.dq0).paceSide p inp

/-! ### Supply groups (R526) -/

/-- SUPPLY_GROUP_LOSS: groups VCCQ0 to VCCQ3 serve two host ports each, group 4 is VCCQA.
Log entry 53 (DEDUCED). -/
def execSupplyGroupLoss (grp : Fin 5) (s : State) : Outcome :=
  .next { s with
    pins := { s.pins with supply := s.pins.supply &&& ~~~ ((1 : BitVec 5) <<< grp.val) },
    ports := s.ports.mapFinIdx (fun i p _ =>
      if i / 2 = grp.val then { p with reply := Reply.none, cell := none, level := 0xFF } else p) }

/-- SUPPLY_GROUP_RETURN.
Log entry 53 (DEDUCED). -/
def execSupplyGroupReturn (grp : Fin 5) (s : State) : Outcome :=
  .next { s with pins := { s.pins with supply := s.pins.supply ||| (1 <<< grp.val) } }

end Sys2Proof.Machine
end

