-- ==== Sys2Proof/Machine/Life.lean ====
section
/-! DEFINITION. The life-cycle and start-up rows: REGRESS's journal record, the ends of journal and plinth writes (12, 15),
and boot (15, R559 to R571). -/
namespace Sys2Proof.Machine

/-! ### Plinth writes run on pulse-qualified edges without brown-out (R449, R545) -/

/-- Log entry 63 (DEDUCED). -/
def State.plinthRuns (s : State) : Bool := s.pace.qualified && !s.power.brown

/-! ### Gate images (R436) -/

/-- A gate loads an image: STRICT and regions with EN at 0, then the enable check where the image holds EN 1.
Log entry 22 (DEDUCED). -/
def State.loadGate (s : State) (g : GateId) (i : GateImage) : State :=
  let s1 := s.modGate g (fun x => { x with en := false, strict := i.strict, regions := i.regions })
  if i.en then s1.enableGate g else s1

/-! ### REGRESS (R450, R451) -/

/-- The committed REGRESS that has not begun. -/
def State.regressOp (s : State) : Option Op :=
  s.ledger.ops.find? (fun o => o.opcode == opRegress && !o.isDirect && o.state == .queued && s.linksOk o)

/-- No other operation of the ledger is at work, and no port has DIRECT_BUSY (R451). -/
def State.drained (s : State) (o : Op) : Bool :=
  s.ledger.ops.all (fun x => x.id == o.id || (x.state == .complete && !x.isDirect))

/-- REGRESS_BEGIN (R451): the record is written, or waits for WP# (Table 12.8). BOUND, which cannot be left, may have come
into force since the admission.
Log entry 23 (DEDUCED). -/
def execRegressBegin (s : State) : Outcome :=
  s.onEdge (match s.regressOp with
    | none => s
    | some o =>
      if !s.draining || !s.drained o || s.plinth.jwrite.isSome then s
      else if !s.pins.wp then s.modLife (fun l => { l with wpwait := true })
      else if s.levelNow ≠ 1 then (s.modLife (fun l => { l with phase := 0, wpwait := false })).complete o.id rDenied
      else ((s.modLife (fun l => { l with wpwait := false })).modOp o.id
        (fun x => { x with state := .running, work := .lifecycle })).startJournal kRegressBegin 1 .begin)

/-! ### Journal records that read back good -/

/-- A LEVEL_RAISE takes effect (R447, R431). -/
def State.raised (s : State) (id : Nat) (level : BitVec 2) : State :=
  (((s.modLife (fun l => { l with level := level })).bumpEpochs).cause cLevel).complete id rDone

/-- Regression becomes pending (R451, R452). A fetch that runs or streams stops at its next stone, where it meets this (R639).
Log entry 20 (DEDUCED); log entry 22 (DEDUCED). -/
def State.regressionBegins (s : State) : State := s.startRegression.cause cLevel

/-- The REGRESS that the ledger holds, once its record has begun. -/
def State.runningRegress (s : State) : Option Op :=
  s.ledger.ops.find? (fun o => o.opcode == opRegress && !o.isDirect && o.state == .running)

/-- OPEN takes effect (R456): with the level the epoch of every enabled gate changes (R431), then every gate loads its
shipment image, and the REGRESS completes.
Log entry 22 (DEDUCED). -/
def State.openAgain (s : State) : State :=
  let s1 := (s.modLife (fun l => { l with level := 0, regPending := false, phase := 0, finals := false })).bumpEpochs
  let s2 := (forEach allGates (fun t g => t.loadGate g GateImage.shipment) s1).cause cLevel
  match s2.runningRegress with
  | none => s2
  | some o => (s2.modOp o.id (fun x => { x with units := BitVec.setWidth 32 s2.life.cleared })).complete o.id rDone

/-! ### Boot -/

/-- Boot step 1: straps, VCCQ bands, VCC and temperature (R121, R154, R548, R549). -/
def State.bootSense (s : State) (inp : BootIn) : State :=
  let m := senseMv inp.mv
  { s with
    ports := s.ports.mapFinIdx (fun i p h => { p with
      chipid := inp.chipid,
      vqband := s.bandOf ⟨i, h⟩ (inp.bands[i / 2]'(by omega)) })
    power := { s.power with mv := m, min := m, temp := if s.power.hold then s.power.temp else senseTemp inp.temp }
    pins := { s.pins with chipid := inp.chipid } }

/-- Boot step 2: the state of Table 12.5, and JBAD (R461). -/
def State.bootJournal (s : State) : State :=
  let s1 := s.modLife (fun l => { l with jbad := !s.plinth.jA.valid || !s.plinth.jB.valid })
  let pending := s1.modLife (fun l => { l with regPending := true, phase := 2 })
  match s.plinth.newer with
  | none => pending
  | some b =>
    let c := s.plinth.copy b
    if c.kind = kLevelSet then s1.modLife (fun l => { l with level := BitVec.setWidth 2 c.level })
    else if c.kind = kRegressBegin then pending
    else s1.modLife (fun l => { l with level := 0 })

/-- Exactly one journal copy is invalid (R564). -/
def Plinth.needsRepair (p : Plinth) : Bool := p.jA.valid != p.jB.valid

/-- A record taken from its second copy sets COPY2 (R567). -/
def State.noteCopy (s : State) (second : Bool) : State :=
  if second then s.modBoot (fun b => { b with copy2 := true }) else s

/-- What stands for a configuration record without a valid copy (Table 15.5). -/
def CfgRec.lost : CfgRec := { priv := 1, lock := 0xFFFF, hide := 0xFFFF, mapmode := 0xFFFFFFFFFFFFFFFF, booten := 0 }

/-- PRIV, MARK_LOCK, MAPMODE and every BOOTEN. -/
def State.setConfig (s : State) (c : CfgRec) : State :=
  { s with
    life := { s.life with priv := c.priv, lock := c.lock, hide := c.hide }
    glob := { s.glob with mapmode := c.mapmode }
    ports := s.ports.mapFinIdx (fun i p _ => { p with booten := c.booten.getLsbD i }) }

/-- Boot step 3. -/
def State.bootConfig (s : State) : State := match s.plinth.config.newest with
  | some (c, second) => (s.setConfig c).noteCopy second
  | none => (s.setConfig CfgRec.lost).modBoot (fun b => { b with cfgbad := true })

/-- Boot step 4 for one bank; a bank whose record has no valid copy is closed (Table 15.5). -/
def State.bootBank (s : State) (b : Fin 64) : State := match s.plinth.banks[b.val].newest with
  | some (r, second) => (s.modBank (bankIx b) (fun k => { k with kept := r })).noteCopy second
  | none => s.modBoot (fun x => { x with closed := x.closed ||| (1 <<< b.val) })

/-- Boot step 5 for one gate (R436, Table 15.5).
Log entry 22 (DEDUCED); log entry 54 (DEDUCED). -/
def State.bootGate (s : State) (g : GateId) : State := match s.plinth.images[g.val].newest with
  | some (i, second) => (s.loadGate g i).noteCopy second
  | none =>
    (s.modGate g (fun x => { x with strict := true, regions := Vector.replicate 8 0, en := true, epoch := 1 })).modBoot
      (fun x => { x with imgbad := x.imgbad + 1 })

/-- Slots of a bank that step 6 sets to RESERVE or GAP (R569). -/
def BankRec.unsettled (r : BankRec) (b : BankId) : List Nat :=
  (List.range 544).filter (fun k => r.tidy.contains k || r.slotState b k == .kiln)

/-- Log entry 27 (DEDUCED). -/
def BankRec.tidyUp (r : BankRec) (b : BankId) : BankRec :=
  (r.unsettled b).foldl (fun x k => x.setSlot b k (if r.gap = some k then .gap else .reserve)) r

/-- Boot step 6 for one bank: tidy list and KILN slots; a RESERVE slot that appears becomes a missing gap (R358). No plinth
write (R560). The bank is WORN from here on as its reserve count has it.
Log entry 27 (DEDUCED). -/
def State.bootTidy (s : State) (b : Fin 64) : State :=
  if s.closedBank b then s
  else
    let s1 := (s.modBank (bankIx b) (fun k => { k with kept := k.kept.tidyUp (bankIx b) })).refillGap (bankIx b)
    s1.modBank (bankIx b) (fun k => { k with worn := decide (k.kept.reserveCount (bankIx b) < 4) })

/-- Boot steps 3 to 6; step 7 is then in progress.
Log entry 25 (DESIGN CHOICE). -/
def State.bootRest (s : State) : State :=
  let s1 := forEach mainBanks State.bootBank s.bootConfig
  let s2 := forEach mainBanks State.bootTidy (forEach allGates State.bootGate s1)
  s2.modBoot (fun b => { b with step := 7, jwait := false })

/-- After step 2: the repair of R564, its skipping under WP#, or step 3.
Log entry 25 (DESIGN CHOICE). -/
def State.afterJournal (s : State) : State :=
  if !s.plinth.needsRepair then s.bootRest
  else if !s.pins.wp then (s.modBoot (fun b => { b with jskip := true })).bootRest
  else s.modBoot (fun b => { b with step := 2, jwait := !s.plinthRuns })

/-- BOOT (R561): from the first pace edge after a device-wide reset.
Log entry 8 (DESIGN CHOICE); log entry 25 (DESIGN CHOICE). -/
def execBoot (inp : BootIn) (s : State) : Outcome :=
  if s.pace.holder.isNone ∨ s.boot.step ≠ 1 ∨ s.boot.cycles = 0 then .next s
  else if vccInRange inp.mv then .next (((s.bootSense inp).bootJournal).afterJournal)
  else .fault .outsideOperatingConditions

/-- The record of the repair: the KIND and LEVEL of the valid copy, in the other one (R564, R460). -/
def State.startRepair (s : State) : State := match s.plinth.newer with
  | none => s
  | some b => s.startJournal (s.plinth.copy b).kind (s.plinth.copy b).level .repair

/-- JOURNAL_REPAIR (R564): the write begins once pulse-qualified edges come; under WP# low boot goes on without it.
Log entry 25 (DESIGN CHOICE). -/
def execJournalRepair (s : State) : Outcome :=
  s.onEdge (
    if s.boot.step ≠ 2 ∨ s.plinth.jwrite.isSome then s
    else if !s.pins.wp then (s.modBoot (fun b => { b with jskip := true })).bootRest
    else if s.plinthRuns then s.startRepair.modBoot (fun b => { b with jwait := false })
    else s)

/-- BOOT_END (R152, R565): every HnCHAIN.EN takes its BOOTEN. A regression that is pending starts from its first unit
(R457).
Log entry 25 (DESIGN CHOICE). -/
def execBootEnd (s : State) : Outcome :=
  s.onEdge (
    if s.boot.step ≠ 7 then s
    else
      let s1 := ({ s with ports := s.ports.map (fun p => { p with chainEn := p.booten }) } : State).modBoot (fun b => { b with step := 0 })
      if s1.life.regPending then s1.startRegression else s1)

/-! ### Ends of writes -/

/-- A journal copy holds its record. -/
def Plinth.recordWritten (p : Plinth) (j : JWrite) : Plinth :=
  let c : JCopy := { w0 := j.w0, w1 := j.w1, broken := false }
  if j.copy then { p with jB := c, jwrite := none } else { p with jA := c, jwrite := none }

/-- What a record that reads back good brings about. -/
def State.recordActs (s : State) (j : JWrite) : State := match j.purpose with
  | .raise id => s.raised id (BitVec.setWidth 2 (j.w0.extractLsb' 32 8))
  | .begin => s.regressionBegins
  | .done => s.openAgain
  | .repair => s.bootRest

/-- JOURNAL_WRITE_DONE (R447, R451, R456, R564): the record reads back with a good CRC; what waited for the journal may go
on. -/
def execJournalWriteDone (s : State) : Outcome :=
  s.onEdge (match s.plinth.jwrite with
    | none => s
    | some j =>
      if !s.plinthRuns then s
      else
        let s1 := (s.modPlinth (fun p => p.recordWritten j)).recordActs j
        if s1.booting then s1 else s1.tryRaise.finishRegression)

/-- The copy being written at the head of the queue reads back good (R559).
Log entry 47 (DEDUCED). -/
def Plinth.copyDone (p : Plinth) (wp : Bool) : Plinth := match p.queue with
  | [] => p
  | d :: r =>
    if p.second then ({ p.onCopies d (fun c a => c.write2 a) with queue := r, begun := false } : Plinth).goOn wp
    else { p.onCopies d (fun c a => c.write1 a) with second := true }

/-- PLINTH_COPY_DONE (R559): the first copy reads back good and the second is started; or the second does, and the next
write begins, unless WP# is low (R469).
Log entry 63 (DEDUCED). -/
def execPlinthCopyDone (s : State) : Outcome :=
  s.onEdge (if !s.plinth.begun || !s.plinthRuns then s
    else (s.modPlinth (fun p => p.copyDone s.pins.wp)).finishRegression)

end Sys2Proof.Machine
end

