-- ==== Sys2Proof/Machine/Dispatch.lean ====
section
/-! DEFINITION. The meaning of each command: one arm per constructor of Instr. -/
namespace Sys2Proof.Machine

/-- The effect of a command on everything but the queue. -/
def exec (i : Instr) (s : State) : Host.Outcome State Fault Refusal :=
  match i with
  | .powerOnReset tripped => Sys2Proof.Machine.execPowerOnReset tripped s
  | .resetPin ns => Sys2Proof.Machine.execResetPin ns s
  | .brownOutTrip => Sys2Proof.Machine.execBrownOutTrip s
  | .brownOutRelease => Sys2Proof.Machine.execBrownOutRelease s
  | .stallGuardTrip => Sys2Proof.Machine.execStallGuardTrip s
  | .wpHigh => Sys2Proof.Machine.execWpHigh s
  | .csFall falls sck => Sys2Proof.Machine.execCsFall falls sck s
  | .csRise rises rise => Sys2Proof.Machine.execCsRise rises rise s
  | .paceEdge p inp => Sys2Proof.Machine.execPaceEdge p inp s
  | .pulseEnd b layOk clearOk => Sys2Proof.Machine.execPulseEnd b layOk clearOk s
  | .pumpReady g clearPump => Sys2Proof.Machine.execPumpReady g clearPump s
  | .fetch tx addr flips probe rx => Sys2Proof.Machine.execFetch tx addr flips probe rx s
  | .heldFetchServed p flips rx => Sys2Proof.Machine.execHeldFetchServed p flips rx s
  | .holdExpired p => Sys2Proof.Machine.execHoldExpired p s
  | .rawFetch tx bank stone flips => Sys2Proof.Machine.execRawFetch tx bank stone flips s
  | .arm tx => Sys2Proof.Machine.execArm tx s
  | .lay tx addr count payload crc => Sys2Proof.Machine.execLay tx addr count payload crc s
  | .clearBlock tx addr crc => Sys2Proof.Machine.execClearBlock tx addr crc s
  | .clearFooting tx addr crc => Sys2Proof.Machine.execClearFooting tx addr crc s
  | .suspend tx addr => Sys2Proof.Machine.execSuspend tx addr s
  | .resume tx addr => Sys2Proof.Machine.execResume tx addr s
  | .regrd tx regnum => Sys2Proof.Machine.execRegrd tx regnum s
  | .regwr tx count entries => Sys2Proof.Machine.execRegwr tx count entries s
  | .pace tx => Sys2Proof.Machine.execPace tx s
  | .status tx => Sys2Proof.Machine.execStatus tx s
  | .ident tx => Sys2Proof.Machine.execIdent tx s
  | .sfdp tx addr pad => Sys2Proof.Machine.execSfdp tx addr pad s
  | .collect tx mode pad => Sys2Proof.Machine.execCollect tx mode pad s
  | .peek tx mode pad => Sys2Proof.Machine.execPeek tx mode pad s
  | .softReset tx second => Sys2Proof.Machine.execSoftReset tx second s
  | .unknownOpcode tx op => Sys2Proof.Machine.execUnknownOpcode tx op s
  | .propose tx offer band crc => Sys2Proof.Machine.execPropose tx offer band crc s
  | .sweep tx samples => Sys2Proof.Machine.execSweep tx samples s
  | .confirm tx code ncode crc => Sys2Proof.Machine.execConfirm tx code ncode crc s
  | .revert tx sub crc => Sys2Proof.Machine.execRevert tx sub crc s
  | .chainNop p edges seg => Sys2Proof.Machine.execChainNop p edges seg s
  | .chainRegwr p edges seg => Sys2Proof.Machine.execChainRegwr p edges seg s
  | .chainExit p edges seg => Sys2Proof.Machine.execChainExit p edges seg s
  | .ledgerFetch tx pkt => Sys2Proof.Machine.execLedgerFetch tx pkt s
  | .ledgerLay tx pkt payload pcrc => Sys2Proof.Machine.execLedgerLay tx pkt payload pcrc s
  | .ledgerClear tx pkt => Sys2Proof.Machine.execLedgerClear tx pkt s
  | .ledgerClearFoot tx pkt => Sys2Proof.Machine.execLedgerClearFoot tx pkt s
  | .haul tx pkt payload pcrc => Sys2Proof.Machine.execHaul tx pkt payload pcrc s
  | .kiln tx pkt => Sys2Proof.Machine.execKiln tx pkt s
  | .repoint tx pkt => Sys2Proof.Machine.execRepoint tx pkt s
  | .signal tx pkt => Sys2Proof.Machine.execSignal tx pkt s
  | .signalComplete k => Sys2Proof.Machine.execSignalComplete k s
  | .fence tx pkt => Sys2Proof.Machine.execFence tx pkt s
  | .fenceComplete k => Sys2Proof.Machine.execFenceComplete k s
  | .cancel tx pkt => Sys2Proof.Machine.execCancel tx pkt s
  | .ledgerSuspend tx pkt => Sys2Proof.Machine.execLedgerSuspend tx pkt s
  | .ledgerResume tx pkt => Sys2Proof.Machine.execLedgerResume tx pkt s
  | .levelRaise tx pkt => Sys2Proof.Machine.execLevelRaise tx pkt s
  | .regress tx pkt => Sys2Proof.Machine.execRegress tx pkt s
  | .regressBegin => Sys2Proof.Machine.execRegressBegin s
  | .regressionClear g => Sys2Proof.Machine.execRegressionClear g s
  | .journalWriteDone => Sys2Proof.Machine.execJournalWriteDone s
  | .plinthCopyDone => Sys2Proof.Machine.execPlinthCopyDone s
  | .dispatch g flips rx => Sys2Proof.Machine.execDispatch g flips rx s
  | .floor g flips rx => Sys2Proof.Machine.execFloor g flips rx s
  | .reservation => Sys2Proof.Machine.execReservation s
  | .blockUnsettled r => Sys2Proof.Machine.execBlockUnsettled r s
  | .layEnd b => Sys2Proof.Machine.execLayEnd b s
  | .relocation b => Sys2Proof.Machine.execRelocation b s
  | .clearUnitEnd b => Sys2Proof.Machine.execClearUnitEnd b s
  | .firingStageEnd b => Sys2Proof.Machine.execFiringStageEnd b s
  | .repointReadEnd k b => Sys2Proof.Machine.execRepointReadEnd k b s
  | .fetchComplete k n rx => Sys2Proof.Machine.execFetchComplete k n rx s
  | .suspendedEntry b => Sys2Proof.Machine.execSuspendedEntry b s
  | .deferredGrant b => Sys2Proof.Machine.execDeferredGrant b s
  | .autoResume b => Sys2Proof.Machine.execAutoResume b s
  | .standstill => Sys2Proof.Machine.execStandstill s
  | .lapse k => Sys2Proof.Machine.execLapse k s
  | .sample => Sys2Proof.Machine.execSample s
  | .kilnDuty => Sys2Proof.Machine.execKilnDuty s
  | .slideDuty => Sys2Proof.Machine.execSlideDuty s
  | .scrubDuty => Sys2Proof.Machine.execScrubDuty s
  | .tidyKiln => Sys2Proof.Machine.execTidyKiln s
  | .poll a p sr rx => Sys2Proof.Machine.execPoll a p sr rx s
  | .partnerTimeout a p => Sys2Proof.Machine.execPartnerTimeout a p s
  | .rdsEdgeMissing a p rx => Sys2Proof.Machine.execRdsEdgeMissing a p rx s
  | .modf a p => Sys2Proof.Machine.execModf a p s
  | .boot inp => Sys2Proof.Machine.execBoot inp s
  | .journalRepair => Sys2Proof.Machine.execJournalRepair s
  | .bootEnd => Sys2Proof.Machine.execBootEnd s
  | .declarePeriod tx n v => Sys2Proof.Machine.execDeclarePeriod tx n v s
  | .pacePolicy tx v => Sys2Proof.Machine.execPacePolicy tx v s
  | .waits tx n v => Sys2Proof.Machine.execWaits tx n v s
  | .len tx n v => Sys2Proof.Machine.execLen tx n v s
  | .chainModeEnable tx n v => Sys2Proof.Machine.execChainModeEnable tx n v s
  | .booten tx n v => Sys2Proof.Machine.execBooten tx n v s
  | .subscriberMask tx n v => Sys2Proof.Machine.execSubscriberMask tx n v s
  | .quota tx idx v => Sys2Proof.Machine.execQuota tx idx v s
  | .forget tx v => Sys2Proof.Machine.execForget tx v s
  | .eventSet tx v => Sys2Proof.Machine.execEventSet tx v s
  | .eventClr tx v => Sys2Proof.Machine.execEventClr tx v s
  | .ledgerSel tx v => Sys2Proof.Machine.execLedgerSel tx v s
  | .empty tx v => Sys2Proof.Machine.execEmpty tx v s
  | .mapmode tx v => Sys2Proof.Machine.execMapmode tx v s
  | .plumbWrite tx b v => Sys2Proof.Machine.execPlumbWrite tx b v s
  | .tampWrite tx g v => Sys2Proof.Machine.execTampWrite tx g v s
  | .kilnAt tx v => Sys2Proof.Machine.execKilnAt tx v s
  | .fixmax tx v => Sys2Proof.Machine.execFixmax tx v s
  | .meterBurstWrite tx idx peak v => Sys2Proof.Machine.execMeterBurstWrite tx idx peak v s
  | .fill tx idx v => Sys2Proof.Machine.execFill tx idx v s
  | .clearmax tx v => Sys2Proof.Machine.execClearmax tx v s
  | .tokenwait tx v => Sys2Proof.Machine.execTokenwait tx v s
  | .pumpWrite tx g clearPump v => Sys2Proof.Machine.execPumpWrite tx g clearPump v s
  | .peakclr tx v => Sys2Proof.Machine.execPeakclr tx v s
  | .minclr tx v => Sys2Proof.Machine.execMinclr tx v s
  | .gateEnable tx g v => Sys2Proof.Machine.execGateEnable tx g v s
  | .gateDisable tx g v => Sys2Proof.Machine.execGateDisable tx g v s
  | .save tx g v => Sys2Proof.Machine.execSave tx g v s
  | .privWrite tx v => Sys2Proof.Machine.execPrivWrite tx v s
  | .lock tx v => Sys2Proof.Machine.execLock tx v s
  | .hide tx v => Sys2Proof.Machine.execHide tx v s
  | .div tx a v => Sys2Proof.Machine.execDiv tx a v s
  | .partnerEnable tx a p v => Sys2Proof.Machine.execPartnerEnable tx a p v s
  | .gpioWrite tx a v => Sys2Proof.Machine.execGpioWrite tx a v s
  | .manualOn tx a v => Sys2Proof.Machine.execManualOn tx a v s
  | .manualon a => Sys2Proof.Machine.execManualon a s
  | .manualOff tx a v => Sys2Proof.Machine.execManualOff tx a v s
  | .annexEnable tx a v => Sys2Proof.Machine.execAnnexEnable tx a v s
  | .annexDisable tx a v => Sys2Proof.Machine.execAnnexDisable tx a v s
  | .reclaim tx a v => Sys2Proof.Machine.execReclaim tx a v s
  | .fencedClear tx a p v => Sys2Proof.Machine.execFencedClear tx a p v s
  | .wpLow => Sys2Proof.Machine.execWpLow s
  | .supplyGroupLoss grp => Sys2Proof.Machine.execSupplyGroupLoss grp s
  | .supplyGroupReturn grp => Sys2Proof.Machine.execSupplyGroupReturn grp s

end Sys2Proof.Machine
end

