-- ==== Sys2Proof/Safety.lean ====
section
/-! DEFINITION. The terms that claims use: which commands a port receives, which packets admission lets through, what a
write of a register comes to, which invariants a good state has. -/
namespace Sys2Proof.Machine

/-- An outcome is a next state with property `P`. -/
def Gives (o : Outcome) (P : State → Prop) : Prop := ∃ t, o = .next t ∧ P t

/-! ### Invariants -/

/-- The port that holds pace has its CS# low, and it counts as low (R27, R31, R556). -/
def State.holderLow (s : State) : Bool := match s.pace.holder with
  | none => true
  | some p => (s.port p).low

/-- Every operation has a name of its own, below the next name, and no two share a slot or a port's direct place (R211,
R213, R181). -/
def State.ledgerOk (s : State) : Bool :=
  decide ((s.ledger.ops.map (·.id)).Nodup) && decide ((s.ledger.ops.map (·.origin)).Nodup)
    && s.ledger.ops.all (fun o => decide (o.id < s.ledger.nextId))

/-- A row of work that Table 10.3 places at `k` has its place now: a port paces, and the work of the last pace edge has not
gone past it (R392). -/
def State.onTime (s : State) (k : Nat) : Bool := s.pace.holder.isSome && decide (s.pace.stage ≤ k)

/-- The state after a row of work at place `k`. -/
def State.atStage (s : State) (k : Nat) : State := s.modPace (fun x => { x with stage := k })

/-- The place of a row of work in the order of Table 10.3, where it gives the row one (R223, R392). -/
def placeOf : Instr → Option Nat
  | .layEnd _ => some orderEnds
  | .blockUnsettled _ => some orderEnds
  | .clearUnitEnd _ => some orderEnds
  | .firingStageEnd _ => some orderEnds
  | .repointReadEnd _ _ => some orderEnds
  | .fetchComplete _ _ _ => some orderEnds
  | .rdsEdgeMissing _ _ _ => some orderEnds
  | .poll _ _ _ _ => some orderEnds
  | .partnerTimeout _ _ => some orderEnds
  | .modf _ _ => some orderEnds
  | .signalComplete _ => some orderEvents
  | .fenceComplete _ => some orderEvents
  | .ledgerFetch tx _ => some (orderPacket tx.port)
  | .ledgerLay tx _ _ _ => some (orderPacket tx.port)
  | .ledgerClear tx _ => some (orderPacket tx.port)
  | .ledgerClearFoot tx _ => some (orderPacket tx.port)
  | .haul tx _ _ _ => some (orderPacket tx.port)
  | .kiln tx _ => some (orderPacket tx.port)
  | .repoint tx _ => some (orderPacket tx.port)
  | .signal tx _ => some (orderPacket tx.port)
  | .fence tx _ => some (orderPacket tx.port)
  | .cancel tx _ => some (orderPacket tx.port)
  | .ledgerSuspend tx _ => some (orderPacket tx.port)
  | .ledgerResume tx _ => some (orderPacket tx.port)
  | .levelRaise tx _ => some (orderPacket tx.port)
  | .regress tx _ => some (orderPacket tx.port)
  | .tidyKiln => some orderHouse
  | .kilnDuty => some orderHouse
  | .slideDuty => some orderHouse
  | .scrubDuty => some orderHouse
  | .relocation _ => some orderHouse
  | .reservation => some orderReserve
  | .dispatch g _ _ => some (orderGallery g)
  | .floor g _ _ => some (orderGallery g)
  | .sample => some orderSample
  | _ => none

/-- No CS# is low and no port holds pace: the state that R26 speaks of. -/
def State.quiet (s : State) : Bool := s.ports.toList.all (fun p => !p.csLow) && s.pace.holder.isNone

/-- Commands that are not work of a pace edge or of a transaction: a CS# fall, and what R26 excepts with the pins that
reach the FY16 besides CS#. -/
def isOutside : Instr → Bool
  | .powerOnReset _ => true
  | .resetPin _ => true
  | .brownOutTrip => true
  | .stallGuardTrip => true
  | .wpHigh => true
  | .wpLow => true
  | .supplyGroupLoss _ => true
  | .supplyGroupReturn _ => true
  | .csFall _ _ => true
  | _ => false

/-- Commands that move WP# or a supply, which the FY16 only senses. -/
def isPinMove : Instr → Bool
  | .wpHigh => true
  | .wpLow => true
  | .supplyGroupLoss _ => true
  | .supplyGroupReturn _ => true
  | _ => false

/-- Commands that can change a cell of the array: resets cut operations off, and lays and clears end. -/
def mayChangeCells : Instr → Bool
  | .powerOnReset _ => true
  | .resetPin _ => true
  | .csRise _ _ => true
  | .layEnd _ => true
  | .clearUnitEnd _ => true
  | .firingStageEnd _ => true
  | _ => false

/-- Commands that move device time. -/
def movesTime : Instr → Bool
  | .powerOnReset _ => true
  | .resetPin _ => true
  | .paceEdge _ _ => true
  | _ => false

/-! ### Resets -/

/-- A device-wide reset of `s` has left `t`, DEVTIME aside: every register at its value at release (R600), CS# as it stands
and not counted where it is low (R556), pins and plinth kept but for writes under way, with the BOOT registers given and
the brown-out detector as `tripped` has it. -/
def State.resetInto (s t : State) (boot : Boot) (tripped : Bool) : Prop :=
  t.ledger = Ledger.reset ∧ t.subs = State.reset.subs ∧ t.gals = State.reset.gals ∧ t.banks = State.reset.banks
  ∧ t.gates = State.reset.gates ∧ t.life = Life.reset ∧ t.upkeep = Upkeep.reset ∧ t.trace = Trace.reset ∧ t.glob = Glob.reset
  ∧ t.boot = boot ∧ t.power = { Power.reset with detector := tripped, brown := tripped }
  ∧ (∀ p : PortId, t.port p = { Port.reset p with csLow := (s.port p).csLow, waitRise := (s.port p).csLow })
  ∧ (∀ a : AnnexId, t.anx a =
      { Annex.reset with selIn := (s.anx a).selIn, sckIn := (s.anx a).sckIn, rdsIn := (s.anx a).rdsIn, dqIn := (s.anx a).dqIn })
  ∧ t.plinth.config = s.plinth.config ∧ t.plinth.images = s.plinth.images ∧ t.plinth.banks = s.plinth.banks
  ∧ t.plinth.wear = s.plinth.wear ∧ t.plinth.queue = [] ∧ t.plinth.begun = false ∧ t.plinth.jwrite = none
  ∧ (s.plinth.jwrite = none → t.plinth.jA = s.plinth.jA ∧ t.plinth.jB = s.plinth.jB)
  ∧ t.pins = s.pins ∧ t.pending = s.pending

/-- A lay whose pulses have started, or a clear, of bank `b` works on the physical stone number `n`. -/
def State.worksOn (s : State) (b : BankId) (n : Nat) : Bool :=
  (match (s.bank b).lay with
    | some l => (l.pulse.isSome || decide (0 < l.pulses)) && l.targets.any (fun e => e.1 == n)
    | none => false)
  || (match (s.bank b).clear with
    | some c => !c.held && !c.boundary && decide ((c.unit.range b).1 ≤ n ∧ n < (c.unit.range b).2)
    | none => false)

/-! ### Transactions -/

/-- The port of `tx` receives a command now, and carries it past the command phase: CS# is low, no opcode came before,
a port paces, the port is not on trial, and in the double-data-rate modes the complement byte is right. -/
def State.listens (s : State) (tx : Tx) : Bool :=
  s.hears tx.port && !(s.port tx.port).trial && (!(s.port tx.port).ddr || tx.compl)

/-- As `listens`, and the reply is ready in time (R92, R94).
Log entry 66 (DEDUCED). -/
def State.takes (s : State) (tx : Tx) : Bool := s.listens tx && s.inTime tx

/-- What a received command phase of opcode `op` leaves: the cycles of the wait phase so far, with the lanes at 1, LASTOP,
the drift counts and SILENT 0. -/
def State.received (s : State) (tx : Tx) (op : Byte) : State :=
  s.modPort tx.port (fun x =>
    { Port.track { x with cycle := tx.waited, cell := none, level := 0xFF, txOp := some op, lastop := op } tx.drift with
      silent := 0 })

/-- As `takes`, for SWEEP, CONFIRM and REVERT on a port on trial (R129). -/
def State.takesOnTrial (s : State) (tx : Tx) : Bool :=
  s.hears tx.port && (s.port tx.port).trial && (!(s.port tx.port).ddr || tx.compl) && s.inTime tx

/-- The reply that a command leaves on a port whose supply is there: status byte, data, and what follows them; no bit has
gone out yet. -/
def State.replyFed (s : State) (p : PortId) (c : Cond) (data : List Byte) (feed : Feed) : Reply :=
  if s.drives p then
    { silent := false, status := statusByte c (s.attn p) s.bootBit, data := data, feed := feed, bits := 0, shown := [] }
  else Reply.none

/-- A reply of status byte and data, with 1s after them. -/
def State.replyOf (s : State) (p : PortId) (c : Cond) (data : List Byte) : Reply := s.replyFed p c data .ones

/-- The next rising SCK edge of port `p`, which does not pace, is a cycle of its reply: CS# is low outside chain mode, an opcode
has come, the port drives, and its wait cycles are over. -/
def State.replyCycle (s : State) (p : PortId) : Bool :=
  (s.port p).low && s.pace.holder != some p && s.pace.oldPacer != some p && !(s.port p).chainFrame && (s.port p).txOp.isSome
    && !(s.port p).reply.silent && decide ((s.port p).waitCycles ≤ (s.port p).cycle)

/-- That cycle opens the reply of a transaction that fetches nothing: it carries the first bits of the status byte. -/
def State.replyOpens (s : State) (p : PortId) : Bool :=
  s.replyCycle p && (s.port p).reply.bits == 0 && (s.port p).fetch.isNone && (s.port p).hold.isNone

/-- That cycle is a later one of the reply. -/
def State.replyNext (s : State) (p : PortId) : Bool := s.replyCycle p && decide (0 < (s.port p).reply.bits)

/-- On a later cycle everything that the model has decided of the reply so far has gone out. -/
def State.owesNext (s : State) (p : PortId) : Bool :=
  s.replyNext p && (s.port p).reply.bits == 8 * (s.port p).wire.length

/-- On a later cycle the last bits of what has been decided so far go out. -/
def State.sendsLast (s : State) (p : PortId) : Bool :=
  s.replyNext p && decide ((s.port p).reply.bits < 8 * (s.port p).wire.length)
    && decide (8 * (s.port p).wire.length ≤ (s.port p).reply.bits + modeBits (s.port p).txMode)

/-- What a fetch of array stones leaves alone: cells, ledger, subscribers, gates, level, plinth, pace, galleries, annexes, and
of every bank what it runs and keeps. -/
def State.fetchKeeps (s t : State) : Prop :=
  t.mem = s.mem ∧ t.ledger = s.ledger ∧ t.subs = s.subs ∧ t.gates = s.gates ∧ t.life = s.life ∧ t.plinth = s.plinth
  ∧ t.pace = s.pace ∧ t.gals = s.gals ∧ t.annex = s.annex ∧ t.pending = s.pending
  ∧ ∀ b : BankId, (t.bank b).state = (s.bank b).state ∧ (t.bank b).clear = (s.bank b).clear ∧ (t.bank b).lay = (s.bank b).lay
      ∧ (t.bank b).kept = (s.bank b).kept

/-- Checks 2 to 7 of Table 05.2 all let a direct operation through: the port is armed, has no direct operation, has
declared a period that R47 accepts; level, boot and region permit it; the meter of its DEFAULT subscriber does not colour it
red; and a LAY finds a yard slot. -/
def State.directOk (s : State) (p : PortId) (op : Byte) (addr : BitVec 32) (count : Nat) : Bool :=
  (s.port p).armed && !s.directBusy p && (s.port p).periodOk && s.directPermitted p op addr
    && ((s.sub (s.port p).dflt.toFin).colourOf (s.chargeOf op count)).isSome
    && (op != opLay || (s.yardOpen (s.port p).dflt.toFin && !s.freeYardSlots.isEmpty))

/-! ### Register writes -/

/-- A REGWR entry for register `r` on the port of `tx` is taken: the transaction is received in time, no table of R585
ignores the entry, and R584 permits it. -/
def State.mayWrite (s : State) (tx : Tx) (r : BitVec 12) : Bool :=
  s.takes tx && !s.ignoresWrite r && (s.fullWrite tx.port || openWrite tx.port r)

/-- The state after a REGWR of one taken entry, whose register does `f` on the edge that takes it: REGWRITES rises and the
status byte has RDY. -/
def State.afterWrite (s : State) (tx : Tx) (f : State → State) : State :=
  (f ((s.received tx 0x61).modGlob (fun g => { g with regwrites := g.regwrites + 1 }))).answer tx.port .ok []

/-- Something is left for the CS# rise that ends the transaction. -/
def State.leaves (s : State) (p : PortId) (a : RiseAct) : State :=
  s.modPort p (fun x => { x with atRise := x.atRise ++ [a] })

/-- Port `n`'s transaction is about to end at a CS# rise of its own that hands no pace over: it does not hold pace, its
command phase is complete, it is in no chain frame, and it leaves one act for the rise. -/
def State.endsWith (s : State) (n : PortId) (a : RiseAct) : Bool :=
  (s.port n).csLow && !(s.port n).waitRise && !(s.port n).chainFrame && (s.port n).txOp.isSome
    && (s.port n).atRise == [a] && (s.port n).upload.isNone && (s.port n).fetch.isNone && s.pace.holder.isSome && s.pace.holder != some n && s.pace.oldPacer.isNone

/-! ### Ledger packets -/

/-- What a packet command brings: transaction, ledger opcode, packet, and what of its payload has come with it. -/
def packetOf : Instr → Option (Tx × Byte × Packet × Option (List Word × BitVec 16))
  | .ledgerFetch tx p => some (tx, opFetch, p, none)
  | .ledgerLay tx p l crc => some (tx, opLay, p, l.map (fun w => (w, crc)))
  | .ledgerClear tx p => some (tx, opClear, p, none)
  | .ledgerClearFoot tx p => some (tx, opClearFoot, p, none)
  | .haul tx p l crc => some (tx, opHaul, p, l.map (fun w => (w, crc)))
  | .kiln tx p => some (tx, opKiln, p, none)
  | .repoint tx p => some (tx, opRepoint, p, none)
  | .signal tx p => some (tx, opSignal, p, none)
  | .fence tx p => some (tx, opFence, p, none)
  | .cancel tx p => some (tx, opCancel, p, none)
  | .ledgerSuspend tx p => some (tx, opSuspend, p, none)
  | .ledgerResume tx p => some (tx, opResume, p, none)
  | .levelRaise tx p => some (tx, opLevelRaise, p, none)
  | .regress tx p => some (tx, opRegress, p, none)
  | _ => none

/-- A packet's payload has come whole and good, or the packet has none (R195). -/
def payloadGood (op : Byte) (pk : Packet) (payload : Option (List Word × BitVec 16)) : Bool :=
  payloadStones op pk == 0
    || (match payload with
      | some (w, crc) => decide (payloadStones op pk ≤ w.length) && crc == crc16 ((w.take (payloadStones op pk)).flatMap be64)
      | none => false)

/-- The stones of a payload. -/
def payloadOf (payload : Option (List Word × BitVec 16)) : List Word := (payload.map (·.1)).getD []

/-- The LEDGER transaction is received in time and in its place on the edge, brings its packet first, and the packet keeps
the rules of framing (R194 to R197, R223). -/
def State.framed (s : State) (tx : Tx) (op : Byte) (pk : Packet) : Bool :=
  s.takes tx && decide (s.pace.stage ≤ orderPacket tx.port) && (s.port tx.port).upload.isNone && pk.alien.isNone
    && pk.crc == crc16 (packetBytes pk op) && s.fieldsOk op pk

/-- The eight checks of Table 06.2 all let the packet through: (1) its subscriber is in the port's mask and not S31,
(2) its sequence is new, (3) level and boot let its opcode through, (4) the subscriber may take a slot and one is free,
(5) it closes no cycle, whichever slot it takes, (6) the meter does not colour it red, (7) the port's period is declared
where R47 asks for it, (8) a yard slot is free where one is taken. -/
def State.admits (s : State) (p : PortId) (a : Ask) : Bool :=
  s.check1 p a && (s.check2 a).isNone && (s.check3 a).2 && s.slotOpen a.sub && !s.freeSlots.isEmpty
    && !s.closesCycle (s.opOf a 0)
    && (ledgerOnly a.op || ((s.sub a.sub).colourOf (s.chargeOf a.op a.pk.count.toNat)).isSome)
    && (!needsPeriod a.op || (s.port p).periodOk)
    && (!takesYard a.op || (s.yardOpen a.sub && !s.freeYardSlots.isEmpty))

/-! ### The house, and the ends of operations -/

/-- Checks 3 to 8 of Table 06.2 let a house packet through (R341, R342): no boot, regression or drain, a slot for S31, and
its meter. A KILN or REPOINT takes no yard slot, and closes no cycle. -/
def State.houseAdmits (s : State) (op : Byte) (count : Nat) : Bool :=
  !s.booting && !s.life.regPending && !s.draining && s.slotOpen 31 && !s.freeSlots.isEmpty
    && ((s.sub 31).colourOf (s.chargeOf op count)).isSome

/-- The house has submitted a packet that committed: one more operation, of S31, with the next sequence and no links; cells,
gates, level and plinth stay. -/
def State.submits (s t : State) (op : Byte) (addr : BitVec 32) (count : Nat) (kind : MoveKind) : Prop :=
  (∃ (o : Op) (k : Fin 256), t.ledger.ops = s.ledger.ops ++ [o] ∧ k ∈ s.freeSlots ∧ o.origin = .ledger k
    ∧ o.id = s.ledger.nextId ∧ o.sub = 31 ∧ o.state = .queued ∧ o.work = .waiting ∧ o.opcode = op ∧ o.addr = addr
    ∧ o.count = BitVec.ofNat 16 count ∧ o.kind = kind ∧ o.seq = (s.sub 31).last + 1 ∧ o.admitted = s.stamp
    ∧ o.after = 0xFF ∧ o.wait = 0xFF ∧ o.signal = 0xFF ∧ o.flags = 0)
  ∧ t.upkeep.houseDone = true ∧ t.mem = s.mem ∧ t.gates = s.gates ∧ t.life = s.life ∧ t.plinth = s.plinth

/-- Operation `o` has ended with result `r` and `u` units done: a direct one in its port's RESULT and UNITS (R183), one of
the ledger as a record (R208). A house operation's record may be freed at once (R219), so nothing is said of one. -/
def State.ends (s t : State) (o : Op) (r : Byte) (u : Nat) : Prop :=
  (∀ p : PortId, o.origin = .direct p → (t.port p).result = r ∧ (t.port p).units = BitVec.ofNat 16 u
    ∧ t.glob.direct.getLsbD p.val = true ∧ ∀ x ∈ t.ledger.ops, x.id ≠ o.id)
  ∧ (o.isDirect = false → o.sub ≠ 31 → ∃ x ∈ t.ledger.ops, x.id = o.id ∧ x.origin = o.origin ∧ x.state = .complete
    ∧ x.result = r ∧ x.units = BitVec.ofNat 32 u ∧ x.stamp = s.stamp ∧ x.tokens = 0)

/-- Every gate that stands before one of these addresses is enabled and lets the operation's subscriber through. -/
def State.gatesPass (s : State) (o : Op) (write : Bool) (l : List (BitVec 32)) : Bool :=
  l.all (fun a => match gateOf a with
    | none => true
    | some g => (s.gate g).en && (s.gateAsk g (s.gateSub o) write a).isNone)

end Sys2Proof.Machine
end

