-- ==== Sys2Proof/Certificates/Slice0/Obligations.lean ====
section
/-! DEFINITION. The statements for the provers, from the rules of spec/. -/
open Sys2Proof Sys2Proof.Machine

/-! ### The step, reset, and what every command keeps -/

/-- The model's own queue discipline (log entry 2): the command at the front of the queue runs with the queue's rest, and
with nothing waiting the block idles. -/
def Obligations.StepRunsFrontCommand : Prop :=
  ∀ s : State,
    (∀ (c : Instr) (rest : List Instr), step { s with pending := c :: rest } = exec c { s with pending := rest })
    ∧ step { s with pending := [] } = .next { s with pending := [] }

/-- Table 17.2, "At release", for a register of every kind and every instance of it. Where a value depends on factory or
pin levels (UID, ANX_GPIO) nothing is said. -/
def Obligations.RegistersAtRelease : Prop :=
  (∀ e ∈ ([(0x000, 0x5A50465916080200), (0x001, 0x0000000001020043), (0x004, 0x4240408040208424), (0x005, 0xFF01), (0x006, 0),
      (0x007, 0), (0x008, 0), (0x009, 0), (0x00A, 0), (0x00B, 0), (0x00C, 0), (0x00D, 0), (0x00E, 0), (0x00F, 0), (0x010, 0),
      (0x011, 0), (0x018, 0), (0x019, 1), (0x01A, 0), (0x040, 0x3C), (0x041, 0), (0x042, 0), (0x043, 0), (0x045, 0),
      (0x046, 0x0000100000080001), (0x047, 0x0001000000000200), (0x04C, 0x0000040004260B09), (0x04D, 0), (0x080, 0), (0x081, 0),
      (0x082, 0), (0x083, 0x100), (0x084, 0), (0x085, 0), (0x086, 0), (0x087, 0), (0x088, 0), (0x089, 0), (0x08A, 0),
      (0x08B, 0x100), (0x08C, 0x1000000), (0x08D, 0x10000), (0x480, 0x0000000400000400), (0x481, 0), (0x710, 0), (0x711, 0),
      (0x720, 0), (0x721, 0), (0x723, 0), (0x725, 0), (0x730, 0x4000), (0x731, 0x40), (0x732, 0x4E20),
      (0x733, 0x0000080000010000), (0x734, 0), (0xE40, 0), (0xE41, 0)] : List (BitVec 12 × Word)),
    State.reset.regValue (regOf e.1) = e.2)
  ∧ (∀ n : PortId, State.reset.regValue (.mode n) = 0x10 ∧ State.reset.regValue (.timing n) = 0x0003000000000008
      ∧ State.reset.regValue (.len n) = 0x1000 ∧ State.reset.regValue (.period n) = 0 ∧ State.reset.regValue (.portStat n) = 0
      ∧ State.reset.regValue (.cmd n) = 0x0000FF0000000000
      ∧ State.reset.regValue (.subsReg n) = BitVec.ofNat 64 (2 ^ (32 + n.val) + n.val)
      ∧ State.reset.regValue (.train n) = 0x00000800FF000000 ∧ State.reset.regValue (.taps n) = 0x0000008421084210
      ∧ State.reset.regValue (.drift n) = 0 ∧ State.reset.regValue (.chain n) = 0)
  ∧ (∀ a : AnnexId, State.reset.regValue (.anxCtrl a) = 0 ∧ State.reset.regValue (.anxStat a) = 0
      ∧ State.reset.regValue (.anxDiv a) = 8 ∧ State.reset.regValue (.anxCmdset a) = 0x0B4220D8020605B7
      ∧ State.reset.regValue (.anxTimeout a) = 0x0040000000004000
      ∧ ∀ p : PartnerId, State.reset.regValue (.pcfg a p) = 0x40000 ∧ State.reset.regValue (.pmap a p) = 0x10
        ∧ State.reset.regValue (.pmode a p) = 0 ∧ State.reset.regValue (.pstat a p) = 0xFF00)
  ∧ (∀ g : GalId, State.reset.regValue (.galWeight g) = 0x10102040 ∧ State.reset.regValue (.vtime g) = 0
      ∧ State.reset.regValue (.sched g) = 0xFF00 ∧ State.reset.regValue (.lsel g) = 0 ∧ State.reset.regValue (.lview g) = 0
      ∧ State.reset.regValue (.tamp g) = 0x0A100A10 ∧ State.reset.regValue (.lpump g) = 0x4848
      ∧ State.reset.regValue (.cpump g) = 0x4848 ∧ ∀ v : SvcId, State.reset.regValue (.vsvc g v) = 0)
  ∧ (∀ i : SubId, State.reset.regValue (.commit i) = 0xFFFFFFFFFFFFFFFF ∧ State.reset.regValue (.peak i) = 0xFFFFFFFFFFFFFFFF
      ∧ State.reset.regValue (.buckets i) = 0xFFFFFFFFFFFFFFFF ∧ State.reset.regValue (.subWeight i) = 0x10101010
      ∧ State.reset.regValue (.mstat i) = 0 ∧ State.reset.regValue (.quota i) = (if i = 31 then 0x01000008 else 0x01000000)
      ∧ State.reset.regValue (.seq i) = 0 ∧ ∀ v : SvcId, State.reset.regValue (.leaf i v) = 0)
  ∧ (∀ b : Fin 64, State.reset.regValue (.bankCtrl b) = 0 ∧ State.reset.regValue (.bankStat b) = 0xFF01FF0000000000
      ∧ State.reset.regValue (.bankSusp b) = 0x0000040000000010 ∧ State.reset.regValue (.tally b) = 0
      ∧ State.reset.regValue (.wsel b) = 0 ∧ State.reset.regValue (.bankUpkeep b) = 0
      ∧ State.reset.regValue (.plumb b) = 0x20002020)
  ∧ (∀ g : GateId, State.reset.regValue (.gateCtrl g) = 0 ∧ State.reset.regValue (.gateStat g) = 0
      ∧ ∀ i : Fin 8, State.reset.regValue (.gateRegion g i) = 0)
  ∧ ∀ n : Fin 64, State.reset.regValue (.trace n) = 0

/-- The state after reset meets the invariants that the next statements say every step keeps; its queue is empty. -/
def Obligations.ResetStateIsGood : Prop :=
  Memory.wf State.reset.mem = true ∧ State.reset.holderLow = true ∧ State.reset.ledgerOk = true ∧ State.reset.pending = []

/-- The cells of the array keep their canonical form: addresses strictly rising, and no cell listed that reads as cleared,
so that equal arrays are equal data. -/
def Obligations.MemoryStaysCanonical : Prop :=
  ∀ s t : State, Memory.wf s.mem = true → step s = .next t → Memory.wf t.mem = true

/-- No command touches the commands that wait behind it, and a step takes exactly the first one. -/
def Obligations.StepTakesOneCommand : Prop :=
  ∀ s t : State, step s = .next t → t.pending = s.pending.tail

/-- Cells of the array change only where a reset cuts an operation off, a SOFT RESET at its CS# rise among them, and where a
lay, a clear unit or a firing ends. -/
def Obligations.CellsChangeOnlyHere : Prop :=
  ∀ (c : Instr) (s t : State), mayChangeCells c = false → exec c s = .next t → t.mem = s.mem

/-- DEVTIME moves on a pace edge and starts from 0 at a power-on or pin reset; nothing else moves it, a SOFT RESET included.
-/
def Obligations.TimeMovesOnPaceEdges : Prop :=
  ∀ (c : Instr) (s t : State), movesTime c = false → exec c s = .next t → t.pace.devtime = s.pace.devtime

/-- Every step keeps the invariant that the port that holds pace has its CS# low (and, after a reset, has risen once). -/
def Obligations.HolderStaysLow : Prop :=
  ∀ s t : State, s.holderLow = true → step s = .next t → t.holderLow = true

/-- Every step keeps the invariant that each operation has a name and a place of its own: no two operations share a ledger
slot, and no port has two direct operations. -/
def Obligations.LedgerStaysWellFormed : Prop :=
  ∀ s t : State, s.ledgerOk = true → step s = .next t → t.ledgerOk = true

/-- R26: with no CS# low and no holder, no command changes anything but a stall-guard or brown-out trip and a power-on or
pin reset; a CS# fall ends that condition. The commands that move WP# or a supply change the levels of those pins alone, not
what the last pace edge sampled, and a supply that fails ends what its ports drove last. -/
def Obligations.QuietBlockStandsStill : Prop :=
  (∀ (c : Instr) (s : State), s.quiet = true → isOutside c = false → exec c s = .next s)
  ∧ ∀ (c : Instr) (s : State), s.quiet = true → isPinMove c = true →
      Gives (exec c s) (fun t => t = { s with pins := t.pins, ports := t.ports }
        ∧ t.pins = { s.pins with wpPin := t.pins.wpPin, supply := t.pins.supply }
        ∧ ∀ p : PortId, t.port p = { s.port p with
            reply := (t.port p).reply, cell := (t.port p).cell, level := (t.port p).level })

/-! ### Resets, supply, pace -/

/-- R553, R600, R556, R558 and Table 15.2: a low pulse on RESET# of 1 µs or more resets the block, one under 100 ns does
nothing, one between may do either; so does a power-on reset, which also clears BOOTS. -/
def Obligations.ResetsRebuildTheBlock : Prop :=
  (∀ (ns : Nat) (s : State), 1000 ≤ ns → Gives (exec (.resetPin ns) s) (fun t =>
      s.resetInto t { Boot.reset with boots := s.boot.boots + 1, softx := s.boot.softx, cause := 1 } s.power.detector
      ∧ t.pace = Pace.reset))
  ∧ (∀ (ns : Nat) (s : State), ns < 100 → exec (.resetPin ns) s = .next s)
  ∧ (∀ (ns : Nat) (s : State), 100 ≤ ns → ns < 1000 →
      exec (.resetPin ns) s = .next s.useFree ∨ exec (.resetPin ns) s = exec (.resetPin 1000) s.useFree)
  ∧ ∀ (tripped : Bool) (s : State), Gives (exec (.powerOnReset tripped) s) (fun t =>
      s.resetInto t Boot.reset tripped ∧ t.pace = Pace.reset)

/-- R554, R629, R630: a reset changes no cell of a stone that no lay or clear works on. -/
def Obligations.ResetKeepsOtherCells : Prop :=
  ∀ (c : Instr) (s t : State), (∃ ns, c = .resetPin ns) ∨ (∃ b, c = .powerOnReset b) → exec c s = .next t →
    ∀ a : Nat, (∀ b : BankId, s.worksOn b (a / 10) = false) → Memory.read t.mem a = Memory.read s.mem a

/-- R57 to R59, R543 to R546: a stall-guard trip closes every open gate, flags every port and leaves the galleries for the
next pace edge to record; a brown-out trip closes every gate, stops every pump and sets BROWN, and after its release the
next pace edge clears BROWN and starts the pumps that serve something. -/
def Obligations.TripsCloseGates : Prop :=
  (∀ s : State, s.openBanks = [] → exec .stallGuardTrip s = .next s)
  ∧ (∀ s : State, s.openBanks ≠ [] → Gives (exec .stallGuardTrip s) (fun t =>
      t = { s with banks := t.banks, ports := t.ports, pace := { s.pace with guardGals := t.pace.guardGals } }
      ∧ (∀ b : BankId, (t.bank b).gateOpen = false) ∧ (∀ p : PortId, t.port p = { s.port p with guarded := true })
      ∧ ∀ b : BankId, (s.bank b).gateOpen = true → t.pace.guardGals.getLsbD (galOf b).val = true))
  ∧ (∀ s : State, s.power.detector = true → exec .brownOutTrip s = .next s)
  ∧ (∀ s : State, s.power.detector = false → Gives (exec .brownOutTrip s) (fun t =>
      t = { s with banks := t.banks, gals := t.gals, power := { s.power with detector := true, brown := true, brownCut := t.power.brownCut } }
      ∧ (∀ b : BankId, (t.bank b).gateOpen = false)
      ∧ (∀ g : GalId, (t.gal g).lpump = { (s.gal g).lpump with running := false, ready := false }
          ∧ (t.gal g).cpump = { (s.gal g).cpump with running := false, ready := false })
      ∧ ∀ b : BankId, (s.bank b).gateOpen = true → b.val ∈ t.power.brownCut))
  ∧ ∀ s : State, s.pace.holder.isSome = true → s.power.detector = true → Gives (exec .brownOutRelease s) (fun t =>
      t.power.detector = false ∧ t.power.brown = false ∧ t.power.brownCut = []
      ∧ t.power.brownouts = (if s.power.brownCut = [] then s.power.brownouts else s.power.brownouts + 1)
      ∧ (∀ g : GalId, (t.gal g).lpump.running = s.layPumpServes g ∧ (t.gal g).cpump.running = s.clearPumpServes g)
      ∧ t.mem = s.mem ∧ t.banks = s.banks ∧ t.ledger = s.ledger ∧ t.ports = s.ports ∧ t.pace = s.pace)

/-- R468, R526: what the WP# and supply pins do by themselves. A change of WP# reaches the FY16 on the next pace edge, which
samples the pin. A port whose VCCQ group fails drives nothing. -/
def Obligations.PinsMove : Prop :=
  (∀ s : State, exec .wpLow s = .next { s with pins := { s.pins with wpPin := false } }
      ∧ exec .wpHigh s = .next { s with pins := { s.pins with wpPin := true } })
  ∧ (∀ (s : State) (p : PortId) (inp : EdgeIn), (s.port p).low = true → s.pace.holder = some p → s.pace.sync = 0 →
      inp.mv ≤ 3630 → Gives (exec (.paceEdge p inp) s) (fun t => t.pins = { s.pins with wp := s.pins.wpPin }))
  ∧ (∀ (s : State) (g : Fin 5), Gives (exec (.supplyGroupLoss g) s) (fun t =>
      t = { s with ports := t.ports, pins := { s.pins with supply := t.pins.supply } }
      ∧ (∀ k : Fin 5, t.pins.supply.getLsbD k.val = (s.pins.supply.getLsbD k.val && decide (k ≠ g)))
      ∧ ∀ p : PortId, t.port p =
          if p.val / 2 = g.val then { s.port p with reply := Reply.none, cell := none, level := 0xFF } else s.port p))
  ∧ ∀ (s : State) (g : Fin 5), Gives (exec (.supplyGroupReturn g) s) (fun t =>
      t = { s with pins := { s.pins with supply := t.pins.supply } }
      ∧ ∀ k : Fin 5, t.pins.supply.getLsbD k.val = (s.pins.supply.getLsbD k.val || decide (k = g)))

/-- R29, R35, R38, R75, R114, R158, R160 under the baton policy: when no port holds pace, the lowest-numbered of the ports whose
CS# falls takes it (no port below it being low), with two synchronising edges to come; a port whose CS# falls while another
holds leaves pace alone. Each falling port starts a transaction, in chain mode with its outbound segment in the shifter; every
other port stays as it is. -/
def Obligations.FallTakesPace : Prop :=
  ∀ (s : State) (falls sck : BitVec 8), s.pace.policy = false →
    Gives (exec (.csFall falls sck) s) (fun t =>
      t = { s with ports := t.ports, pace := t.pace }
      ∧ (∀ p : PortId, (falls.getLsbD p.val && !(s.port p).csLow) = false → t.port p = s.port p)
      ∧ (∀ p : PortId, (falls.getLsbD p.val && !(s.port p).csLow) = true → t.port p =
          { s.port p with
            csLow := true, pol3 := sck.getLsbD p.val, txOp := none, atRise := [], hold := none, fetch := none, fetchBank := none,
            reading := false, waitsNow := (s.port p).waitsSet, holdLimitNow := (s.port p).holdLimitSet, lenNow := (s.port p).lenSet,
            chainFrame := (s.port p).chainEn, reply := Reply.none, cycle := 0, cell := none, level := 0xFF, upload := none,
            shifter := if (s.port p).chainEn then be128 (s.outbound p) else (s.port p).shifter, frameEdges := 0 })
      ∧ (∀ h : PortId, s.pace.holder = some h → t.pace = s.pace)
      ∧ ∀ p : PortId, s.pace.holder = none → (falls.getLsbD p.val && !(s.port p).csLow && !(s.port p).waitRise) = true →
          (∀ q : PortId, q < p → (s.port q).low = false ∧ (falls.getLsbD q.val && !(s.port q).csLow && !(s.port q).waitRise) = false) →
          (s.port p).low = false →
          t.pace = { s.pace with
            holder := some p, oldPacer := none, oldSync := 0, sync := 2, handovers := s.pace.handovers + 1 })

/-- R31, R35, R38, R73, R148, R149, R179 under the baton policy: when the holder's CS# rises (and no other CS# fell within 5 ns before, R32), the
lowest-numbered port whose CS# stays low takes pace with two synchronising edges to come, and where none is low no port
holds it. The rising transactions leave nothing for their rise here, and none is a chain frame or brings a packet's payload;
no command is cut off by the rise. A transaction with a complete command phase consumes ARMED; one without counts in SILENT off
plain mode, and at SILENCE_LIMIT the port reverts. Ports that do not rise, cells, gates, meters, levels and galleries stay. -/
def Obligations.RiseHandsPaceOver : Prop :=
  ∀ (s : State) (rises : BitVec 8) (h : PortId), s.pace.policy = false → s.pace.holder = some h →
    (rises.getLsbD h.val && (s.port h).csLow) = true →
    (∀ p : PortId, (rises.getLsbD p.val && (s.port p).csLow) = true →
      (s.port p).atRise = [] ∧ (s.port p).upload = none ∧ (s.port p).chainFrame = false ∧ (s.port p).waitRise = false) →
    Gives (exec (.csRise rises {
      late := 0, cuts := [] }) s) (fun t =>
      (∀ p : PortId, (rises.getLsbD p.val && (s.port p).csLow) = true →
        (t.port p).csLow = false ∧ (t.port p).txOp = none ∧ (t.port p).reply = Reply.none ∧ (t.port p).fetch = none
        ∧ ((s.port p).txOp.isSome = true → (t.port p).armed = false)
        ∧ ((s.port p).txOp = none → (s.port p).plain = true →
            (t.port p).armed = (s.port p).armed ∧ (t.port p).silent = (s.port p).silent)
        ∧ ((s.port p).txOp = none → (s.port p).plain = false → (s.port p).trial = false →
            (s.port p).silent.toNat + 1 < (s.port p).silenceLimit.toNat →
            (t.port p).armed = (s.port p).armed ∧ (t.port p).silent = (s.port p).silent + 1)
        ∧ ((s.port p).txOp = none → (s.port p).plain = false → (s.port p).trial = false →
            (s.port p).silent.toNat + 1 = (s.port p).silenceLimit.toNat →
            (t.port p).mode = 0 ∧ (t.port p).plain = true ∧ (t.port p).armed = false ∧ (t.port p).silent = 0
            ∧ (t.port p).reverts = (s.port p).reverts + 1 ∧ (t.port p).trainResult = 8))
      ∧ (∀ p : PortId, (rises.getLsbD p.val && (s.port p).csLow) = false → t.port p = s.port p)
      ∧ (∀ n : PortId, (s.port n).low = true → rises.getLsbD n.val = false →
          (∀ q : PortId, q < n → (s.port q).low = true → rises.getLsbD q.val = true) →
          t.pace = { s.pace with
            holder := some n, oldPacer := none, oldSync := 0, sync := 2, handovers := s.pace.handovers + 1 })
      ∧ ((∀ n : PortId, (s.port n).low = true → rises.getLsbD n.val = true) →
          t.pace = { s.pace with holder := none, oldPacer := none, oldSync := 0, sync := 0 })
      ∧ t.mem = s.mem ∧ t.gates = s.gates ∧ t.subs = s.subs ∧ t.life = s.life ∧ t.glob = s.glob ∧ t.plinth = s.plinth
      ∧ t.gals = s.gals ∧ t.power = s.power ∧ t.pending = s.pending)

/-- R28, R35, R36: a synchronising edge of the holder, or of an old holder that still owes some, counts down the edges that it
owes; its lanes carry on with their transaction. It is no pace edge: DEVTIME, ticks, PDIV and cells stay. -/
def Obligations.SynchronisingEdges : Prop :=
  ∀ (s : State) (p : PortId) (inp : EdgeIn), (s.port p).low = true →
    let same := fun (t : State) => t.pace.devtime = s.pace.devtime ∧ t.pace.crossed = s.pace.crossed
      ∧ t.pace.qualified = s.pace.qualified ∧ t.pace.pdiv = s.pace.pdiv ∧ t.pace.holder = s.pace.holder
      ∧ t.pace.oldPacer = s.pace.oldPacer ∧ t.mem = s.mem ∧ t.pending = s.pending
      ∧ ∀ q : PortId, (t.port q).csLow = (s.port q).csLow
    (s.pace.holder = some p → 0 < s.pace.sync →
      exec (.paceEdge p inp) s = .next ((s.clock p inp.dq0).modPace (fun x => { x with sync := s.pace.sync - 1 }))
      ∧ Gives (exec (.paceEdge p inp) s) (fun t => same t ∧ t.pace.oldSync = s.pace.oldSync))
    ∧ (s.pace.holder ≠ some p → s.pace.oldPacer = some p → 0 < s.pace.oldSync →
      exec (.paceEdge p inp) s = .next ((s.clock p inp.dq0).modPace (fun x => { x with oldSync := s.pace.oldSync - 1 }))
      ∧ Gives (exec (.paceEdge p inp) s) (fun t => same t ∧ t.pace.sync = s.pace.sync))

/-- R27, R28, R34, R49, R52, R532: a pace edge advances DEVTIME by the holder's declared period, or by 20,000 ps, crosses the tick
boundaries that lie between, and is pulse-qualified as R52 says; where it is, it sets PDIV. Holder, policy and CS# levels
stay, and an old holder paces no more. An edge of a port that does not pace moves the lanes of that port's transaction on; one of
a port whose CS# is high changes nothing. Above 3,630 mV sensed the model stops (log entry 8). -/
def Obligations.PaceEdgesAdvanceTime : Prop :=
  (∀ (s : State) (p : PortId) (inp : EdgeIn), (s.port p).low = true → s.pace.holder = some p → s.pace.sync = 0 → inp.mv ≤ 3630 →
    Gives (exec (.paceEdge p inp) s) (fun t =>
      t.pace.devtime = s.pace.devtime + BitVec.ofNat 64 (if (s.port p).declaredNow then (s.port p).periodNow.toNat else 20000)
      ∧ (s.pace.devtime.toNat + (s.port p).edgePs < 2 ^ 64 →
          t.pace.crossed = (s.pace.devtime.toNat + (s.port p).edgePs) / 2 ^ 20 - s.pace.devtime.toNat / 2 ^ 20)
      ∧ t.pace.qualified = ((s.port p).declaredNow && decide ((s.port p).periodNow.toNat ≤ 1000000))
      ∧ t.pace.pdiv = (if t.pace.qualified then pdivOf (s.port p).periodNow.toNat else s.pace.pdiv)
      ∧ t.pace.holder = some p ∧ t.pace.oldPacer = none ∧ t.pace.sync = 0 ∧ t.pace.policy = s.pace.policy
      ∧ t.pace.handovers = s.pace.handovers ∧ t.pending = s.pending ∧ ∀ q : PortId, (t.port q).csLow = (s.port q).csLow))
  ∧ (∀ (s : State) (p : PortId) (inp : EdgeIn), (s.port p).low = false → exec (.paceEdge p inp) s = .next s)
  ∧ (∀ (s : State) (p : PortId) (inp : EdgeIn), (s.port p).low = true → s.pace.holder ≠ some p → s.pace.oldPacer ≠ some p →
      exec (.paceEdge p inp) s = .next (s.clock p inp.dq0)
      ∧ (s.clock p inp.dq0).pace.devtime = s.pace.devtime ∧ (s.clock p inp.dq0).mem = s.mem)
  ∧ ∀ (s : State) (p : PortId) (inp : EdgeIn), (s.port p).low = true → s.pace.holder = some p → s.pace.sync = 0 →
      3630 < inp.mv → exec (.paceEdge p inp) s = .fault .outsideOperatingConditions

/-- R55, R309, R531: the pulse of a lay or a clear whose width has passed ends on a pulse-qualified pace edge without
brown-out, with the stones or the unit that its verify found good; one whose width has not passed goes on. A running pump
whose output has reached its target is ready from then on. -/
def Obligations.PulsesAndPumpsEnd : Prop :=
  (∀ (s : State) (b : BankId) (ok : BitVec 64) (cok : Bool) (l : LayRun) (u : Pulse), s.pace.holder.isSome = true →
      s.pace.qualified = true → s.power.brown = false → (s.bank b).lay = some l → l.pulse = some u → u.width ≤ u.elapsed →
      exec (.pulseEnd b ok cok) s =
        .next (s.modBank b (fun k => { k with lay := some { l with pulse := none, verified := ok } })))
  ∧ (∀ (s : State) (b : BankId) (ok : BitVec 64) (cok : Bool) (c : ClearRun) (u : Pulse), s.pace.holder.isSome = true →
      s.pace.qualified = true → s.power.brown = false → (s.bank b).lay = none → (s.bank b).clear = some c → c.purpose ≠ .firing →
      c.pulse = some u → u.width ≤ u.elapsed →
      exec (.pulseEnd b ok cok) s =
        .next ((s.modBank b (fun k => { k with clear := some { c with pulse := none, verified := cok } })).modOp c.op
          (fun o => { o with position := o.position + 1 })))
  ∧ (∀ (s : State) (b : BankId) (ok : BitVec 64) (cok : Bool) (l : LayRun) (u : Pulse), (s.bank b).lay = some l →
      l.pulse = some u → u.elapsed < u.width → exec (.pulseEnd b ok cok) s = .next s)
  ∧ (∀ (s : State) (g : GalId), s.pace.holder.isSome = true → (s.gal g).lpump.running = true →
      (s.gal g).lpump.override = false →
      exec (.pumpReady g false) s = .next (s.modGal g (fun x => { x with lpump := { x.lpump with ready := true } })))
  ∧ ∀ (s : State) (g : GalId), s.pace.holder.isSome = true → (s.gal g).cpump.running = true →
      (s.gal g).cpump.override = false →
      exec (.pumpReady g true) s = .next (s.modGal g (fun x => { x with cpump := { x.cpump with ready := true } }))
/-! ### Transactions of a host port -/

/-- R92, R171 to R173, R177, R268, R293, Table 07.6: a FETCH whose first stone, in the main array, the mark array or the info page, is
ready gets RDY with no stone driven yet, and its port reads. On a later reply cycle with everything decided so far gone out,
a next stone that is ready goes out through the course map, the mark vote and ECC, with ECCFIX and ECCFAIL; the cycle that
carries a stone's last bit counts it in STONES. A FETCH of an unmapped address gets DENY. No cell changes. -/
def Obligations.FetchDrivesStones : Prop :=
  (∀ (s : State) (tx : Tx) (addr : BitVec 32) (flips : Flips) (probe rx : List Byte) (start : Region),
      let a := stoneAddr addr
      s.takes tx = true → s.region a = start → regionOf a = start → (start = .main ∨ start = .marks ∨ start = .info) →
      s.stoneMeets tx.port start false a = .ready →
      Gives (exec (.fetch tx addr flips probe rx) s) (fun t =>
        (t.port tx.port).reply = s.replyFed tx.port .ok [] .stones ∧ (t.port tx.port).stones = 0
        ∧ (t.port tx.port).fetch = some {
            raw := false, first := a, addr := a, index := 0, passed := true, ready := s.pace.devtime + s.fetchPs,
            rowAt := s.pace.devtime, flips := flips, rx := probe ++ rx }
        ∧ (t.port tx.port).hold = none ∧ (t.port tx.port).reading = true ∧ (t.port tx.port).fetchBank = some (bankMet a)
        ∧ (∀ q : PortId, q ≠ tx.port → t.port q = s.port q) ∧ s.fetchKeeps t))
  ∧ (∀ (s : State) (p : PortId) (inp : EdgeIn) (f : FetchRun), s.owesNext p = true →
      (s.port p).reply.feed = .stones → (s.port p).fetch = some f → (s.port p).hold = none → f.raw = false →
      (windowOf f.addr).isSome = false → s.ripe f = true → s.stoneMeets p (regionOf f.first) f.passed f.addr = .ready →
      let r := readStone (s.cellsAt f.addr ^^^ flipOf f.flips f.index)
      Gives (exec (.paceEdge p inp) s) (fun t =>
        (t.port p).reply = { (s.port p).reply with
            data := (s.port p).reply.data ++ be64 r.data, bits := (s.port p).reply.bits + modeBits (s.port p).txMode }
        ∧ (t.port p).cell = some (cellAt (be64 r.data) (s.port p).txMode 0)
        ∧ (t.port p).fetch = some (s.fetchAfter f f.rx) ∧ (t.port p).stones = (s.port p).stones
        ∧ (t.port p).eccfix = ((s.port p).eccfix || r.fixed) ∧ (t.port p).eccfail = ((s.port p).eccfail || r.bad)
        ∧ (∀ q : PortId, q ≠ p → t.port q = s.port q) ∧ s.fetchKeeps t))
  ∧ (∀ (s : State) (p : PortId) (inp : EdgeIn) (f : FetchRun), s.sendsLast p = true → (s.port p).fetch = some f →
      (s.port p).reply.feed = .stones → (s.port p).reply.data ≠ [] →
      Gives (exec (.paceEdge p inp) s) (fun t =>
        (t.port p).stones = (if (s.port p).stones = 0xFFFF then 0xFFFF else (s.port p).stones + 1)
        ∧ (t.port p).reply.data = (s.port p).reply.data ∧ (t.port p).fetch = some f
        ∧ (∀ q : PortId, q ≠ p → t.port q = s.port q) ∧ s.fetchKeeps t))
  ∧ ∀ (s : State) (tx : Tx) (addr : BitVec 32) (flips : Flips) (probe rx : List Byte), s.takes tx = true →
      s.region (stoneAddr addr) = .unmapped →
      exec (.fetch tx addr flips probe rx) s =
        .next (((s.received tx 0x1B).modPort tx.port (fun x => { x with stones := 0 })).answer tx.port .deny [])

/-- R176, R290 to R292: a RAW FETCH at level OPEN of a stone that its bank serves gets RDY; each stone goes out as ten bytes, the
cells as read with ECC and mark bits, whatever the course map says. At any other level it gets DENY. A stone whose content
means nothing (its slot is in KILN, or is half cleared) goes out too, with a free value (log entry 9). -/
def Obligations.RawFetchDrivesCells : Prop :=
  (∀ (s : State) (tx : Tx) (bank : BitVec 6) (stone : BitVec 26) (flips : Flips),
      let a := stoneAddr (bank ++ stone)
      s.takes tx = true → s.rawMeets (paddrBank a) a = .ready →
      Gives (exec (.rawFetch tx bank stone flips) s) (fun t =>
        (t.port tx.port).reply = s.replyFed tx.port .ok [] .stones ∧ (t.port tx.port).stones = 0
        ∧ (t.port tx.port).fetch = some {
            raw := true, first := a, addr := a, index := 0, passed := true, ready := s.pace.devtime + s.fetchPs,
            rowAt := s.pace.devtime, flips := flips, rx := [] }
        ∧ (∀ q : PortId, q ≠ tx.port → t.port q = s.port q) ∧ s.fetchKeeps t))
  ∧ (∀ (s : State) (p : PortId) (inp : EdgeIn) (f : FetchRun), s.owesNext p = true →
      (s.port p).reply.feed = .stones → (s.port p).fetch = some f → (s.port p).hold = none → f.raw = true →
      s.ripe f = true → s.rawMeets (paddrBank f.first) f.addr = .ready →
      let cells := if s.rawOpen (paddrBank f.first) f.addr then Config.freeCells s.freeCtr
        else readCells s.mem (paddrStoneIx f.addr)
      Gives (exec (.paceEdge p inp) s) (fun t =>
        (t.port p).reply = { (s.port p).reply with
            data := (s.port p).reply.data ++ rawBytes (cells ^^^ flipOf f.flips f.index),
            bits := (s.port p).reply.bits + modeBits (s.port p).txMode }
        ∧ (t.port p).fetch = some (s.fetchAfter f f.rx)
        ∧ (∀ q : PortId, q ≠ p → t.port q = s.port q) ∧ s.fetchKeeps t))
  ∧ ∀ (s : State) (tx : Tx) (bank : BitVec 6) (stone : BitVec 26) (flips : Flips), s.takes tx = true → s.isOpen = false →
      Gives (exec (.rawFetch tx bank stone flips) s) (fun t =>
        (t.port tx.port).reply = s.replyOf tx.port .deny [] ∧ (t.port tx.port).stones = 0 ∧ (t.port tx.port).fetch = none
        ∧ (∀ q : PortId, q ≠ tx.port → t.port q = s.port q) ∧ s.fetchKeeps t)

/-- R94, R105 to R108, R110: a FETCH of an array stone that has to wait is held on a strobed port with a HOLD_LIMIT, without a
status byte yet, and counts in HOLDS; else it gets HELD. What it waits for being free, a held fetch reads on: it gets RDY, or
goes on behind what it drove before. One that still waits when its ticks reach HOLD_LIMIT ends, with HELD in the status byte
if that has not gone, else with HOLD_EXPIRED set and no more data. -/
def Obligations.HeldFetchesEnd : Prop :=
  (∀ (s : State) (tx : Tx) (addr : BitVec 32) (flips : Flips) (probe rx : List Byte) (start : Region),
      let a := stoneAddr addr
      s.takes tx = true → s.region a = start → regionOf a = start → (start = .main ∨ start = .marks ∨ start = .info) →
      s.stoneMeets tx.port start false a = .waits →
      Gives (exec (.fetch tx addr flips probe rx) s) (fun t =>
        (if (s.port tx.port).holds? then
          (t.port tx.port).hold = some { afterStatus := false, ticks := 0, limit := (s.port tx.port).holdLimitNow }
          ∧ (t.port tx.port).holds = (s.port tx.port).holds + 1 ∧ (t.port tx.port).fetch.isSome = true
          ∧ (t.port tx.port).reply.bits = 0
        else (t.port tx.port).fetch = none ∧ (t.port tx.port).holds = (s.port tx.port).holds
          ∧ (s.drives tx.port = true → (t.port tx.port).reply.status.getLsbD 6 = true))
        ∧ t.mem = s.mem))
  ∧ (∀ (s : State) (p : PortId) (flips : Flips) (rx : List Byte) (h : Hold) (f : FetchRun) (b : BankId),
      s.pace.holder.isSome = true → (s.port p).hold = some h → (s.port p).fetch = some f → s.holdOver h = false →
      f.source.bank f.addr = some b → s.fetchMeetsNext p f = .ready →
      Gives (exec (.heldFetchServed p flips rx) s) (fun t =>
        (t.port p).reply = (if h.afterStatus then (s.port p).reply else s.replyFed p .ok [] .stones)
        ∧ (t.port p).fetch = some { f with
            passed := true, ready := s.pace.devtime + s.fetchPs, rowAt := s.pace.devtime, flips := flips, rx := rx }
        ∧ (t.port p).hold = none ∧ (t.port p).reading = true ∧ (∀ q : PortId, q ≠ p → t.port q = s.port q) ∧ s.fetchKeeps t))
  ∧ (∀ (s : State) (p : PortId) (flips : Flips) (rx : List Byte) (h : Hold) (f : FetchRun), (s.port p).hold = some h →
      (s.port p).fetch = some f → (s.holdOver h = true ∨ s.fetchMeetsNext p f = .waits) →
      exec (.heldFetchServed p flips rx) s = .next s)
  ∧ (∀ (s : State) (p : PortId) (h : Hold) (f : FetchRun), s.pace.holder.isSome = true → (s.port p).hold = some h →
      (s.port p).fetch = some f → h.limit.toNat ≤ h.ticks → (s.fetchMeetsNext p f = .waits ∨ s.holdOver h = true) →
      Gives (exec (.holdExpired p) s) (fun t => t = { s with ports := t.ports, annex := t.annex }
        ∧ t.port p = (if h.afterStatus then { s.port p with
              reading := false, fetch := none, hold := none, holdExpired := true,
              reply := { (s.port p).reply with feed := if (s.port p).strobed then .still else .ones } }
            else { s.port p with reading := false, fetch := none, hold := none, reply := s.replyOf p .held [] })
        ∧ ∀ q : PortId, q ≠ p → t.port q = s.port q))
  ∧ ∀ (s : State) (p : PortId) (h : Hold), (s.port p).hold = some h → h.ticks < h.limit.toNat →
      exec (.holdExpired p) s = .next s

/-- R178, R181 to R186: a direct LAY, CLEAR BLOCK or CLEAR FOOTING that comes whole with a good CRC, keeps its field rule
and passes the checks of Table 05.2 gets RDY and is queued as the port's direct operation, for its DEFAULT subscriber, with
RESULT 0xFF and UNITS 0. No cell changes yet. -/
def Obligations.DirectOperationsCommit : Prop :=
  ∀ (c : Instr) (s : State) (tx : Tx) (op : Byte) (addr : BitVec 32) (n : Nat) (payload : List Word),
    ((∃ (count : Byte) (crc : BitVec 16), c = .lay tx addr count payload crc ∧ op = opLay ∧ n = count.toNat
        ∧ payload.length = n ∧ crc = crc16 (be32 addr ++ [count] ++ payload.flatMap be64)
        ∧ addr &&& 7 = 0 ∧ 1 ≤ n ∧ n ≤ 64 ∧ withinRow addr n = true)
      ∨ (c = .clearBlock tx addr (crc16 (be32 addr)) ∧ op = opClear ∧ n = 1 ∧ payload = [] ∧ addr &&& 0xFFFF = 0)
      ∨ (c = .clearFooting tx addr (crc16 (be32 addr)) ∧ op = opClearFoot ∧ n = 1 ∧ payload = [] ∧ addr &&& 0xFFF = 0
        ∧ regionOf addr = .main ∧ isFooting (bankIx (addrBank addr)) (addrBlock addr) = true)) →
    s.takes tx = true → s.directOk tx.port op addr n = true →
    Gives (exec c s) (fun t => ∃ o : Op,
      t.ledger.ops = s.ledger.ops ++ [o] ∧ o.id = s.ledger.nextId ∧ o.origin = .direct tx.port ∧ o.state = .queued
      ∧ o.work = .waiting ∧ o.opcode = op ∧ o.addr = addr ∧ o.count = BitVec.ofNat 16 n ∧ o.payload = payload
      ∧ o.sub = (s.port tx.port).dflt.toFin ∧ o.units = 0 ∧ o.admitted = s.stamp ∧ o.charge = s.chargeOf op n
      ∧ some o.colour = (s.sub o.sub).colourOf o.charge ∧ (op = opLay → ∃ y ∈ s.freeYardSlots, o.yard = some y)
      ∧ (t.port tx.port).reply = s.replyOf tx.port .ok [] ∧ (t.port tx.port).result = 0xFF ∧ (t.port tx.port).units = 0
      ∧ (∀ q : PortId, q ≠ tx.port → t.port q = s.port q)
      ∧ (∀ i : SubId, t.sub i = if i = o.sub then (s.sub i).charged o.charge else s.sub i)
      ∧ t.mem = s.mem ∧ t.banks = s.banks ∧ t.gals = s.gals ∧ t.gates = s.gates ∧ t.life = s.life ∧ t.plinth = s.plinth
      ∧ t.pace = s.pace ∧ t.power = s.power ∧ t.annex = s.annex ∧ t.pending = s.pending)

/-- R180, with Table 05.2: a direct operation that comes whole and keeps its field rule while ARMED is 0 is not carried out.
Its status byte has RDY at 0 and NOTARMED is set; nothing else changes but what every command phase leaves. -/
def Obligations.UnarmedIsNotCarriedOut : Prop :=
  (∀ (s : State) (tx : Tx) (addr : BitVec 32) (count : Byte) (payload : List Word),
      s.takes tx = true → (s.port tx.port).armed = false → payload.length = count.toNat → addr &&& 7 = 0 → 1 ≤ count.toNat →
      count.toNat ≤ 64 → withinRow addr count.toNat = true →
      exec (.lay tx addr count payload (crc16 (be32 addr ++ [count] ++ payload.flatMap be64))) s =
        .next (((s.received tx 0x2C).modPort tx.port (fun x => { x with notarmed := true })).answer tx.port .notReady []))
  ∧ (∀ (s : State) (tx : Tx) (addr : BitVec 32), s.takes tx = true → (s.port tx.port).armed = false → addr &&& 0xFFFF = 0 →
      exec (.clearBlock tx addr (crc16 (be32 addr))) s =
        .next (((s.received tx 0x3C).modPort tx.port (fun x => { x with notarmed := true })).answer tx.port .notReady []))
  ∧ ∀ (s : State) (tx : Tx) (addr : BitVec 32), s.takes tx = true → (s.port tx.port).armed = false → addr &&& 0xFFF = 0 →
      regionOf addr = .main → isFooting (bankIx (addrBank addr)) (addrBlock addr) = true →
      exec (.clearFooting tx addr (crc16 (be32 addr))) s =
        .next (((s.received tx 0x3E).modPort tx.port (fun x => { x with notarmed := true })).answer tx.port .notReady [])

/-- R187, R188, R318 to R322 (Table 08.4): what a direct SUSPEND or RESUME of a main-array bank does in each state of the
bank, with its RESULT byte; the request's bank alone changes, with its operation's slot and the trace. -/
def Obligations.SuspendAndResume : Prop :=
  (∀ (s : State) (tx : Tx) (addr : BitVec 32) (b : BankId), s.takes tx = true → s.suspendable addr = true →
      b = bankIx (addrBank addr) →
      Gives (exec (.suspend tx addr) s) (fun t =>
        (t.port tx.port).reply = s.replyOf tx.port .ok
          [if (s.bank b).state = .clearing ∨ (s.bank b).state = .firing then rDone else rNotSusp]
        ∧ (t.bank b).state = (if (s.bank b).state = .firing
              ∨ ((s.bank b).state = .clearing ∧ ((s.bank b).minrun.toNat ≤ (s.bank b).run ∨ (s.bank b).unlimited = true))
            then .suspending else (s.bank b).state)
        ∧ (t.bank b).deferred = (if (s.bank b).state = .clearing ∧ (s.bank b).run < (s.bank b).minrun.toNat
              ∧ (s.bank b).unlimited = false then true
            else if (s.bank b).state = .firing ∨ (s.bank b).state = .clearing then false else (s.bank b).deferred)
        ∧ (t.bank b).hostsusp = ((s.bank b).hostsusp || decide ((s.bank b).state = .clearing ∨ (s.bank b).state = .firing))
        ∧ (∀ k : BankId, k ≠ b → t.bank k = s.bank k) ∧ t.mem = s.mem ∧ t.gals = s.gals ∧ t.life = s.life ∧ t.gates = s.gates))
  ∧ ∀ (s : State) (tx : Tx) (addr : BitVec 32) (b : BankId), s.takes tx = true → s.suspendable addr = true →
      b = bankIx (addrBank addr) →
      Gives (exec (.resume tx addr) s) (fun t =>
        (t.port tx.port).reply = s.replyOf tx.port .ok [if (s.bank b).isSuspended = true ∨ (s.bank b).deferred = true then rDone else rNotSusp]
        ∧ ((s.bank b).state = .suspended → (t.bank b).state = (match (s.bank b).clear with
            | some c => if c.purpose = .firing then .firing else .clearing
            | none => .idle) ∧ (t.bank b).run = 0)
        ∧ ((s.bank b).state ≠ .suspended → (t.bank b).state = (s.bank b).state)
        ∧ ((s.bank b).state = .suspending ∨ (s.bank b).state = .nestlay → (t.bank b).resumeDue = true)
        ∧ ((s.bank b).isSuspended = true ∨ (s.bank b).deferred = true → (t.bank b).hostsusp = false)
        ∧ ((s.bank b).isSuspended = false → (t.bank b).deferred = false)
        ∧ (∀ k : BankId, k ≠ b → t.bank k = s.bank k) ∧ t.mem = s.mem ∧ t.gals = s.gals ∧ t.life = s.life ∧ t.gates = s.gates)

/-- R61 to R67, R94, R97, R113, R178, R189 to R191, R573: PACE opens its data phases at once, and drives progress records until LEN
bits have gone, with 1s beyond LEN; STATUS, IDENT, SFDP, REGRD and ARM get RDY. The first reply cycle fixes ATTN and BOOT of the
status byte. STATUS then drives one record with DIRECT_BUSY, ARMED, RESULT and CRC; IDENT and SFDP drive their constants;
REGRD the value of its register with its CRC. ARM leaves ARMED for the CS# rise. -/
def Obligations.ReadingTransactions : Prop :=
  (∀ (s : State) (tx : Tx), s.listens tx = true → exec (.pace tx) s =
      .next (((s.received tx 0x70).replyWith tx.port .ok [] .progress).modPort tx.port (fun x => { x with cycle := 0 })))
  ∧ (∀ (s : State) (p : PortId) (inp : EdgeIn), s.owesNext p = true → (s.port p).reply.feed = .progress →
      Gives (exec (.paceEdge p inp) s) (fun t =>
        let mode := (s.port p).txMode
        let q := (s.port p).reply.bits
        (t.port p).cell = some (padCell (s.port p).lenNow.toNat mode q (cellAt (s.progressRecord p) mode 0))
        ∧ (t.port p).guarded = false
        ∧ (q + modeBits mode < (s.port p).lenNow.toNat → (t.port p).reply.bits = q + modeBits mode
            ∧ (t.port p).reply.data = (s.port p).reply.data ++ s.progressRecord p)
        ∧ ((s.port p).lenNow.toNat ≤ q + modeBits mode → (t.port p).reply.bits = 0 ∧ (t.port p).reply.data = [])
        ∧ t = { s with ports := t.ports } ∧ ∀ r : PortId, r ≠ p → t.port r = s.port r))
  ∧ (∀ (s : State) (p : PortId) (inp : EdgeIn), s.replyOpens p = true →
      ((s.port p).reply.feed = .ones ∨ (s.port p).reply.feed = .status) →
      Gives (exec (.paceEdge p inp) s) (fun t =>
        (t.port p).reply = { (s.port p).reply with
          status := freshByte (s.port p).reply.status (s.attn p) s.bootBit, bits := modeBits (s.port p).txMode }
        ∧ (t.port p).cell = some (cellAt (t.port p).wire (s.port p).txMode 0)
        ∧ t = { s with ports := t.ports } ∧ ∀ r : PortId, r ≠ p → t.port r = s.port r))
  ∧ (∀ (s : State) (tx : Tx), s.takes tx = true → exec (.status tx) s =
      .next ((s.received tx 0x0C).replyWith tx.port .ok [] .status))
  ∧ (∀ (s : State) (p : PortId) (inp : EdgeIn), s.owesNext p = true → (s.port p).reply.feed = .status →
      Gives (exec (.paceEdge p inp) s) (fun t =>
        (t.port p).reply.data = (s.port p).reply.data ++ withCrc (s.progressRecord p
          ++ [BitVec.ofBool (s.directBusy p) ++ BitVec.ofBool (s.port p).armed ++ (0 : BitVec 6), (s.port p).result])
        ∧ (t.port p).reply.feed = .ones ∧ (t.port p).guarded = false
        ∧ t = { s with ports := t.ports } ∧ ∀ r : PortId, r ≠ p → t.port r = s.port r))
  ∧ (∀ (s : State) (tx : Tx), s.takes tx = true → exec (.ident tx) s =
      .next ((s.received tx 0xE1).answer tx.port .ok (withCrc ([0x5A, 0x50, 0x46, 0x59, 0x16, 0x08, 0x43,
        BitVec.ofNat 8 tx.port.val, BitVec.setWidth 8 (s.port tx.port).chipid, BitVec.setWidth 8 s.levelNow,
        0x00, 0x00, 0x08, 0x00]))))
  ∧ (∀ (s : State) (tx : Tx) (addr : BitVec 24) (pad : Byte), s.takes tx = true → exec (.sfdp tx addr pad) s =
      .next ((s.received tx 0x5A).replyWith tx.port .ok [] (.sfdp addr.toNat)))
  ∧ (∀ (s : State) (p : PortId) (inp : EdgeIn) (a : Nat), s.owesNext p = true → (s.port p).reply.feed = .sfdp a →
      Gives (exec (.paceEdge p inp) s) (fun t =>
        (t.port p).reply.data = (s.port p).reply.data ++ [sfdpTable.getD a 0xFF, sfdpTable.getD (a + 1) 0xFF]
        ∧ (t.port p).reply.feed = .sfdp (a + 2)
        ∧ t = { s with ports := t.ports } ∧ ∀ r : PortId, r ≠ p → t.port r = s.port r))
  ∧ (∀ (s : State) (tx : Tx), s.takes tx = true →
      exec (.arm tx) s = .next (((s.received tx 0x2A).answer tx.port .ok []).leaves tx.port .arm)
      ∧ ∀ (u : State) (n : PortId), u.riseAct n .arm = u.modPort n (fun x => { x with armed := true }))
  ∧ ∀ (s : State) (tx : Tx) (r : BitVec 12), s.takes tx = true → (s.received tx 0x60).badSelection r = false →
      exec (.regrd tx (BitVec.setWidth 16 r)) s =
        .next ((s.received tx 0x60).answer tx.port .ok (be64 ((s.received tx 0x60).readReg r)
          ++ be16 (crc16 (be16 (BitVec.setWidth 16 r) ++ be64 ((s.received tx 0x60).readReg r)))))

/-- R574: a REGRD whose number has any of bits [15:12] set only gets its status byte with CRCX, and 1s after it. -/
def Obligations.RegrdOfBadNumber : Prop :=
  ∀ (s : State) (tx : Tx) (n : BitVec 16), s.takes tx = true → n.extractLsb' 12 4 ≠ 0 →
    exec (.regrd tx n) s = .next ((s.received tx 0x60).answer tx.port .crcx [])

/-- R578, R580, R583 to R585: a REGWR of 1 to 16 whole entries takes them in the order sent; its status byte is DENY if one
was refused, else RDY. A refused entry changes nothing but REGDENY and the number and port beside it, an ignored one
nothing, a taken one counts in REGWRITES and acts. -/
def Obligations.RegwrTakesEntries : Prop :=
  (∀ (s : State) (tx : Tx) (count : Byte) (l : List (BitVec 12 × Word)), s.takes tx = true → l.length = count.toNat →
      1 ≤ count.toNat → count.toNat ≤ 16 →
      let r := l.foldl (fun (t : State × Bool) e =>
        ((t.1.takeEntry tx.port e.1 e.2).1, t.2 || (t.1.takeEntry tx.port e.1 e.2).2 == .refused)) (s.received tx 0x61, false)
      exec (.regwr tx count (l.map (fun e => (BitVec.setWidth 16 e.1, e.2)))) s =
        .next (r.1.answer tx.port (if r.2 then .deny else .ok) []))
  ∧ ∀ (s : State) (p : PortId) (r : BitVec 12) (v : Word),
      (s.ignoresWrite r = true → s.takeEntry p r v = (s, .ignored))
      ∧ (s.ignoresWrite r = false → (s.fullWrite p || openWrite p r) = false → s.takeEntry p r v =
          ({ s with glob := { s.glob with regdeny := true, denynum := r, denyport := BitVec.ofNat 3 p.val } }, .refused))
      ∧ (s.ignoresWrite r = false → (s.fullWrite p || openWrite p r) = true → (s.takeEntry p r v).2 = .taken
          ∧ (regOf r = .unimplemented → (s.takeEntry p r v).1 =
              { s with glob := { s.glob with regwrites := s.glob.regwrites + 1, noreg := true } }))
/-- R575 and R577: a COUNT outside 1 to 16 writes nothing and gets CRCX; a number with any of bits [15:12] set ends the
entries, those before it stand, and the status byte has CRCX. -/
def Obligations.RegwrRefusesBadForm : Prop :=
  (∀ (s : State) (tx : Tx) (count : Byte) (entries : List (BitVec 16 × Word)), s.takes tx = true →
      (count.toNat < 1 ∨ 16 < count.toNat) →
      exec (.regwr tx count entries) s = .next ((s.received tx 0x61).answer tx.port .crcx []))
  ∧ ∀ (s : State) (tx : Tx) (count : Byte) (pre : List (BitVec 12 × Word)) (bad : BitVec 16) (v : Word)
      (rest : List (BitVec 16 × Word)), s.takes tx = true → pre.length + 1 + rest.length = count.toNat → count.toNat ≤ 16 →
      bad.extractLsb' 12 4 ≠ 0 →
      exec (.regwr tx count (pre.map (fun e => (BitVec.setWidth 16 e.1, e.2)) ++ (bad, v) :: rest)) s =
        .next ((pre.foldl (fun t e => (t.takeEntry tx.port e.1 e.2).1) (s.received tx 0x61)).answer tx.port .crcx [])

/-- R203 to R208, R212, R216: a COLLECT, with PEEK or without, gets RDY. On a later reply cycle with everything decided so far gone
out, the record block of the oldest record that the port may drive begins, or 1s where there is none. When a block's last
bits go out its record leaves the ledger with its yard slots; with PEEK it stays. No cell changes. -/
def Obligations.CollectDrivesRecords : Prop :=
  (∀ (s : State) (tx : Tx) (pad : Byte), s.takes tx = true →
      exec (.collect tx 0 pad) s = .next ((s.received tx 0x7C).replyWith tx.port .ok [] (.records false [] none))
      ∧ exec (.peek tx 0 pad) s = .next ((s.received tx 0x7C).replyWith tx.port .ok [] (.records true [] none)))
  ∧ (∀ (s : State) (p : PortId) (inp : EdgeIn) (peek : Bool) (done : List Nat) (now : Option Nat), s.owesNext p = true →
      (s.port p).reply.feed = .records peek done now →
      Gives (exec (.paceEdge p inp) s) (fun t =>
        (∀ o, oldest (s.collectable p done) = some o →
          (t.port p).reply.data = (s.port p).reply.data ++ o.block ∧ (t.port p).reply.feed = .records peek done (some o.id)
          ∧ t.ledger = { s.ledger with ops := s.ledger.ops.map (fun x => if x.id = o.id then { x with driving := some p } else x) })
        ∧ (oldest (s.collectable p done) = none → (t.port p).reply.data = (s.port p).reply.data
          ∧ (t.port p).reply.feed = .ones ∧ t.ledger = s.ledger)
        ∧ t = { s with ports := t.ports, ledger := t.ledger } ∧ ∀ r : PortId, r ≠ p → t.port r = s.port r))
  ∧ ∀ (s : State) (p : PortId) (inp : EdgeIn) (peek : Bool) (done : List Nat) (o : Op), s.sendsLast p = true →
      (s.port p).reply.feed = .records peek done (some o.id) → s.op? o.id = some o →
      Gives (exec (.paceEdge p inp) s) (fun t =>
        (t.port p).reply.feed = .records peek (o.id :: done) none
        ∧ (peek = false → t.ledger.ops = s.ledger.ops.filter (fun x => x.id != o.id) ∧ ∀ y ∈ t.ledger.yard, y.owner ≠ o.id)
        ∧ (peek = true → t.ledger.ops = s.ledger.ops.map (fun x => if x.id = o.id then { x with driving := none } else x)
          ∧ t.ledger.yard = s.ledger.yard)
        ∧ t = { s with ports := t.ports, ledger := t.ledger, trace := t.trace } ∧ ∀ r : PortId, r ≠ p → t.port r = s.port r)

/-- R203: a COLLECT, with PEEK or without, whose MODE has any of bits [6:0] set gets CRCX and data of 1s. -/
def Obligations.CollectOfBadMode : Prop :=
  ∀ (s : State) (tx : Tx) (mode : BitVec 7) (pad : Byte), s.takes tx = true → mode ≠ 0 →
    exec (.collect tx mode pad) s = .next ((s.received tx 0x7C).answer tx.port .crcx [])
    ∧ exec (.peek tx mode pad) s = .next ((s.received tx 0x7C).answer tx.port .crcx [])

/-- R552, R555, R558, R169: a SOFT RESET from a port whose DEFAULT subscriber is privileged drives nothing and leaves the
reset for its CS# rise, which clears all but what Table 15.2 keeps, DEVTIME among it; from any other port it sets SOFTX; with
a wrong second byte it counts as an unknown opcode. -/
def Obligations.SoftResetIsPrivileged : Prop :=
  (∀ (s : State) (tx : Tx), s.takes tx = true → s.privileged (s.port tx.port).dflt.toFin = true →
      exec (.softReset tx 0x0F) s =
        .next (((s.received tx 0xF0).modPort tx.port (fun x => { x with reply := Reply.none })).leaves tx.port .softReset))
  ∧ (∀ (s : State) (tx : Tx), s.takes tx = true → s.privileged (s.port tx.port).dflt.toFin = false →
      exec (.softReset tx 0x0F) s =
        .next { (s.received tx 0xF0).modPort tx.port (fun x => { x with reply := Reply.none }) with
          boot := { s.boot with softx := true } })
  ∧ (∀ (s : State) (tx : Tx) (x : Byte), s.takes tx = true → x ≠ 0x0F → Gives (exec (.softReset tx x) s) (fun t =>
      (t.port tx.port).reply = Reply.none ∧ (t.port tx.port).badop = true ∧ (t.port tx.port).atRise = (s.port tx.port).atRise
      ∧ t = { s with ports := t.ports } ∧ ∀ q : PortId, q ≠ tx.port → t.port q = s.port q))
  ∧ ∀ (s : State) (n : PortId),
      s.resetInto (s.riseAct n .softReset) { Boot.reset with boots := s.boot.boots + 1, softx := s.boot.softx, cause := 2 }
        s.power.detector
      ∧ (s.riseAct n .softReset).pace = { Pace.reset with devtime := s.pace.devtime }

/-- R90: an opcode outside the direct opcode table makes the FY16 drive nothing for the rest of the transaction and set
BADOP, on trial too; only the port of the transaction changes. -/
def Obligations.UnknownOpcodes : Prop :=
  ∀ (s : State) (tx : Tx) (op : Byte), s.hears tx.port = true → ((s.port tx.port).ddr = true → tx.compl = true) →
    knownOpcode op = false →
    Gives (exec (.unknownOpcode tx op) s) (fun t =>
      (t.port tx.port).reply = Reply.none ∧ (t.port tx.port).badop = true ∧ (t.port tx.port).lastop = op
      ∧ t = { s with ports := t.ports } ∧ ∀ q : PortId, q ≠ tx.port → t.port q = s.port q)

/-! ### Training and chains -/

/-- R121 to R142: PROPOSE chooses the best code that offer and PERMIT share and leaves the trial for the rise; SWEEP on trial
gives every lane of the trial mode the middle of its longest run of four passes or more, but under OVERRIDE, and ends the trial
where a lane has none; a tap passes where all 256 samples of its repetition match the lane's own Ehrif sequence; CONFIRM after a good SWEEP leaves the trial mode to come into force at the rise; REVERT leaves a port revert. -/
def Obligations.Training : Prop :=
  (∀ (s : State) (tx : Tx) (offer : BitVec 16) (band : BitVec 2) (c : BitVec 4), s.takes tx = true →
      let permitted := fun (k : BitVec 4) => k ∈ validCodes ∧ offer.getLsbD k.toNat = true
        ∧ permits (if (s.port tx.port).declared then (s.port tx.port).period.toNat else 20000) (s.bandOf tx.port band) k = true
      permitted c → (∀ k, permitted k → codeRank k ≤ codeRank c) →
      Gives (exec (.propose tx offer band (crc16 ([0x01] ++ be16 offer))) s) (fun t =>
        (t.port tx.port).chosen = BitVec.setWidth 8 c ∧ (t.port tx.port).vqband = s.bandOf tx.port band
        ∧ (t.port tx.port).atRise = (s.port tx.port).atRise ++ [.trialEnter c]
        ∧ (s.drives tx.port = true → (t.port tx.port).reply.data.head? = some (BitVec.setWidth 8 c))
        ∧ t = { s with ports := t.ports } ∧ ∀ q : PortId, q ≠ tx.port → t.port q = s.port q)
      ∧ ∀ (u : State) (n : PortId), u.riseAct n (.trialEnter c) = u.modPort n (fun x =>
          { x with trial := true, trialMode := c, swept := false, trialTaps := x.taps, trainResult := 1 }))
  ∧ (∀ (s : State) (tx : Tx) (samples : Vector (BitVec 8192) 8), s.takesOnTrial tx = true →
      let tap := fun (k : Fin 8) => tapFor (passOf k samples[k.val])
      ((∀ k ∈ trialLanes (s.port tx.port).trialMode, (tap k).isSome = true) → Gives (exec (.sweep tx samples) s) (fun t =>
        (t.port tx.port).swept = true ∧ (t.port tx.port).trainResult = 2
        ∧ ((s.port tx.port).override = false →
            ∀ k ∈ trialLanes (s.port tx.port).trialMode, some (tapOf (t.port tx.port).trialTaps k.val) = tap k)
        ∧ (∀ k : Fin 8, k ∉ trialLanes (s.port tx.port).trialMode ∨ (s.port tx.port).override = true →
            tapOf (t.port tx.port).trialTaps k.val = tapOf (s.port tx.port).trialTaps k.val)
        ∧ (t.port tx.port).atRise = (s.port tx.port).atRise
        ∧ t = { s with ports := t.ports } ∧ ∀ q : PortId, q ≠ tx.port → t.port q = s.port q))
      ∧ ((∃ k ∈ trialLanes (s.port tx.port).trialMode, tap k = none) → Gives (exec (.sweep tx samples) s) (fun t =>
        (t.port tx.port).atRise = (s.port tx.port).atRise ++ [.trialEnd 5] ∧ (t.port tx.port).swept = (s.port tx.port).swept
        ∧ t = { s with ports := t.ports } ∧ ∀ q : PortId, q ≠ tx.port → t.port q = s.port q)))
  ∧ (∀ (k : Fin 8) (samples : BitVec 8192) (r : Nat), r < 32 →
      ((passOf k samples).getLsbD r = true ↔ ∀ i, i < 256 → samples.getMsbD (256 * r + i) = ehrifBit k i))
  ∧ (∀ (s : State) (tx : Tx), s.takesOnTrial tx = true → (s.port tx.port).swept = true →
      let code : Byte := BitVec.setWidth 8 (s.port tx.port).trialMode
      Gives (exec (.confirm tx code (~~~ code) (crc16 [0x03, code, ~~~ code])) s) (fun t =>
        (t.port tx.port).atRise = (s.port tx.port).atRise ++ [.confirm (s.port tx.port).trialMode]
        ∧ (t.port tx.port).reply = s.replyOf tx.port .ok [code]
        ∧ t = { s with ports := t.ports } ∧ ∀ q : PortId, q ≠ tx.port → t.port q = s.port q)
      ∧ ∀ (u : State) (n : PortId) (m : BitVec 4), u.riseAct n (.confirm m) = u.modPort n (fun x =>
          { x with mode := m, plain := false, trial := false, swept := false,
                   taps := if x.override then x.taps else x.trialTaps, trainResult := 3 }))
  ∧ ∀ (s : State) (tx : Tx), s.takes tx = true ∨ s.takesOnTrial tx = true →
      Gives (exec (.revert tx 0x04 (crc16 [0x04])) s) (fun t =>
        (t.port tx.port).atRise = (s.port tx.port).atRise ++ [.revert] ∧ (t.port tx.port).reply = s.replyOf tx.port .ok []
        ∧ t = { s with ports := t.ports } ∧ ∀ q : PortId, q ≠ tx.port → t.port q = s.port q)
      ∧ ∀ (u : State) (n : PortId), u.riseAct n .revert = u.modPort n (fun x =>
          { x with mode := 0, plain := true, trial := false, trialMode := 0, swept := false, armed := false,
                   taps := if x.override then x.taps else 0x8421084210, reverts := x.reverts + 1, waits := 8, waitsSet := 8,
                   trainResult := 9 })

/-- R158, R160 to R164: SCK edges of a chain frame shift a segment in. At the CS# rise, the segment in the shifter after
exactly LEN edges is latched if it keeps R162: a NOP does nothing more, a REGWR takes its entry, an EXIT ends chain mode. One
that breaks R162 is rejected and counted. -/
def Obligations.ChainFrames : Prop :=
  (∀ (s : State) (n : PortId) (edges : Nat) (g : ChainSeg), (s.port n).low = true → (s.port n).chainFrame = true →
      let shifted := Host.Outcome.next (s.modPort n (fun p => { p with
        shifter := if 128 ≤ edges then segBits g
          else (p.shifter <<< edges) ||| (segBits g &&& BitVec.ofNat 128 (2 ^ edges - 1)),
        frameEdges := p.frameEdges + edges }))
      (g.action = 0 → exec (.chainNop n edges g) s = shifted) ∧ (g.action = 1 → exec (.chainRegwr n edges g) s = shifted)
      ∧ (g.action = 2 → exec (.chainExit n edges g) s = shifted))
  ∧ (∀ g : ChainSeg, segOf (segBits g) = g)
  ∧ (∀ (s : State) (n : PortId) (g : ChainSeg) (edges : Nat),
      let good := edges = (s.port n).lenNow.toNat ∧ g.magic = 0xC4 ∧ g.pad = 0 ∧ g.target.extractLsb' 3 4 = 0
        ∧ g.regnum.extractLsb' 12 4 = 0
        ∧ g.crc = crc16 ([g.magic, g.target, g.action] ++ be16 g.regnum ++ be64 g.value ++ [g.pad])
        ∧ g.action.toNat ≤ 2 ∧ (g.target.getLsbD 7 = true ∨ g.target.extractLsb' 0 3 = (s.port n).chipid)
      (good → g.action = 0 → s.chainRise n edges g =
          s.modPort n (fun p => { p with lastok := true, lastbad := false, latches := p.latches + 1 }))
      ∧ (good → g.action = 1 → s.chainRise n edges g =
          (s.takeEntry n (g.regnum.extractLsb' 0 12) g.value).1.modPort n
            (fun p => { p with lastok := true, lastbad := false, latches := p.latches + 1 }))
      ∧ (good → g.action = 2 → s.chainRise n edges g =
          s.modPort n (fun p => { p with chainEn := false, lastok := true, lastbad := false, latches := p.latches + 1 }))
      ∧ (¬ good → s.chainRise n edges g =
          s.modPort n (fun p => { p with lastok := false, lastbad := true, rejects := p.rejects + 1 })))
  ∧ ∀ (s : State) (n : PortId), (s.port n).low = true → (s.port n).chainFrame = true → (s.port n).atRise = [] →
      (s.port n).upload = none → (s.port n).fetch = none → (s.port n).fetchBank = none → s.pace.holder.isSome = true →
      s.pace.holder ≠ some n → s.pace.oldPacer = none → (segOf (s.port n).shifter).action ≠ 1 →
      let u := s.chainRise n (s.port n).frameEdges (segOf (s.port n).shifter)
      Gives (exec (.csRise (1 <<< n.val) {
      late := 0, cuts := [] }) s) (fun t =>
        (t.port n).lastok = (u.port n).lastok ∧ (t.port n).lastbad = (u.port n).lastbad
        ∧ (t.port n).latches = (u.port n).latches ∧ (t.port n).rejects = (u.port n).rejects
        ∧ (t.port n).chainEn = (u.port n).chainEn ∧ (t.port n).csLow = false ∧ (t.port n).chainFrame = false
        ∧ t.mem = s.mem ∧ t.pace = s.pace ∧ t.glob = s.glob ∧ ∀ q : PortId, q ≠ n → t.port q = s.port q)

/-! ### Ledger packets -/

/-- R193 to R202, R211 to R225, R235, R256, R389: a packet of any queued opcode that keeps framing, with its payload where it has
one, and passes every check of Table 06.2 takes a free slot, is charged to its subscriber's meter, enters its memory, and
stands QUEUED as it came; its receipt names slot and colour. A FETCH, LAY or HAUL has a yard slot that was free. Nothing else
of the block changes. A packet whose payload is still to come holds its slot, its charge and its yard slot in ADMITTING, with
no reply yet. -/
def Obligations.PacketsAreQueued : Prop :=
  (∀ (c : Instr) (s : State) (tx : Tx) (op : Byte) (pk : Packet) (payload : Option (List Word × BitVec 16)),
    s.ledgerOk = true → packetOf c = some (tx, op, pk, payload) → op ≠ opCancel → op ≠ opLevelRaise → op ≠ opRegress →
    payloadGood op pk payload = true → s.framed tx op pk = true → s.admits tx.port (askOf tx.port op pk []) = true →
    Gives (exec c s) (fun t => ∃ (o : Op) (k : Fin 256),
      t.ledger.ops = s.ledger.ops ++ [o] ∧ k ∈ s.freeSlots ∧ o.origin = .ledger k
      ∧ o.id = s.ledger.nextId + (if payloadStones op pk = 0 then 0 else 1)
      ∧ t.ledger.nextId = o.id + 1 ∧ o.state = .queued ∧ o.work = .waiting ∧ o.port = tx.port ∧ o.opcode = op
      ∧ o.sub = (pk.sub.extractLsb' 0 5).toFin ∧ o.seq = pk.seq ∧ o.addr = pk.addr ∧ o.count = pk.count ∧ o.after = pk.after
      ∧ o.wait = pk.wait ∧ o.signal = pk.signal ∧ o.flags = pk.flags ∧ o.units = 0 ∧ o.admitted = s.stamp
      ∧ o.latched = s.eventSet pk.wait
      ∧ o.payload = (if op = opLay then (payloadOf payload).take (payloadStones op pk) else [])
      ∧ (op = opHaul → o.src = ((payloadOf payload).headD 0).extractLsb' 32 32)
      ∧ (takesYard op = true → ∃ y ∈ s.freeYardSlots, o.yard = some y) ∧ (takesYard op = false → o.yard = none)
      ∧ (ledgerOnly op = true → o.colour = .none ∧ o.charge = 0)
      ∧ (ledgerOnly op = false → o.charge = s.chargeOf op pk.count.toNat
          ∧ some o.colour = (s.sub o.sub).colourOf o.charge)
      ∧ (∀ i : SubId, i ≠ o.sub → t.sub i = s.sub i)
      ∧ t.sub o.sub = ((if ledgerOnly op then s.sub o.sub else (s.sub o.sub).charged o.charge).remember pk.seq o.id)
      ∧ (t.port tx.port).reply =
          s.replyOf tx.port .ok (withCrc ([0x00, 0x00, BitVec.ofNat 8 k.val, o.colour.code] ++ be16 0))
      ∧ (∀ q : PortId, q ≠ tx.port → t.port q = s.port q)
      ∧ t.mem = s.mem ∧ t.banks = s.banks ∧ t.gals = s.gals ∧ t.gates = s.gates ∧ t.annex = s.annex ∧ t.life = s.life
      ∧ t.plinth = s.plinth ∧ t.boot = s.boot ∧ t.power = s.power ∧ t.upkeep = s.upkeep ∧ t.glob = s.glob
      ∧ t.pace = { s.pace with stage := orderPacket tx.port } ∧ t.pins = s.pins ∧ t.pending = s.pending))
  ∧ ∀ (c : Instr) (s : State) (tx : Tx) (op : Byte) (pk : Packet), s.ledgerOk = true →
    packetOf c = some (tx, op, pk, none) → payloadStones op pk ≠ 0 → s.framed tx op pk = true →
    s.admits tx.port (askOf tx.port op pk []) = true →
    Gives (exec c s) (fun t => ∃ (o : Op) (k : Fin 256),
      t.ledger.ops = s.ledger.ops ++ [o] ∧ k ∈ s.freeSlots ∧ o.origin = .ledger k ∧ o.id = s.ledger.nextId
      ∧ o.state = .admitting ∧ o.opcode = op ∧ o.sub = (pk.sub.extractLsb' 0 5).toFin ∧ o.charge = s.chargeOf op pk.count.toNat
      ∧ (∃ y ∈ s.freeYardSlots, o.yard = some y) ∧ t.sub o.sub = (s.sub o.sub).charged o.charge
      ∧ (∀ i : SubId, i ≠ o.sub → t.sub i = s.sub i)
      ∧ (∃ u, (t.port tx.port).upload = some u ∧ u.op = op ∧ u.pkt = pk ∧ ∃ l, u.state = .admitted o.id l)
      ∧ (t.port tx.port).reply = (s.port tx.port).reply ∧ (∀ q : PortId, q ≠ tx.port → t.port q = s.port q)
      ∧ t.trace.entries = s.trace.entries ∧ t.mem = s.mem ∧ t.banks = s.banks ∧ t.glob = s.glob)

/-- R246, R247, Table 06.5: a CANCEL that passes admission completes DONE on its commit edge, with UNITS 1 if it ended or
marked its target and 0 if not, and its record names it; it changes no cell. Where the target lookup, after the CANCEL has
entered its subscriber's memory, finds a QUEUED operation of the ledger other than a REGRESS, LEVEL_RAISE or CANCEL, UNITS is
1 and that operation has ended CANCELLED. -/
def Obligations.CancelCompletes : Prop :=
  ∀ (s : State) (tx : Tx) (pk : Packet), s.ledgerOk = true → s.framed tx opCancel pk = true →
    s.admits tx.port (askOf tx.port opCancel pk []) = true →
    Gives (exec (.cancel tx pk) s) (fun t =>
      (∃ o ∈ t.ledger.ops, o.id = s.ledger.nextId ∧ o.state = .complete ∧ o.opcode = opCancel ∧ o.result = rDone
        ∧ (o.units = 0 ∨ o.units = 1) ∧ o.stamp = s.stamp ∧ o.seq = pk.seq ∧ o.sub = (pk.sub.extractLsb' 0 5).toFin
        ∧ (∀ x : Op, ((s.received tx 0x7E).modSub o.sub (fun u => u.remember pk.seq s.ledger.nextId)).cancelTarget pk.addr = some x →
            x.state = .queued → x.opcode ≠ opRegress → x.opcode ≠ opLevelRaise → x.opcode ≠ opCancel → o.units = 1
            ∧ ∀ y ∈ t.ledger.ops, y.id = x.id → y.state = .complete ∧ y.result = rCancelled))
      ∧ t.mem = s.mem ∧ t.gates = s.gates ∧ t.life = s.life ∧ t.plinth = s.plinth ∧ t.pins = s.pins
      ∧ t.pace = { s.pace with stage := orderPacket tx.port } ∧ t.pending = s.pending)

/-- R442 to R450: a LEVEL_RAISE that passes admission while no journal write is under way and WP# is high starts one, a
LEVEL_SET record of its target level in the older journal copy; it runs until that record has been written. A REGRESS that
passes admission stands QUEUED, and the FY16 drains. The level itself does not change yet. -/
def Obligations.LevelPacketsStart : Prop :=
  (∀ (s : State) (tx : Tx) (pk : Packet), s.ledgerOk = true → s.framed tx opLevelRaise pk = true →
      s.admits tx.port (askOf tx.port opLevelRaise pk []) = true → s.journalFree = true → pk.after = 0xFF → pk.wait = 0xFF →
      (∀ o ∈ s.ledger.ops, o.opcode ≠ opLevelRaise ∧ (o.opcode = opFence → o.state = .complete)) →
      Gives (exec (.levelRaise tx pk) s) (fun t =>
        (∃ o ∈ t.ledger.ops, o.id = s.ledger.nextId ∧ o.state = .running ∧ o.opcode = opLevelRaise ∧ o.count = pk.count)
        ∧ (let w0 := recordWord0 kLevelSet (BitVec.ofNat 8 pk.count.toNat) s.plinth.target.2
           let j : JWrite :=
             { copy := s.plinth.target.1, w0 := w0, w1 := recordWord1 w0 s.stamp, purpose := .raise s.ledger.nextId }
           t.plinth = { s.plinth with jwrite := some j })
        ∧ t.life = s.life ∧ t.mem = s.mem ∧ t.gates = s.gates ∧ t.banks = s.banks))
  ∧ ∀ (s : State) (tx : Tx) (pk : Packet), s.framed tx opRegress pk = true →
      s.admits tx.port (askOf tx.port opRegress pk []) = true →
      Gives (exec (.regress tx pk) s) (fun t =>
        (∃ o, t.ledger.ops = s.ledger.ops ++ [o] ∧ o.id = s.ledger.nextId ∧ o.state = .queued ∧ o.opcode = opRegress)
        ∧ t.life = { s.life with phase := 1 } ∧ t.plinth = s.plinth ∧ t.mem = s.mem ∧ t.gates = s.gates ∧ t.banks = s.banks)

/-! ### Register writes -/

/-- R40, R41 and R42, with R43: what a write of HnPERIOD does on the edge that takes it and, at the CS# rise that ends the
writing transaction, to the period that pace edges of port n have. -/
def Obligations.DeclaringAPeriod : Prop :=
  (∀ (s : State) (tx : Tx) (n : PortId) (v : Word), s.mayWrite tx (BitVec.ofNat 12 (0x103 + 0x20 * n.val)) = true →
      exec (.declarePeriod tx n v) s = .next (s.afterWrite tx (fun t =>
        (if v.extractLsb' 0 32 = 0 then t.modPort n (fun p => { p with period := 0, declared := false })
         else if (v.extractLsb' 0 32).toNat ≤ 4999 then t.modPace (fun c => { c with badperiod := true })
         else t.modPort n (fun p => { p with period := v.extractLsb' 0 32, declared := true })).leaves
          tx.port (.regAct (BitVec.ofNat 12 (0x103 + 0x20 * n.val)) v))))
  ∧ ∀ (u : State) (m n : PortId) (v : Word), u.riseAct m (.regAct (BitVec.ofNat 12 (0x103 + 0x20 * n.val)) v) =
      if v.extractLsb' 0 32 = 0 then u.modPort n (fun p => { p with periodNow := 0, declaredNow := false })
      else if (v.extractLsb' 0 32).toNat ≤ 4999 then u
      else u.modPort n (fun p => { p with periodNow := v.extractLsb' 0 32, declaredNow := true })

/-- R39, R89, R112, R114, R151, R153, R217: PACE_CTRL, HnTIMING, HnLEN, HnCHAIN and HnSUBS. -/
def Obligations.PortRegisters : Prop :=
  (∀ (s : State) (tx : Tx) (v : Word), s.mayWrite tx 0x008 = true →
      exec (.pacePolicy tx v) s = .next (s.afterWrite tx (fun t => t.leaves tx.port (.regAct 0x008 v))))
  ∧ (∀ (u : State) (m : PortId) (v : Word), v.getLsbD 0 = false → u.pace.holder.isSome = true →
      u.riseAct m (.regAct 0x008 v) = u.modPace (fun x => { x with policy := false, fixedPort := (v.extractLsb' 4 3).toFin }))
  ∧ (∀ (s : State) (tx : Tx) (n : PortId) (v : Word), s.mayWrite tx (BitVec.ofNat 12 (0x101 + 0x20 * n.val)) = true →
      exec (.waits tx n v) s = .next (s.afterWrite tx (fun t => (t.modPort n (fun p =>
        if 2 ≤ (v.extractLsb' 0 5).toNat then { p with holdLimit := v.extractLsb' 32 20, waits := v.extractLsb' 0 5 }
        else { p with holdLimit := v.extractLsb' 32 20, badset := true })).leaves
          tx.port (.regAct (BitVec.ofNat 12 (0x101 + 0x20 * n.val)) v))))
  ∧ (∀ (u : State) (m n : PortId) (v : Word), u.riseAct m (.regAct (BitVec.ofNat 12 (0x101 + 0x20 * n.val)) v) =
      u.modPort n (fun p => if 2 ≤ (v.extractLsb' 0 5).toNat then
        { p with holdLimitSet := v.extractLsb' 32 20, waitsSet := v.extractLsb' 0 5 } else { p with holdLimitSet := v.extractLsb' 32 20 }))
  ∧ (∀ (s : State) (tx : Tx) (n : PortId) (v : Word), s.mayWrite tx (BitVec.ofNat 12 (0x102 + 0x20 * n.val)) = true →
      exec (.len tx n v) s = .next (s.afterWrite tx (fun t => (t.modPort n (fun p =>
        if 1 ≤ (v.extractLsb' 0 14).toNat ∧ (v.extractLsb' 0 14).toNat ≤ 8192 then { p with len := v.extractLsb' 0 14 }
        else { p with badset := true })).leaves tx.port (.regAct (BitVec.ofNat 12 (0x102 + 0x20 * n.val)) v))))
  ∧ (∀ (u : State) (m n : PortId) (v : Word), u.riseAct m (.regAct (BitVec.ofNat 12 (0x102 + 0x20 * n.val)) v) =
      u.modPort n (fun p => if 1 ≤ (v.extractLsb' 0 14).toNat ∧ (v.extractLsb' 0 14).toNat ≤ 8192 then
        { p with lenSet := v.extractLsb' 0 14 } else p))
  ∧ (∀ (s : State) (tx : Tx) (n : PortId) (v : Word), s.mayWrite tx (BitVec.ofNat 12 (0x113 + 0x20 * n.val)) = true →
      (∀ w : Word, w = v ||| 1 → exec (.chainModeEnable tx n v) s = .next (s.afterWrite tx (fun t =>
        (t.modPort n (fun p => { p with chainWpx := p.chainWpx && !w.getLsbD 4 })).leaves
          tx.port (.regAct (BitVec.ofNat 12 (0x113 + 0x20 * n.val)) w))))
      ∧ exec (.booten tx n v) s = .next (s.afterWrite tx (fun t =>
        (t.modPort n (fun p => { p with chainWpx := p.chainWpx && !v.getLsbD 4 })).leaves
          tx.port (.regAct (BitVec.ofNat 12 (0x113 + 0x20 * n.val)) v))))
  ∧ (∀ (u : State) (m n : PortId) (v : Word), v.getLsbD 1 = (u.port n).booten →
      u.riseAct m (.regAct (BitVec.ofNat 12 (0x113 + 0x20 * n.val)) v) = u.modPort n (fun p =>
        if v.getLsbD 0 = false then { p with chainEn := false }
        else if p.mode = 0 ∧ p.trial = false then { p with chainEn := true } else { p with modeConflict := true }))
  ∧ (∀ (u : State) (m n : PortId) (v : Word), v.getLsbD 1 ≠ (u.port n).booten →
      Gives (.next (u.riseAct m (.regAct (BitVec.ofNat 12 (0x113 + 0x20 * n.val)) v))) (fun t =>
        if u.pins.wp then (t.port n).booten = v.getLsbD 1 ∧ t.plinth.queue.length = u.plinth.queue.length + 1
        else (t.port n).booten = (u.port n).booten ∧ (t.port n).chainWpx = true ∧ t.plinth = u.plinth))
  ∧ ∀ (s : State) (tx : Tx) (n : PortId) (v : Word), s.mayWrite tx (BitVec.ofNat 12 (0x106 + 0x20 * n.val)) = true →
      exec (.subscriberMask tx n v) s = .next (s.afterWrite tx (fun t => t.modPort n (fun p =>
        if (v.extractLsb' 32 32).getLsbD (v.extractLsb' 0 5).toNat then
          { p with mask := v.extractLsb' 32 32, dflt := v.extractLsb' 0 5, subx := p.subx && !v.getLsbD 8 }
        else { p with subx := true })))

/-- R213, R214, R231, R237, R260: SnQUOTA, DEDUP_CTRL.FORGET, EVENT_SET, EVENT_CLR and LEDGER_SEL. -/
def Obligations.LedgerRegisters : Prop :=
  (∀ (s : State) (tx : Tx) (i : SubId) (v : Word), s.mayWrite tx (BitVec.ofNat 12 (0x306 + 8 * i.val)) = true →
      exec (.quota tx i v) s = .next (s.afterWrite tx (fun t => t.modSub i (fun u =>
        if (v.extractLsb' 0 6).toNat ≤ 32 ∧ (v.extractLsb' 0 6).toNat ≤ (v.extractLsb' 16 9).toNat ∧ 1 ≤ (v.extractLsb' 16 9).toNat
            ∧ (v.extractLsb' 16 9).toNat ≤ 256
            ∧ ((allSubs.filter (fun j => j != i)).map (fun j => (s.sub j).reserve.toNat)).sum + (v.extractLsb' 0 6).toNat ≤ 256
        then { u with reserve := v.extractLsb' 0 6, max := v.extractLsb' 16 9, quotax := u.quotax && !v.getLsbD 15 }
        else { u with quotax := true }))))
  ∧ (∀ (s : State) (tx : Tx) (v : Word), s.mayWrite tx 0x08A = true → s.fullWrite tx.port = true →
      exec (.forget tx v) s = .next (s.afterWrite tx (fun t =>
        (t.modLedger (fun l => { l with dedupOff := (v ||| 0x20).extractLsb' 32 32, dedupSub := v.extractLsb' 0 5 })).modSub
          (v.extractLsb' 0 5).toFin (fun u => { u with dedup := [] }))))
  ∧ (∀ (s : State) (tx : Tx) (v : Word), s.mayWrite tx 0x08A = true → s.fullWrite tx.port = false →
      exec (.forget tx v) s = .next (s.afterWrite tx (fun t =>
        if (s.port tx.port).mask.getLsbD (v.extractLsb' 0 5).toNat then
          (t.modLedger (fun l => { l with dedupSub := v.extractLsb' 0 5 })).modSub (v.extractLsb' 0 5).toFin (fun u => { u with dedup := [] })
        else t)))
  ∧ (∀ (s : State) (tx : Tx) (v : Word), s.mayWrite tx 0x081 = true →
      exec (.eventSet tx v) s = .next (s.afterWrite tx (fun t => t.modLedger (fun l => { l with
        events := l.events ||| v,
        ops := l.ops.map (fun o => if (o.state == .queued || o.state == .admitting) && decide (o.wait.toNat < 64)
          && (l.events ||| v).getLsbD o.wait.toNat then { o with latched := true } else o) }))))
  ∧ (∀ (s : State) (tx : Tx) (v : Word), s.mayWrite tx 0x082 = true →
      exec (.eventClr tx v) s = .next (s.afterWrite tx (fun t => t.modLedger (fun l => { l with events := l.events &&& ~~~ v }))))
  ∧ ∀ (s : State) (tx : Tx) (v : Word), s.mayWrite tx 0x084 = true →
      Gives (exec (.ledgerSel tx v) s) (fun t =>
        t.ledger.sel = v.extractLsb' 0 8
        ∧ (s.opOfSlot (v.extractLsb' 0 8).toFin = none →
            t.ledger.view0 = 0 ∧ t.ledger.view1 = 0xFFFF ∧ t.ledger.view2 = 0xFF00FF0000000000 ∧ t.ledger.view3 = 0)
        ∧ (∀ o, s.opOfSlot (v.extractLsb' 0 8).toFin = some o →
            t.ledger.view0 = o.view0 ∧ t.ledger.view1 = o.view1 ∧ t.ledger.view2 = s.view2 o ∧ t.ledger.view3 = s.view3 o)
        ∧ t.ledger.ops = s.ledger.ops ∧ t.mem = s.mem ∧ t.subs = s.subs ∧ t.banks = s.banks
        ∧ t.glob = { s.glob with regwrites := s.glob.regwrites + 1 })

/-- R25, R387, R388, R405, R408, R410, R550: meters, samples, tokens, the peak and minimum readings, and the trace. -/
def Obligations.SchedulingRegisters : Prop :=
  (∀ (s : State) (tx : Tx) (i : SubId) (v : Word), s.mayWrite tx (BitVec.ofNat 12 (0x300 + 8 * i.val)) = true →
      exec (.meterBurstWrite tx i false v) s =
        .next (s.afterWrite tx (fun t => t.leaves tx.port (.regAct (BitVec.ofNat 12 (0x300 + 8 * i.val)) v))))
  ∧ (∀ (s : State) (tx : Tx) (i : SubId) (v : Word), s.mayWrite tx (BitVec.ofNat 12 (0x301 + 8 * i.val)) = true →
      exec (.meterBurstWrite tx i true v) s =
        .next (s.afterWrite tx (fun t => t.leaves tx.port (.regAct (BitVec.ofNat 12 (0x301 + 8 * i.val)) v))))
  ∧ (∀ (u : State) (m : PortId) (i : SubId) (v : Word),
      u.riseAct m (.regAct (BitVec.ofNat 12 (0x300 + 8 * i.val)) v) = u.modSub i (fun x =>
        { x with cir := v.extractLsb' 32 32, cbs := v.extractLsb' 0 32, tc := min x.tc ((v.extractLsb' 0 32).toNat * 65536) })
      ∧ u.riseAct m (.regAct (BitVec.ofNat 12 (0x301 + 8 * i.val)) v) = u.modSub i (fun x =>
        { x with pir := v.extractLsb' 32 32, pbs := v.extractLsb' 0 32, tp := min x.tp ((v.extractLsb' 0 32).toNat * 65536) }))
  ∧ (∀ (s : State) (tx : Tx) (i : SubId) (v : Word), s.mayWrite tx (BitVec.ofNat 12 (0x304 + 8 * i.val)) = true →
      exec (.fill tx i v) s =
        .next (s.afterWrite tx (fun t => t.leaves tx.port (.regAct (BitVec.ofNat 12 (0x304 + 8 * i.val)) (v ||| 1))))
      ∧ ∀ (u : State) (m : PortId), u.riseAct m (.regAct (BitVec.ofNat 12 (0x304 + 8 * i.val)) (v ||| 1)) =
          u.modSub i (fun x => { x with tc := x.cbs.toNat * 65536, tp := x.pbs.toNat * 65536 }))
  ∧ (∀ (s : State) (tx : Tx) (v : Word), s.mayWrite tx 0x480 = true →
      exec (.clearmax tx v) s =
        .next (s.afterWrite tx (fun t => t.leaves tx.port (.regAct 0x480 (v ||| 0x20000000000))))
      ∧ ∀ (u : State) (m : PortId), Gives (.next (u.riseAct m (.regAct 0x480 (v ||| 0x20000000000)))) (fun t =>
          (∀ (i : SubId) (k : SvcId), ((t.sub i).leaf[k.val]).maxdelay = 0 ∧ ((t.sub i).leaf[k.val]).maxdepth = 0
            ∧ ((t.sub i).leaf[k.val]).delay = ((u.sub i).leaf[k.val]).delay ∧ ((t.sub i).leaf[k.val]).depth = ((u.sub i).leaf[k.val]).depth)
          ∧ t.power = { u.power with
              sampleFreeze := v.getLsbD 40, sampleScope := v.extractLsb' 32 3, sampleInt := v.extractLsb' 0 32 }))
  ∧ (∀ (s : State) (tx : Tx) (v : Word), s.mayWrite tx 0x04C = true →
      exec (.tokenwait tx v) s = .next (s.afterWrite tx (fun t => t.leaves tx.port (.regAct 0x04C v)))
      ∧ ∀ (u : State) (m : PortId), u.riseAct m (.regAct 0x04C v) = u.modPower (fun w => { w with
          tokens := v &&& 0x000FFFFFFFFFFFFF, reserved := if v.extractLsb' 32 20 = 0 then none else w.reserved }))
  ∧ (∀ (s : State) (tx : Tx) (v : Word), s.mayWrite tx 0x041 = true →
      exec (.peakclr tx v) s = .next (s.afterWrite tx (fun t => t.modPower (fun w => { w with
        peak := BitVec.ofNat 16 s.heldTokens, badset := w.badset && !v.getLsbD 2, brownseen := w.brownseen && !v.getLsbD 1 }))))
  ∧ (∀ (s : State) (tx : Tx) (v : Word), s.mayWrite tx 0x042 = true →
      exec (.minclr tx v) s = .next (s.afterWrite tx (fun t => t.modPower (fun w => { w with min := w.mv }))))
  ∧ ∀ (s : State) (tx : Tx) (v : Word), s.mayWrite tx 0xE40 = true →
      exec (.empty tx v) s = .next (s.afterWrite tx (fun t => { t with trace := { t.trace with
        entries := Vector.replicate 64 0, next := 0, fill := 0, freeze := v.getLsbD 0 } }))

/-- R363, R367, R375, R376, R538, R551: KILN_CTRL, SCRUB_CTRL, BnPLUMB, GnTAMP and the pump registers, the last three acting
at the CS# rise. -/
def Obligations.LoopRegisters : Prop :=
  (∀ (s : State) (tx : Tx) (v : Word), s.mayWrite tx 0x732 = true →
      exec (.kilnAt tx v) s = .next (s.afterWrite tx (fun t => t.modUpkeep (fun u =>
        if 1000 ≤ (v.extractLsb' 0 16).toNat ∧ (v.extractLsb' 0 16).toNat ≤ 20000 then { u with kilnAt := v.extractLsb' 0 16 }
        else { u with badset := true }))))
  ∧ (∀ (s : State) (tx : Tx) (v : Word), s.mayWrite tx 0x733 = true →
      exec (.fixmax tx v) s = .next (s.afterWrite tx (fun t => t.modUpkeep (fun u =>
        if 1 ≤ (v.extractLsb' 40 8).toNat ∧ (v.extractLsb' 40 8).toNat ≤ 64 then
          { u with scrubInt := v.extractLsb' 0 32, fixmax := v.extractLsb' 40 8 }
        else { u with scrubInt := v.extractLsb' 0 32, badset := true }))))
  ∧ (∀ (s : State) (tx : Tx) (b : Fin 64) (v : Word), s.mayWrite tx (BitVec.ofNat 12 (0x603 + 4 * b.val)) = true →
      exec (.plumbWrite tx b v) s =
        .next (s.afterWrite tx (fun t => t.leaves tx.port (.regAct (BitVec.ofNat 12 (0x603 + 4 * b.val)) v)))
      ∧ ∀ (u : State) (m : PortId), u.riseAct m (.regAct (BitVec.ofNat 12 (0x603 + 4 * b.val)) v) = u.modBank (bankIx b) (fun k =>
          { k with plumbEdge := k.plumbEdge && !v.getLsbD 34, plumbOver := v.getLsbD 33, plumbFreeze := v.getLsbD 32, plumbLean := 0,
                   setref := v.extractLsb' 8 6, ref := v.extractLsb' 0 6 }))
  ∧ (∀ (s : State) (tx : Tx) (g : GalId) (v : Word), s.mayWrite tx (BitVec.ofNat 12 (0x048 + g.val)) = true →
      exec (.tampWrite tx g v) s =
        .next (s.afterWrite tx (fun t => t.leaves tx.port (.regAct (BitVec.ofNat 12 (0x048 + g.val)) v)))
      ∧ ∀ (u : State) (m : PortId), u.riseAct m (.regAct (BitVec.ofNat 12 (0x048 + g.val)) v) = u.modGal g (fun x =>
          { x with tampEdge := x.tampEdge && !v.getLsbD 42, tampOver := v.getLsbD 41, tampFreeze := v.getLsbD 40, tampLean := 0,
                   setWidth := v.extractLsb' 24 6, setHeight := v.extractLsb' 16 5, width := v.extractLsb' 8 6,
                   height := v.extractLsb' 0 5 }))
  ∧ ∀ (s : State) (tx : Tx) (g : GalId) (cp : Bool) (v : Word),
      s.mayWrite tx (BitVec.ofNat 12 ((if cp then 0x054 else 0x050) + g.val)) = true →
      exec (.pumpWrite tx g cp v) s = .next (s.afterWrite tx (fun t =>
        t.leaves tx.port (.regAct (BitVec.ofNat 12 ((if cp then 0x054 else 0x050) + g.val)) v)))
      ∧ ∀ (u : State) (m : PortId), 2 ≤ (v.extractLsb' 12 4).toNat → (v.extractLsb' 12 4).toNat ≤ 8 →
          2 ≤ (v.extractLsb' 4 4).toNat → (v.extractLsb' 4 4).toNat ≤ 8 →
          let set := fun (p : Pump) => { p with
            override := v.getLsbD 33, freeze := v.getLsbD 32, lean := 0, setStages := v.extractLsb' 12 4,
            setPhase := v.extractLsb' 8 4, stages := v.extractLsb' 4 4, phase := v.extractLsb' 0 4 }
          u.riseAct m (.regAct (BitVec.ofNat 12 ((if cp then 0x054 else 0x050) + g.val)) v) =
            u.modGal g (fun x => if cp then { x with cpump := set x.cpump } else { x with lpump := set x.lpump })

/-- R415, R416, R425 to R429, R431, R435: an EN = 1 write enables a gate whose enabled regions are well formed and do not
overlap, and raises its epoch; else it sets FAULT with the first fault and INT_STAT.GATE. An EN = 0 write disables at once.
SAVE writes the image at level OPEN with WP# high. -/
def Obligations.GateRegisters : Prop :=
  (∀ (s : State) (tx : Tx) (g : GateId) (v : Word), s.mayWrite tx (BitVec.ofNat 12 (0x800 + 0x10 * g.val)) = true →
      (s.gate g).en = false → v.getLsbD 3 = false →
      let r := fun (i : Fin 8) => (s.gate g).regions[i.val]
      let bad := fun (i : Fin 8) => regEn (r i) = true ∧ regWellFormed g (r i) = false
      let clash := fun (i j : Fin 8) => i < j ∧ regEn (r i) = true ∧ regEn (r j) = true ∧ regOverlap (r i) (r j) = true
      ((∀ i, ¬ bad i) → (∀ i j, ¬ clash i j) → exec (.gateEnable tx g v) s = .next (s.afterWrite tx (fun t =>
          t.modGate g (fun x => { x with en := true, strict := v.getLsbD 1, epoch := x.epoch + 1, fault := 0 }))))
      ∧ (∀ i, bad i → (∀ j, j < i → ¬ bad j) → exec (.gateEnable tx g v) s = .next (s.afterWrite tx (fun t =>
          (t.modGate g (fun x => { x with
            strict := v.getLsbD 1, fault := 1, faulta := BitVec.ofNat 3 i.val, faultb := BitVec.ofNat 3 i.val })).cause cGate)))
      ∧ (∀ i j, (∀ k, ¬ bad k) → clash i j → (∀ k l, k < i ∨ (k = i ∧ l < j) → ¬ clash k l) →
          exec (.gateEnable tx g v) s = .next (s.afterWrite tx (fun t => (t.modGate g (fun x => { x with
            strict := v.getLsbD 1, fault := 2, faulta := BitVec.ofNat 3 i.val, faultb := BitVec.ofNat 3 j.val })).cause cGate))))
  ∧ (∀ (s : State) (tx : Tx) (g : GateId) (v : Word), s.mayWrite tx (BitVec.ofNat 12 (0x800 + 0x10 * g.val)) = true →
      v.getLsbD 3 = false → exec (.gateDisable tx g v) s = .next (s.afterWrite tx (fun t =>
        t.modGate g (fun x => { x with en := false, strict := if x.en then x.strict else v.getLsbD 1 }))))
  ∧ ∀ (s : State) (tx : Tx) (g : GateId) (v : Word), s.mayWrite tx (BitVec.ofNat 12 (0x800 + 0x10 * g.val)) = true →
      (s.gate g).en = true → v.getLsbD 0 = true → exec (.save tx g v) s = .next (s.afterWrite tx (fun t =>
        if s.isOpen = false then t.modLife (fun l => { l with lvlx := true })
        else if s.pins.wp = false then t.modGate g (fun x => { x with wpx := true })
        else t.plinthWrite (.image g { en := true, strict := (s.gate g).strict, regions := (s.gate g).regions })))

/-- R286, R287, R441, R431, R463 to R465: PRIV, MARK_LOCK and MAPMODE act at the CS# rise, and their new values go to the
configuration record of the plinth, while WP# is high (PRIV: at level OPEN only). LOCK and HIDE bits only ever rise. -/
def Obligations.LevelRegisters : Prop :=
  (∀ (s : State) (tx : Tx) (v : Word), s.mayWrite tx 0x011 = true →
      exec (.privWrite tx v) s = .next (s.afterWrite tx (fun t => t.leaves tx.port (.regAct 0x011 v))))
  ∧ (∀ (s : State) (tx : Tx) (v : Word), s.mayWrite tx 0x710 = true →
      exec (.lock tx v) s = .next (s.afterWrite tx (fun t => t.leaves tx.port (.regAct 0x710 v)))
      ∧ exec (.hide tx v) s = .next (s.afterWrite tx (fun t => t.leaves tx.port (.regAct 0x710 v))))
  ∧ (∀ (s : State) (tx : Tx) (v : Word), s.mayWrite tx 0x720 = true →
      exec (.mapmode tx v) s = .next (s.afterWrite tx (fun t => t.leaves tx.port (.regAct 0x720 v))))
  ∧ ∀ (u : State) (m : PortId) (v : Word),
      let saves := fun (t : State) => ∃ c : CfgRec, t.plinth.queue = u.plinth.queue ++ [.config c]
        ∧ c.priv = t.life.priv ∧ c.lock = t.life.lock ∧ c.hide = t.life.hide ∧ c.mapmode = t.glob.mapmode
        ∧ ∀ p : PortId, c.booten.getLsbD p.val = (u.port p).booten
      let keeps := fun (t : State) => t.mem = u.mem ∧ t.ledger = u.ledger ∧ t.banks = u.banks ∧ t.ports = u.ports
        ∧ t.pace = u.pace ∧ t.subs = u.subs ∧ t.gals = u.gals ∧ t.annex = u.annex
      -- PRIV
      (let t := u.riseAct m (.regAct 0x011 v)
       (u.isOpen = false → t = u.modLife (fun l => { l with lvlx := true }))
       ∧ (u.isOpen = true → u.pins.wp = false → t = u.modLife (fun l => { l with wpx := true }))
       ∧ (u.isOpen = true → u.pins.wp = true → keeps t ∧ saves t ∧ t.glob = u.glob
           ∧ t.life = { u.life with priv := v.extractLsb' 0 32 &&& 0x7FFFFFFF }
           ∧ ∀ g : GateId, t.gate g = { u.gate g with
               epoch := if (u.gate g).en = true ∧ t.life.priv ≠ u.life.priv then (u.gate g).epoch + 1 else (u.gate g).epoch }))
      -- MARK_LOCK
      ∧ (let t := u.riseAct m (.regAct 0x710 v)
         (v.extractLsb' 0 32 = 0 → t = u)
         ∧ (v.extractLsb' 0 32 ≠ 0 → u.pins.wp = false → t = u.modLife (fun l => { l with wpx := true }))
         ∧ (v.extractLsb' 0 32 ≠ 0 → u.pins.wp = true → keeps t ∧ saves t ∧ t.glob = u.glob ∧ t.gates = u.gates
             ∧ t.life = { u.life with lock := u.life.lock ||| v.extractLsb' 0 16, hide := u.life.hide ||| v.extractLsb' 16 16 }))
      -- MAPMODE
      ∧ (let t := u.riseAct m (.regAct 0x720 v)
         (u.pins.wp = false → t = u.modGlob (fun g => { g with mapWpx := true }))
         ∧ (u.pins.wp = true → keeps t ∧ saves t ∧ t.gates = u.gates ∧ t.life = u.life ∧ t.glob = { u.glob with mapmode := v }))

/-- R477, R480, R481, R504, R506 to R511, R515: what the annex registers do on the edge that takes the write and at the CS#
rise: ANX_DIV's range, the map check of EN = 1, selects and lanes under manual control, MANUAL, EN, RECLAIM, FENCED. -/
def Obligations.AnnexRegisters : Prop :=
  (∀ (s : State) (tx : Tx) (a : AnnexId) (v : Word), s.mayWrite tx (BitVec.ofNat 12 (0x202 + 0x20 * a.val)) = true →
      exec (.div tx a v) s = .next (s.afterWrite tx (fun t => t.modAnx a (fun x =>
        if 2 ≤ (v.extractLsb' 0 7).toNat ∧ (v.extractLsb' 0 7).toNat ≤ 64 then { x with div := v.extractLsb' 0 7 }
        else { x with badset := true }))))
  ∧ (∀ (s : State) (tx : Tx) (a : AnnexId) (q : PartnerId) (v : Word),
      s.mayWrite tx (BitVec.ofNat 12 (0x208 + 0x20 * a.val + q.val)) = true → (s.partner a q).en = false →
      let z := (s.partner a q).size.toNat
      let at_ := fun (r : PartnerId) (w : Nat) => (s.partner a r).base.toNat * 65536 / 2 ^ w
      let good := 16 ≤ z ∧ z ≤ 29 ∧ (s.partner a q).base.toNat * 65536 % 2 ^ z = 0
        ∧ ∀ r : PartnerId, r ≠ q → (s.partner a r).en = true →
            at_ q (max z (s.partner a r).size.toNat) ≠ at_ r (max z (s.partner a r).size.toNat)
      let fields := fun (x : Partner) => { x with
        dtrop := v.extractLsb' 56 8, dtrdummy := v.extractLsb' 51 5, maxmode := v.extractLsb' 16 3, userds := v.getLsbD 2 }
      (good → exec (.partnerEnable tx a q v) s = .next (s.afterWrite tx (fun t =>
        t.modPartner a q (fun x => { fields x with en := true, state := 0 }))))
      ∧ (¬ good → exec (.partnerEnable tx a q v) s = .next (s.afterWrite tx (fun t =>
        t.modPartner a q (fun x => { fields x with mapfault := true })))))
  ∧ (∀ (s : State) (tx : Tx) (a : AnnexId) (v : Word), s.mayWrite tx (BitVec.ofNat 12 (0x203 + 0x20 * a.val)) = true →
      exec (.gpioWrite tx a v) s = .next (s.afterWrite tx (fun t =>
        t.leaves tx.port (.regAct (BitVec.ofNat 12 (0x203 + 0x20 * a.val)) v))))
  ∧ (∀ (u : State) (m : PortId) (a : AnnexId) (v : Word),
      let t := u.riseAct m (.regAct (BitVec.ofNat 12 (0x203 + 0x20 * a.val)) v)
      let x := u.anx a
      let new := (v.getLsbD 17, v.getLsbD 16, v.extractLsb' 8 4, v.extractLsb' 4 4)
      let old := (x.sckout, x.sckoe, x.dqout, x.dqoe)
      (∀ q : PartnerId, (t.anx a).sellow.getLsbD q.val =
        if (u.partner a q).en then x.sellow.getLsbD q.val else v.getLsbD (24 + q.val))
      ∧ ((t.anx a).sckout, (t.anx a).sckoe, (t.anx a).dqout, (t.anx a).dqoe) = (if x.manualon then new else old)
      ∧ ((t.anx a).gpioConf = true ↔ x.gpioConf = true ∨ (∃ q : PartnerId, (u.partner a q).en = true ∧ v.getLsbD (24 + q.val) = true)
          ∨ (x.manualon = false ∧ new ≠ old))
      ∧ t = { u with annex := t.annex } ∧ ∀ b : AnnexId, b ≠ a → t.anx b = u.anx b)
  ∧ (∀ (s : State) (tx : Tx) (a : AnnexId) (v : Word), s.mayWrite tx (BitVec.ofNat 12 (0x200 + 0x20 * a.val)) = true →
      let later := fun (w : Word) => RiseAct.regAct (BitVec.ofNat 12 (0x200 + 0x20 * a.val)) w
      (v.getLsbD 0 = true → v.getLsbD 3 = false →
        exec (.manualOn tx a v) s = .next (s.afterWrite tx (fun t => t.leaves tx.port (later (v ||| 2))))
        ∧ exec (.manualOff tx a v) s = .next (s.afterWrite tx (fun t => t.leaves tx.port (later (v &&& ~~~ (2 : Word))))))
      ∧ (v.getLsbD 3 = false →
        exec (.annexEnable tx a v) s = .next (s.afterWrite tx (fun t => t.leaves tx.port (later (v ||| 1))))
        ∧ exec (.annexDisable tx a v) s = .next (s.afterWrite tx (fun t => (t.modAnx a (fun x =>
            if s.annexRunning a then { x with enOff := x.en } else { x with en := false, enOff := false })).leaves
              tx.port (later (v &&& ~~~ (1 : Word))))))
      ∧ (v.getLsbD 0 = true →
        exec (.reclaim tx a v) s = .next (s.afterWrite tx (fun t => (t.modAnx a (fun x =>
          if ∀ q : PartnerId, (s.partner a q).en = true → x.selIn.getLsbD q.val = true then { x.unprobeAll with yielded := false }
          else { x with reclaimx := true })).leaves tx.port (later (v ||| 8))))))
  ∧ (∀ (u : State) (m : PortId) (a : AnnexId) (v : Word),
      u.riseAct m (.regAct (BitVec.ofNat 12 (0x200 + 0x20 * a.val)) v) = u.modAnx a (fun x =>
        let y := if v.getLsbD 1 then { x with manual := true } else { x.unprobeAll with manual := false, manualon := false }
        if v.getLsbD 0 then { y with en := true, enOff := false } else y))
  ∧ ∀ (s : State) (tx : Tx) (a : AnnexId) (q : PartnerId) (v : Word),
      s.mayWrite tx (BitVec.ofNat 12 (0x214 + 0x20 * a.val + q.val)) = true →
      exec (.fencedClear tx a q v) s = .next (s.afterWrite tx (fun t => t.modPartner a q (fun x =>
        { x with mapfault := x.mapfault && !v.getLsbD 2, fenced := false, state := 0 })))

/-- R580, R178, R179, R115: the CS# rise of port `n` that ends its transaction, without handing pace over, puts the register
value that it leaves into force; the port's ARMED falls, and it waits for its next command. -/
def Obligations.RegisterActsAtRise : Prop :=
  ∀ (s : State) (n : PortId) (r : BitVec 12) (v : Word), s.endsWith n (.regAct r v) = true →
    Gives (exec (.csRise (1 <<< n.val) {
      late := 0, cuts := [] }) s) (fun t =>
      let u := s.riseAct n (.regAct r v)
      t.gals = u.gals ∧ t.subs = u.subs ∧ t.power = u.power ∧ t.upkeep = u.upkeep ∧ t.life = u.life ∧ t.gates = u.gates
      ∧ t.glob = u.glob ∧ t.plinth = u.plinth ∧ t.annex = u.annex ∧ t.trace = u.trace ∧ t.mem = s.mem ∧ t.pending = s.pending
      ∧ (∀ b : BankId, t.bank b = { u.bank b with quiet := (t.bank b).quiet })
      ∧ (∀ q : PortId, q ≠ n → t.port q = u.port q)
      ∧ (t.port n).csLow = false ∧ (t.port n).armed = false ∧ (t.port n).atRise = [] ∧ (t.port n).txOp = none
      ∧ (t.port n).hold = none)

/-! ### Work on pace edges -/

/-- R239, R240, R208, R236, R237: in its place on the edge, a SIGNAL whose links are satisfied completes, and a FENCE whose links
are satisfied once every operation that its subscriber committed before has completed: a DONE record, and its event set. Waits
for that event latch no sooner than on the next edge. -/
def Obligations.SignalAndFenceComplete : Prop :=
  ∀ (s : State) (k : Fin 256) (o : Op), s.ledgerOk = true → s.onTime orderEvents = true → s.opOfSlot k = some o →
    o.state = .queued → o.fresh = false → s.linksOk o = true →
    let done := fun (t : State) => s.ends t o rDone o.units.toNat
      ∧ (∀ e : Fin 64, t.ledger.events.getLsbD e.val = (s.ledger.events.getLsbD e.val || decide (o.signal.toNat = e.val)))
      ∧ (∀ y ∈ t.ledger.ops, y.id ≠ o.id → y ∈ s.ledger.ops)
      ∧ t.mem = s.mem ∧ t.banks = s.banks ∧ t.gals = s.gals ∧ t.gates = s.gates ∧ t.life = s.life ∧ t.plinth = s.plinth
      ∧ t.ports = s.ports ∧ t.pace = { s.pace with stage := orderEvents } ∧ t.annex = s.annex
    (o.opcode = opSignal → Gives (exec (.signalComplete k) s) done)
    ∧ (o.opcode = opFence → s.earlierDone o = true → Gives (exec (.fenceComplete k) s) done)

/-- R447 to R458, R559, R468, R469: a drained REGRESS starts its record, or waits for WP#; a gallery starts the clear of its
next regression unit, or counts a blank one as cleared; a journal record that reads back good acts as its kind says; a
plinth write goes from its first copy to its second, and then to the next write, which begins only while WP# is high. -/
def Obligations.LifeCycleRuns : Prop :=
  (∀ (s : State) (o : Op), s.pace.holder.isSome = true → s.regressOp = some o → s.draining = true → s.drained o = true →
      s.plinth.jwrite = none →
      (s.pins.wp = false → exec .regressBegin s = .next (s.modLife (fun l => { l with wpwait := true })))
      ∧ (s.pins.wp = true → s.levelNow = 1 → Gives (exec .regressBegin s) (fun t =>
          (∀ x ∈ t.ledger.ops, x.id = o.id → x.state = .running)
          ∧ (let w0 := recordWord0 kRegressBegin 1 s.plinth.target.2
             let j : JWrite := { copy := s.plinth.target.1, w0 := w0, w1 := recordWord1 w0 s.stamp, purpose := .begin }
             t.plinth = { s.plinth with jwrite := some j })
          ∧ t.life = { s.life with wpwait := false } ∧ t.mem = s.mem ∧ t.gates = s.gates ∧ t.banks = s.banks)))
  ∧ (∀ (s : State) (g : GalId) (p : Nat), s.pace.holder.isSome = true → s.life.regPending = true → s.booting = false →
      s.life.phase = 2 → s.life.stuck = false → s.regressionRuns g = false → s.nextUnit g s.life.cursor[g.val] = some p →
      (s.blankRange (unitRange p).1 (unitRange p).2 = true → Gives (exec (.regressionClear g) s) (fun t =>
          t.life.cleared = s.life.cleared + 1 ∧ t.life.cursor[g.val] = p + 1 ∧ t.mem = s.mem))
      ∧ (s.blankRange (unitRange p).1 (unitRange p).2 = false → (s.bank (posBank p)).state = .idle →
          s.fits s.tokClear = true → Gives (exec (.regressionClear g) s) (fun t =>
            (∃ c, (t.bank (posBank p)).clear = some c ∧ c.purpose = .regression ∧ c.unit = s.unitAt p ∧ c.pulses = 0
              ∧ c.verified = false ∧ c.held = false ∧ c.tokens = s.tokClear)
            ∧ (∀ b : BankId, b ≠ posBank p → t.bank b = s.bank b) ∧ t.mem = s.mem ∧ t.life = s.life
            ∧ t.ledger = s.ledger ∧ t.plinth = s.plinth)))
  ∧ (∀ (s : State) (j : JWrite), s.pace.holder.isSome = true → s.plinth.jwrite = some j → s.plinthRuns = true →
      s.booting = false →
      let w : JCopy := { w0 := j.w0, w1 := j.w1, broken := false }
      let common := fun (t : State) => t.plinth.copy j.copy = w ∧ t.plinth.copy (!j.copy) = s.plinth.copy (!j.copy)
        ∧ t.glob.causes = s.glob.causes ||| cLevel ∧ t.mem = s.mem
      (∀ id, j.purpose = .raise id → s.life.regPending = false → Gives (exec .journalWriteDone s) (fun t => common t
          ∧ t.life = { s.life with level := BitVec.setWidth 2 (j.w0.extractLsb' 32 8) }
          ∧ (∀ g : GateId, t.gate g = { s.gate g with epoch := if (s.gate g).en then (s.gate g).epoch + 1 else (s.gate g).epoch })
          ∧ ∀ x ∈ t.ledger.ops, x.id = id → x.state = .complete))
      ∧ (j.purpose = .begin → Gives (exec .journalWriteDone s) (fun t => common t
          ∧ t.life.regPending = true ∧ t.levelNow = 1 ∧ t.life.phase = 2 ∧ t.life.cleared = 0 ∧ t.life.failed = 0
          ∧ t.life.toclear = BitVec.ofNat 16 s.unitCount ∧ t.gates = s.gates))
      ∧ (j.purpose = .done → Gives (exec .journalWriteDone s) (fun t => common t
          ∧ t.life.level = 0 ∧ t.life.regPending = false ∧ t.life.phase = 0
          ∧ ∀ g : GateId, t.gate g = { s.gate g with
              en := true, strict := false, regions := Vector.replicate 8 0, fault := 0,
              epoch := (s.gate g).epoch + (if (s.gate g).en then 2 else 1) })))
  ∧ ∀ (s : State) (d : PlinthData) (r : List PlinthData), s.pace.holder.isSome = true → s.plinth.queue = d :: r →
      s.plinth.begun = true → s.plinthRuns = true → s.life.regPending = false →
      Gives (exec .plinthCopyDone s) (fun t => t = { s with plinth := t.plinth }
        ∧ (s.plinth.second = false → t.plinth.queue = d :: r ∧ t.plinth.second = true ∧ t.plinth.begun = true)
        ∧ (s.plinth.second = true → t.plinth.queue = r ∧ t.plinth.begun = (s.pins.wp && !r.isEmpty)
            ∧ (t.plinth.begun = true → t.plinth.second = false))
        ∧ (∀ c, d = .config c → s.plinth.second = false →
            t.plinth.config.c1 = c ∧ t.plinth.config.v1 = true ∧ t.plinth.config.v2 = false)
        ∧ ∀ c, d = .config c → s.plinth.second = true → t.plinth.config.c2 = c ∧ t.plinth.config.v2 = true)

/-- R383, R390 to R398, R293, R301, R348, R400, R636: where one operation is in the ledger, is eligible and its gallery has not
dispatched on the edge, DISPATCH in its place on the edge starts it: a FETCH, whose first stone passes an enabled gate that
permits it on that edge and is ready after the read time; a LAY whose stones its gate permits, which puts its bank in LAYING
with its targets, holding TOK_LAY. FLOOR starts a house REPOINT that has waited FLOORWAIT ticks. -/
def Obligations.DispatchStarts : Prop :=
  let counted := fun (s t : State) (g : GalId) (o : Op) =>
    (t.gal g).dispatches = (s.gal g).dispatches + 1 ∧ (t.gal g).busy = true
    ∧ (t.gal g).lastslot = (match o.slot with | some k => BitVec.ofNat 8 k.val | none => 0xFF)
    ∧ (∀ h : GalId, h ≠ g → t.gal h = s.gal h) ∧ t.mem = s.mem ∧ t.ports = s.ports ∧ t.life = s.life ∧ t.plinth = s.plinth
    ∧ t.pace = { s.pace with stage := orderGallery g }
  (∀ (s : State) (g : GalId) (flips : Flips) (rx : List Byte) (o : Op), s.onTime (orderGallery g) = true →
      s.ledger.ops = [o] → o.state = .queued → o.gal = g → o.house = false → s.eligible o = true → (s.gal g).busy = false →
      regionOf o.addr = .main → (s.bank (bankIx (addrBank o.addr))).state = .idle → s.life.regPending = false →
      (o.opcode = opFetch → o.isDirect = false → Gives (exec (.dispatch g flips rx) s) (fun t => counted s t g o
        ∧ (t.gal g).lastsvc = 0 ∧ t.banks = s.banks
        ∧ ∃ x r, t.ledger.ops = [x] ∧ x.id = o.id ∧ x.state = .running ∧ x.work = .fetching r ∧ x.tokens = o.tokens
          ∧ x.fetched = o.fetched ∧ r.flips = flips
          ∧ (o.fetched = [] → o.result = 0xFF → 1 ≤ o.count.toNat → s.gatesPass o false [o.addr] = true →
              r.gated = true ∧ r.ready = s.pace.devtime + s.fetchPs ∧ x.result = 0xFF)))
      ∧ (o.opcode = opLay → o.units = 0 → o.payload ≠ [] → s.gatesPass o true (stonesFrom o.addr o.payload.length) = true →
        Gives (exec (.dispatch g flips rx) s) (fun t => counted s t g o ∧ (t.gal g).lastsvc = 1
          ∧ (∃ x, t.ledger.ops = [x] ∧ x.id = o.id ∧ x.state = .running ∧ x.work = .onBank ∧ x.tokens = s.tokLay)
          ∧ (∃ l, (t.bank (bankIx (addrBank o.addr))).lay = some l ∧ l.op = o.id ∧ l.targets = s.layTargets o.addr o.payload
              ∧ l.verified = 0 ∧ l.denied = false ∧ l.held = false ∧ l.pulses = 0 ∧ l.blank = s.readTime o.payload.length
              ∧ (l.relaid = true ↔ ∃ e ∈ l.targets, s.blankStone e.1 = false))
          ∧ (t.bank (bankIx (addrBank o.addr))).state = .laying
          ∧ ∀ b : BankId, b ≠ bankIx (addrBank o.addr) → t.bank b = s.bank b)))
  ∧ ∀ (s : State) (g : GalId) (flips : Flips) (rx : List Byte) (o : Op), s.onTime (orderGallery g) = true →
      s.ledger.ops = [o] → o.state = .queued → o.gal = g → o.house = true → o.opcode = opRepoint → regionOf o.addr = .main →
      s.eligible o = true → (s.gal g).busy = false → s.power.reserved = none → 0 < s.upkeep.floorwait.toNat →
      s.upkeep.floorwait.toNat ≤ o.floorTicks →
      Gives (exec (.floor g flips rx) s) (fun t => counted s t g o ∧ (t.gal g).floors = (s.gal g).floors + 1
        ∧ (t.gal g).lastsvc = 3 ∧ t.banks = s.banks
        ∧ ∃ x, t.ledger.ops = [x] ∧ x.id = o.id ∧ x.state = .running ∧ x.floorTicks = 0
          ∧ x.work = .reading { next := 0, ready := s.pace.devtime + s.fetchPs, fixes := 0, bad := 0, flips := flips })

/-- R392, R403, R327: a row of work that comes out of the order of Table 10.3, or with no port pacing, changes nothing. With
TOKENWAIT set and nothing reserved, the operation that has been token-short longest of those that qualify becomes reserved,
of two as long the one of the lower gallery and slot; where none qualifies nothing is. A LAY whose stones lie in the
unsettled block ends BLOCK_UNSETTLED. -/
def Obligations.ReservationAndUnsettled : Prop :=
  (∀ (s : State) (c : Instr) (k : Nat), placeOf c = some k → s.onTime k = false → exec c s = .next s)
  ∧ (∀ (s : State) (o : Op), s.ledgerOk = true → s.onTime orderReserve = true → s.tokenWait ≠ 0 → s.power.reserved = none →
      o ∈ s.ledger.ops → s.qualifies o = true →
      (∀ x ∈ s.ledger.ops, x.id ≠ o.id → s.qualifies x = true →
        let age := fun (y : Op) => s.since (y.shortAt.getD s.pace.devtime)
        age x < age o ∨ (age x = age o ∧ o.tieRank < x.tieRank)) →
      exec .reservation s = .next
        ((s.modPower (fun w => { w with reserved := some o.id, reservations := w.reservations + 1 })).atStage orderReserve))
  ∧ (∀ s : State, s.onTime orderReserve = true → (∀ x ∈ s.ledger.ops, s.qualifies x = false) →
      exec .reservation s = .next (s.atStage orderReserve))
  ∧ ∀ (s : State) (r : OpRef) (o : Op), s.ledgerOk = true → s.onTime orderEnds = true → s.opOfRef r = some o →
      s.laysUnsettled o = true → Gives (exec (.blockUnsettled r) s) (fun t => s.ends t o rUnsettled o.units.toNat
        ∧ t.mem = s.mem ∧ t.banks = s.banks ∧ t.gals = s.gals ∧ t.gates = s.gates ∧ t.life = s.life ∧ t.plinth = s.plinth)

/-- R301, R304, R629, R330: a LAY whose targets have all verified ends DONE, or DENIED where its gate refused a stone, and
each target reads as laid; at its maximum time it ends LAY_FAIL, with the verified targets laid and the others such that the
blank check refuses them. No stone that it did not target changes. -/
def Obligations.LayEndLeavesTargets : Prop :=
  ∀ (s : State) (b : BankId) (l : LayRun) (o : Op), s.ledgerOk = true → Memory.wf s.mem = true → s.onTime orderEnds = true →
    (s.bank b).lay = some l → (s.bank b).state ≠ .nestlay → l.held = false → l.relaid = false → l.copy = false →
    l.pulse = none → 0 < l.pulses → s.op? l.op = some o → o.opcode = opLay → (l.targets.map (·.1)).Nodup →
    l.targets.length ≤ 64 →
    let verified := fun (i : Nat) => l.verified.getLsbD i = true
    let cells := fun (t : State) =>
      (∀ (i : Nat) (e : Nat × BitVec 75), l.targets[i]? = some e → verified i → readCells t.mem e.1 = e.2)
      ∧ (∀ (i : Nat) (e : Nat × BitVec 75), l.targets[i]? = some e → ¬ verified i → t.blankStone e.1 = false)
      ∧ (∀ n : Nat, (∀ e ∈ l.targets, e.1 ≠ n) → readCells t.mem n = readCells s.mem n)
      ∧ (t.bank b).lay = none ∧ (t.bank b).state = .idle ∧ ∀ k : BankId, k ≠ b → t.bank k = s.bank k
    ((∀ i, i < l.targets.length → verified i) → Gives (exec (.layEnd b) s) (fun t => cells t
        ∧ s.ends t o (if l.denied then rDenied else rDone) l.targets.length ∧ (t.bank b).layfails = (s.bank b).layfails))
    ∧ ((∃ i, i < l.targets.length ∧ ¬ verified i) → l.maxPs ≤ l.time → Gives (exec (.layEnd b) s) (fun t => cells t
        ∧ s.ends t o rLayFail ((List.range l.targets.length).filter (fun i => l.verified.getLsbD i)).length
        ∧ (t.bank b).layfails = (s.bank b).layfails + 1))

/-- R309, R312, R331, R630, R338, R360 to R362: a clear unit that verified leaves every cell of its unit blank, and the last
one ends its operation DONE; one that reached its maximum time ends it CLEAR_FAIL. A firing stage that reached its length
starts the clear inside it; once that has verified, the firing ends DONE with a RESERVE slot, its clears at 0. Cells outside
the unit stay. -/
def Obligations.ClearEndLeavesBlank : Prop :=
  (∀ (s : State) (b : BankId) (c : ClearRun) (o : Op), s.ledgerOk = true → s.onTime orderEnds = true →
      (s.bank b).clear = some c → (s.bank b).state = .clearing → c.purpose = .operation → c.held = false → c.boundary = false →
      s.op? c.op = some o →
      let outside := fun (t : State) => (∀ a : Nat, a < 10 * (c.unit.range b).1 ∨ 10 * (c.unit.range b).2 ≤ a →
        Memory.read t.mem a = Memory.read s.mem a) ∧ ∀ k : BankId, k ≠ b → t.bank k = s.bank k
      (c.verified = true → c.pulse = none → Gives (exec (.clearUnitEnd b) s) (fun t => outside t
        ∧ (∀ n : Nat, (c.unit.range b).1 ≤ n → n < (c.unit.range b).2 → readCells t.mem n = cellsBlank)
        ∧ (t.bank b).clearfails = (s.bank b).clearfails
        ∧ (countsUnit o c.unit = true → o.marked = false → (o.units + 1).toNat = o.count.toNat →
            s.ends t o rDone (o.units + 1).toNat ∧ (t.bank b).state = .idle ∧ (t.bank b).clear = none)))
      ∧ ((c.verified = false ∨ c.pulse.isSome = true) → c.maxPs ≤ c.time → Gives (exec (.clearUnitEnd b) s) (fun t => outside t
        ∧ s.ends t o rClearFail o.units.toNat ∧ (t.bank b).state = .idle ∧ (t.bank b).clear = none
        ∧ (t.bank b).clearfails = (s.bank b).clearfails + 1)))
  ∧ (∀ (s : State) (b : BankId) (c : ClearRun), s.onTime orderEnds = true → s.pace.qualified = true → s.power.brown = false →
      (s.bank b).clear = some c → (s.bank b).state = .firing → c.purpose = .firing → c.inClear = false → stagePs c.stage ≤ c.fireTime →
      Gives (exec (.firingStageEnd b) s) (fun t =>
        (∃ d, (t.bank b).clear = some d ∧ d.inClear = true ∧ d.pulses = 0 ∧ d.time = 0 ∧ d.verified = false ∧ d.stage = c.stage)
        ∧ (t.bank b).state = .firing ∧ (∀ k : BankId, k ≠ b → t.bank k = s.bank k) ∧ t.mem = s.mem ∧ t.ledger = s.ledger)
      ∧ ∀ u : State, u.pace.qualified = false → (u.bank b) = s.bank b → u.onTime orderEnds = true →
        exec (.firingStageEnd b) u = .next (u.atStage orderEnds))
  ∧ ∀ (s : State) (b : BankId) (c : ClearRun) (o : Op) (k : Nat), s.ledgerOk = true → s.onTime orderEnds = true →
      s.pace.qualified = true → s.power.brown = false →
      (s.bank b).clear = some c → (s.bank b).state = .firing → c.purpose = .firing → c.unit = .block k → c.inClear = true →
      c.verified = true → c.pulse = none → s.op? c.op = some o → s.pins.wp = true → (s.bank b).kept.gap.isSome = true →
      (s.wearOf b k).2 + 1 < 100000 →
      Gives (exec (.firingStageEnd b) s) (fun t => s.ends t o rDone 1
        ∧ (∀ a : Nat, a < 10 * (c.unit.range b).1 ∨ 10 * (c.unit.range b).2 ≤ a → Memory.read t.mem a = Memory.read s.mem a)
        ∧ (∀ n : Nat, (c.unit.range b).1 ≤ n → n < (c.unit.range b).2 → readCells t.mem n = cellsBlank)
        ∧ (t.bank b).state = .idle ∧ (t.bank b).clear = none ∧ (t.bank b).kept.slotState b k = .reserve
        ∧ (t.bank b).swaps = (s.bank b).swaps + 1 ∧ t.wearOf b k = (0, (s.wearOf b k).2 + 1) ∧ t.blankStone (c.unit.range b).1 = true
        ∧ ∀ d : BankId, d ≠ b → t.bank d = s.bank d)

/-- R293, R268, R365, R366, R636: a stone of a ledger FETCH that has passed its gate, is ready and meets its bank serving is
read into the FETCH's stones. A FETCH whose stones have all been read completes with them in its yard slot, CORRECTED or
UNCORRECTABLE where one was. A REPOINT reads the stones of its block that are due; a scrub's that has read its last block
without a corrected or uncorrectable stone ends DONE and moves nothing. -/
def Obligations.ReadEnds : Prop :=
  (∀ (s : State) (o : Op) (r : ReadRun), s.op? o.id = some o → o.work = .fetching r → o.state = .running →
      o.opcode = opFetch → o.result = 0xFF → o.marked = false → o.fetched.length < o.count.toNat → s.life.regPending = false →
      r.gated = true → (s.bank (bankMet o.nextStone)).state = .idle → s.stonesDue r.ready 1 = 1 →
      let q := readStone (s.cellsAt o.nextStone ^^^ flipOf r.flips o.fetched.length)
      (s.readStep o.id).2 = true
      ∧ (s.readStep o.id).1.op? o.id = some { o with
          fetched := o.fetched ++ [q.data], units := o.units + 1, corrected := o.corrected || q.fixed, bad := o.bad || q.bad,
          work := .fetching { r with gated := false, cold := false, ready := r.ready + 4000 } }
      ∧ (s.readStep o.id).1.mem = s.mem)
  ∧ (∀ (s : State) (k : Fin 256) (n : Nat) (rx : List Byte) (o : Op) (r : ReadRun) (b : BankId),
      s.ledgerOk = true → s.onTime orderEnds = true → s.opOfSlot k = some o → o.work = .fetching r → o.state = .running →
      o.opcode = opFetch → o.result = 0xFF → o.bankOf = some b → o.sub ≠ 31 →
      (o.count.toNat ≤ o.fetched.length → Gives (exec (.fetchComplete k n rx) s) (fun t =>
        s.ends t o (if o.bad then rUncorr else if o.corrected then rCorrected else rDone) o.units.toNat ∧ t.mem = s.mem
        ∧ (∀ x ∈ t.ledger.ops, x.id = o.id → x.fetched = o.fetched)
        ∧ (o.fetched ≠ [] → ∀ y ∈ t.ledger.yard, y.owner = o.id → y.data = o.fetched)
        ∧ ∀ d : BankId, d ≠ b → t.bank d = s.bank d))
      ∧ (o.fetched.length < o.count.toNat → exec (.fetchComplete k n rx) s = .next (s.atStage orderEnds)))
  ∧ (∀ (s : State) (o : Op) (r : BlockRead) (b : BankId), s.op? o.id = some o → r.next ≤ 8192 →
      let n := s.stonesDue r.ready (8192 - r.next)
      n ≠ 0 → ∃ x q, (s.readBlockOn o r b).op? o.id = some x ∧ x.work = .reading q ∧ q.next = r.next + n
        ∧ q.ready = r.ready + BitVec.ofNat 64 (4000 * n) ∧ r.fixes ≤ q.fixes ∧ r.bad ≤ q.bad ∧ (s.readBlockOn o r b).mem = s.mem)
  ∧ ∀ (s : State) (k : Fin 256) (o : Op) (r : BlockRead) (b : BankId),
      s.ledgerOk = true → s.onTime orderEnds = true → s.opOfSlot k = some o → o.work = .reading r → o.state = .running →
      o.opcode = opRepoint → o.kind = .scrub → o.bankOf = some b → o.bad = false → o.corrected = false → o.marked = false →
      o.count.toNat = o.index + 1 → 0 < s.upkeep.fixmax.toNat → r.next = 8192 → r.fixes = 0 → r.bad = 0 →
      Gives (exec (.repointReadEnd k b) s) (fun t => s.ends t o rDone (o.units + 1).toNat ∧ t.mem = s.mem
        ∧ (∀ x ∈ t.ledger.ops, x.id = o.id → x.state = .complete ∧ x.result = rDone)
        ∧ (t.bank b).kept = (s.bank b).kept ∧ (t.bank b).moveOf o.id = none ∧ ∀ d : BankId, d ≠ b → t.bank d = s.bank d)

/-- R317, R319, R321, R323, R324, Table 08.1, Table 08.4: a suspension is complete 16 µs after its grant; a deferred suspend
is granted once the run has reached MINRUN; a suspended bank that no host suspended runs on once RESUMEWAIT ticks pass with
no fetch. -/
def Obligations.SuspensionsEnd : Prop :=
  (∀ (s : State) (b : BankId), s.pace.holder.isSome = true → (s.bank b).state = .suspending → 16000000 ≤ (s.bank b).suspPs →
      ((s.bank b).resumeDue = false →
        exec (.suspendedEntry b) s = .next (s.modBank b (fun x => { x with state := .suspended })))
      ∧ (∀ c, (s.bank b).resumeDue = true → (s.bank b).clear = some c → Gives (exec (.suspendedEntry b) s) (fun t =>
          (t.bank b).state = (if c.purpose = .firing then .firing else .clearing) ∧ (t.bank b).clear = some c
          ∧ (t.bank b).run = 0 ∧ (t.bank b).resumeDue = false ∧ t.mem = s.mem ∧ ∀ k : BankId, k ≠ b → t.bank k = s.bank k)))
  ∧ (∀ (s : State) (b : BankId), (s.bank b).state ≠ .suspending ∨ (s.bank b).suspPs < 16000000 →
      exec (.suspendedEntry b) s = .next s)
  ∧ (∀ (s : State) (b : BankId) (c : ClearRun), s.pace.holder.isSome = true → (s.bank b).state = .clearing →
      (s.bank b).deferred = true → (s.bank b).minrun.toNat ≤ (s.bank b).run → (s.bank b).clear = some c →
      Gives (exec (.deferredGrant b) s) (fun t =>
        (t.bank b).state = .suspending ∧ (t.bank b).deferred = false ∧ (t.bank b).suspends = (s.bank b).suspends + 1
        ∧ (t.bank b).suspPs = 0 ∧ (t.bank b).suspPolicy = (s.bank b).unlimited
        ∧ (∃ d, (t.bank b).clear = some d ∧ d.pulse = none ∧ d.unit = c.unit ∧ d.time = c.time ∧ d.pulses = c.pulses)
        ∧ (∀ x ∈ t.ledger.ops, x.id = c.op → x.state = .suspended)
        ∧ t.mem = s.mem ∧ ∀ k : BankId, k ≠ b → t.bank k = s.bank k))
  ∧ (∀ (s : State) (b : BankId), (s.bank b).run < (s.bank b).minrun.toNat → exec (.deferredGrant b) s = .next s)
  ∧ (∀ (s : State) (b : BankId) (c : ClearRun), s.pace.holder.isSome = true → (s.bank b).isSuspended = true →
      (s.bank b).hostsusp = false → (s.bank b).resumewait.toNat ≤ (s.bank b).quiet → s.directFetchOn b = false →
      s.ledgerFetchOn b = false → (s.bank b).clear = some c →
      ((s.bank b).state = .suspended → Gives (exec (.autoResume b) s) (fun t =>
          (t.bank b).state = (if c.purpose = .firing then .firing else .clearing) ∧ (t.bank b).clear = some c ∧ (t.bank b).run = 0
          ∧ (∀ x ∈ t.ledger.ops, x.id = c.op → x.state = .running) ∧ t.mem = s.mem
          ∧ ∀ k : BankId, k ≠ b → t.bank k = s.bank k))
      ∧ ((s.bank b).state ≠ .suspended →
          exec (.autoResume b) s = .next (s.modBank b (fun x => { x with resumeDue := true }))))
  ∧ ∀ (s : State) (b : BankId), (s.bank b).hostsusp = true → exec (.autoResume b) s = .next s

/-- R249 to R255, R406 to R408: the standstill watch, the lapse of a record that no open reply drives or has driven, and a
sample of every leaf. -/
def Obligations.WatchesAct : Prop :=
  (∀ s : State, s.pace.holder.isSome = true → 0 < s.ledger.standLimit.toNat →
      s.ledger.standLimit.toNat ≤ s.ledger.standCount.toNat → s.standing = true → Gives (exec .standstill s) (fun t =>
        t.ledger.standFlag = true ∧ t.ledger.standCount = 0
        ∧ t.ledger.standWaiters = BitVec.ofNat 9 (s.ledger.ops.filter s.waiter).length
        ∧ t.glob = { s.glob with causes := s.glob.causes ||| cStandstill, freshCauses := s.glob.freshCauses ||| cStandstill } ∧ t.ledger.ops = s.ledger.ops
        ∧ t = { s with ledger := t.ledger, trace := t.trace, glob := t.glob }))
  ∧ (∀ s : State, s.ledger.standLimit = 0 ∨ s.standing = false → exec .standstill s = .next s)
  ∧ (∀ (s : State) (k : Fin 256) (o : Op), s.ledgerOk = true → s.pace.holder.isSome = true → s.opOfSlot k = some o →
      o.state = .complete → (∀ p : PortId, o.id ∉ (s.port p).reply.shown) → 0 < s.ledger.lapseLimit.toNat →
      s.ledger.lapseLimit.toNat ≤ o.age →
      Gives (exec (.lapse k) s) (fun t =>
        t.ledger.ops = s.ledger.ops.filter (fun x => x.id != o.id) ∧ (∀ y ∈ t.ledger.yard, y.owner ≠ o.id)
        ∧ t.ledger.lapses = s.ledger.lapses + 1 ∧ t.opOfSlot k = none
        ∧ t = { s with ledger := t.ledger, trace := t.trace }))
  ∧ (∀ (s : State) (k : Fin 256) (o : Op), s.opOfSlot k = some o → s.ledger.lapseLimit = 0 ∨ o.age < s.ledger.lapseLimit.toNat →
      exec (.lapse k) s = .next s)
  ∧ (∀ (s : State) (k : Fin 256) (o : Op), s.opOfSlot k = some o → (∃ p : PortId, o.id ∈ (s.port p).reply.shown) →
      exec (.lapse k) s = .next s)
  ∧ ∀ s : State, s.onTime orderSample = true → 0 < s.power.sampleInt.toNat → s.power.sampleInt.toNat ≤ s.power.sampleCount →
      s.power.sampleFreeze = false → s.pace.crossed ≠ 0 → Gives (exec .sample s) (fun t =>
        t.power = { s.power with
          samples := s.power.samples + 1, sampleStamp := s.stamp, sampleCount := s.power.sampleCount % s.power.sampleInt.toNat,
          missed := s.power.missed + BitVec.ofNat 16 (s.power.sampleCount / s.power.sampleInt.toNat - 1) }
        ∧ (∀ (i : SubId) (v : SvcId),
            let old := (s.sub i).leaf[v.val]
            let new := (t.sub i).leaf[v.val]
            let q := s.ledger.ops.filter (fun o => o.state == .queued && o.sub == i && o.svc == some v &&
              (decide (4 ≤ s.power.sampleScope.toNat) || o.gal.val == s.power.sampleScope.toNat))
            new.depth = BitVec.ofNat 9 q.length ∧ new.maxdepth.toNat = max old.maxdepth.toNat new.depth.toNat
            ∧ new.maxdelay.toNat = max old.maxdelay.toNat new.delay.toNat
            ∧ (∀ o ∈ q, min 0xFFFFF (s.stamp - o.admitted).toNat ≤ new.delay.toNat)
            ∧ (q = [] → new.delay = 0))
        ∧ t = { s with subs := t.subs, power := t.power, pace := { s.pace with stage := orderSample } })

/-- R341 to R346, R355 to R358, R366, R570, R330: the house submits what falls due, a KILN for a slot of a tidy list or one
that has reached KILN_AT, a slide, a scrub, a relocation, where its packet passes admission; while WP# is low a kiln duty is
passed over and counted. -/
def Obligations.HouseDuties : Prop :=
  (∀ (s : State) (b : Fin 64) (k : Nat), s.onTime orderHouse = true → s.houseReady = true → s.tidyDue = some (b, k) →
      s.houseAdmits opKiln k = true →
      Gives (exec .tidyKiln s) (fun t => s.submits t opKiln (bankBaseOf b) k .kilnSwap ∧ t.banks = s.banks))
  ∧ (∀ (s : State) (b : Fin 64) (k : Nat), s.onTime orderHouse = true → s.dutiesOpen = true → s.kilnDue = some (b, k) →
      s.pins.wp = true → s.houseAdmits opKiln k = true →
      Gives (exec .kilnDuty s) (fun t => s.submits t opKiln (bankBaseOf b) k .kilnSwap))
  ∧ (∀ (s : State) (b : Fin 64) (k : Nat), s.onTime orderHouse = true → s.dutiesOpen = true → s.kilnDue = some (b, k) →
      s.pins.wp = false → s.upkeep.passedOver = false → Gives (exec .kilnDuty s) (fun t =>
        t.glob = { s.glob with deferred := s.glob.deferred + 1 } ∧ t.ledger = s.ledger ∧ t.mem = s.mem
        ∧ t.upkeep = { s.upkeep with passedOver := true }))
  ∧ (∀ (s : State) (b : Fin 64) (l : Nat), s.onTime orderHouse = true → s.dutiesOpen = true → s.pins.wp = true →
      s.kilnDue = none → s.slideDue = some b → (s.bank (bankIx b)).kept.slideBlock (bankIx b) = some l →
      s.houseAdmits opRepoint 1 = true → Gives (exec .slideDuty s) (fun t => s.submits t opRepoint (blockAddr b l) 1 .slide
        ∧ (t.bank (bankIx b)).since = (s.bank (bankIx b)).since - BitVec.ofNat 16 (max 1 s.upkeep.slideInt.toNat)
        ∧ ∀ k : BankId, k ≠ bankIx b → t.bank k = s.bank k))
  ∧ (∀ (s : State) (b : Fin 64) (l : Nat), s.onTime orderHouse = true → s.dutiesOpen = true → s.scrubDue = true →
      s.kilnDue = none → s.slideDue = none → s.scrubAt = some (b, l) → s.houseAdmits opRepoint 1 = true →
      Gives (exec .scrubDuty s) (fun t => s.submits t opRepoint (blockAddr b l) 1 .scrub ∧ t.upkeep.scrubTicks = 0
        ∧ t.upkeep.nextblock = BitVec.ofNat 9 l + 1
        ∧ t.upkeep.nextbank = (if BitVec.ofNat 9 l = 511 then BitVec.ofNat 6 b.val + 1 else BitVec.ofNat 6 b.val)
        ∧ t.banks = s.banks))
  ∧ ∀ (s : State) (b : BankId) (r : Reloc), s.onTime orderHouse = true → s.dueReloc b = some r →
      s.houseAdmits opRepoint 1 = true → Gives (exec (.relocation b) s) (fun t =>
        s.submits t opRepoint (BitVec.ofNat 32 (b.val * 0x2000000 + r.block * 0x10000)) 1 .relocation
        ∧ { r with op := some s.ledger.nextId, tried := true } ∈ (t.bank b).relocs
        ∧ ∀ k : BankId, k ≠ b → t.bank k = s.bank k)

/-- R494 to R496, R501 to R503, R509, R512, R513: a poll of a busy partner sends RDSR in 1-1-1, or on four lanes to a partner in
4-4-4; a second poll that reads 0xFF loses it; a partner
that does not get ready in time is fenced; a read by strobe without its first strobe is lost; MODF makes an annex
without a running operation yield; MANUAL comes into force when no operation of the annex runs. -/
def Obligations.PartnerEvents : Prop :=
  (∀ (s : State) (a : AnnexId) (p : PartnerId) (sr : Byte) (rx : List Byte) (id : Nat) (o : Op), s.ledgerOk = true →
      s.onTime orderEnds = true → (s.partner a p).owner = some id → s.op? id = some o → (s.partner a p).inFlight = true →
      s.pace.crossed ≠ 0 → (s.partner a p).polled = false → (s.partner a p).typTicks ≤ (s.partner a p).sentTicks →
      (s.anx a).yielded = false → (s.anx a).turn ≤ p.val →
      (sr ≠ 0xFF → sr.getLsbD 0 = true → Gives (exec (.poll a p sr rx) s) (fun t =>
        t = { s with annex := t.annex, pace := { s.pace with stage := orderEnds } }
        ∧ t.partner a p = { s.partner a p with polled := true, ffPolls := 0 }
        ∧ (t.anx a).sent = (s.anx a).sent ++ [{
            partner := p, mode := if (s.partner a p).mode = 3 then 3 else 0, bytes := [(s.anx a).rdsrOp], clocks := 0,
            dummy := 0, reads := 1 }]
        ∧ (t.anx a).stream = none ∧ (t.anx a).turn = p.val ∧ (∀ b : AnnexId, b ≠ a → t.anx b = s.anx b)
        ∧ ∀ q : PartnerId, q ≠ p → t.partner a q = s.partner a q))
      ∧ (sr = 0xFF → 1 ≤ (s.partner a p).ffPolls → o.windowAddr.bind s.partnerAt = some (a, p) →
        Gives (exec (.poll a p sr rx) s) (fun t => s.ends t o rLost o.units.toNat
          ∧ (t.partner a p).fenced = true ∧ (t.partner a p).losts = (s.partner a p).losts + 1 ∧ (t.partner a p).owner = none
          ∧ (t.partner a p).lastres = rLost ∧ (∀ x ∈ t.ledger.ops, x.id = o.id → x.uncertain = true) ∧ t.mem = s.mem))
      ∧ (sr.getLsbD 0 = false → (s.partner a p).erasing = false → o.opcode = opLay → o.result = 0xFF → o.index = 0 →
        o.position = 0 → (o.pageBytes (s.partner a p)).length = 8 * o.payload.length →
        o.windowAddr.bind s.partnerAt = some (a, p) → Gives (exec (.poll a p sr rx) s) (fun t =>
          s.ends t o rDone o.payload.length ∧ (t.partner a p).owner = none ∧ (t.partner a p).inFlight = false
          ∧ (t.partner a p).lastres = rDone ∧ t.mem = s.mem)))
  ∧ (∀ (s : State) (a : AnnexId) (p : PartnerId) (id : Nat) (o : Op), s.ledgerOk = true → s.onTime orderEnds = true →
      (s.partner a p).owner = some id → s.op? id = some o → (s.partner a p).inFlight = true →
      o.windowAddr.bind s.partnerAt = some (a, p) →
      let limit := if (s.partner a p).erasing then (s.anx a).eraseLimit else (s.anx a).progLimit
      0 < limit → limit ≤ (s.partner a p).sentTicks → Gives (exec (.partnerTimeout a p) s) (fun t =>
        s.ends t o rTimeout o.units.toNat ∧ (t.partner a p).fenced = true
        ∧ (t.partner a p).timeouts = (s.partner a p).timeouts + 1 ∧ (t.partner a p).owner = none ∧ t.mem = s.mem))
  ∧ (∀ (s : State) (a : AnnexId) (p : PartnerId) (rx : List Byte) (o : Op) (r : ReadRun), s.ledgerOk = true →
      s.onTime orderEnds = true → (s.partner a p).byStrobe = true → s.ledger.ops = [o] → o.opcode = opFetch →
      o.state = .running → o.work = .fetching r → o.fetched = [] → o.isDirect = false → o.result = 0xFF → 1 ≤ o.count.toNat →
      s.partnerAt o.addr = some (a, p) → (s.partner a p).inside o.addr = true → (s.partner a p).owner = none →
      s.life.regPending = false → (s.anx a).turn ≤ 4 + p.val → (s.anx a).manual = false → rx.length < 8 →
      s.gatesPass o false [o.addr] = true →
      Gives (exec (.rdsEdgeMissing a p rx) s) (fun t => s.ends t o rLost o.units.toNat ∧ (t.partner a p).fenced = true
        ∧ (t.partner a p).losts = (s.partner a p).losts + 1 ∧ (t.partner a p).lastres = rLost ∧ (t.anx a).stream = none
        ∧ t.mem = s.mem))
  ∧ (∀ (s : State) (a : AnnexId) (p : PartnerId), s.onTime orderEnds = true → (s.anx a).en = true →
      (s.anx a).yielded = false → (s.partner a p).en = true → (s.anx a).selIn.getLsbD p.val = false →
      (s.anx a).unsensed[p.val] = 0 → (∀ n, (s.anx a).stream ≠ some (p, n)) → s.annexRunning a = false →
      exec (.modf a p) s = .next (((s.modAnx a (fun y =>
        { y.endRead with modf := true, yielded := true, modfs := y.modfs + 1 })).cause cAnnex).atStage orderEnds))
  ∧ (∀ (s : State) (a : AnnexId), s.pace.holder.isSome = true → (s.anx a).manual = true → s.annexRunning a = false →
      exec (.manualon a) s = .next (s.modAnx a (fun x => { x with manualon := true })))
  ∧ ∀ (s : State) (a : AnnexId), s.annexRunning a = true → exec (.manualon a) s = .next s

/-- R561 to R567, R457, R461, R436, R152, Table 15.5: BOOT senses, takes the level from the newer journal copy, and the
configuration, bank records and gate images from the plinth; one invalid journal copy is written anew, or left under WP#
with JSKIP; at its end every chain enable takes its BOOTEN. Above 3,630 mV sensed the model stops (log entry 8). -/
def Obligations.BootRuns : Prop :=
  (∀ (s : State) (inp : BootIn) (c : CfgRec) (second : Bool), s.pace.holder.isSome = true → s.boot.step = 1 →
      s.boot.cycles ≠ 0 → inp.mv ≤ 3630 → s.plinth.jA.valid = true → s.plinth.jB.valid = true → s.boot.closed = 0 →
      s.plinth.config.newest = some (c, second) → Gives (exec (.boot inp) s) (fun t =>
        t.boot.step = 7 ∧ t.life.priv = c.priv ∧ t.life.lock = c.lock ∧ t.life.hide = c.hide ∧ t.glob.mapmode = c.mapmode
        ∧ t.life.jbad = false ∧ t.power.mv = senseMv inp.mv ∧ t.power.min = senseMv inp.mv
        ∧ (∀ p : PortId, (t.port p).booten = c.booten.getLsbD p.val ∧ (t.port p).chipid = inp.chipid)
        ∧ (let r := s.plinth.copy (genNewer s.plinth.jB.gen s.plinth.jA.gen)
           (r.kind = kLevelSet → t.life.level = BitVec.setWidth 2 r.level)
           ∧ (r.kind = kRegressDone → t.life.level = 0) ∧ (r.kind = kRegressBegin → t.life.regPending = true))
        ∧ (∀ (b : Fin 64) (r : BankRec) (x : Bool), s.plinth.banks[b.val].newest = some (r, x) → r.tidy = [] → r.gap.isSome = true →
            (∀ k, k < 544 → r.slotState (bankIx b) k ≠ .kiln) → (t.bank (bankIx b)).kept = r)
        ∧ (∀ b : Fin 64, s.plinth.banks[b.val].newest = none → t.closedBank b = true)
        ∧ (∀ g : GateId, s.plinth.images[g.val].newest = none →
            (t.gate g).en = true ∧ (t.gate g).strict = true ∧ (t.gate g).regions = Vector.replicate 8 0)
        ∧ (∀ (g : GateId) (i : GateImage) (x : Bool), s.plinth.images[g.val].newest = some (i, x) →
            (t.gate g).strict = i.strict ∧ (t.gate g).regions = i.regions ∧ (i.en = false → (t.gate g).en = false)
            ∧ (i = GateImage.shipment → (t.gate g).en = true))
        ∧ t.mem = s.mem ∧ t.ledger = s.ledger ∧ t.pace = s.pace))
  ∧ (∀ (s : State) (inp : BootIn), s.pace.holder.isSome = true → s.boot.step = 1 → s.boot.cycles ≠ 0 → 3630 < inp.mv →
      exec (.boot inp) s = .fault .outsideOperatingConditions)
  ∧ (∀ s : State, s.pace.holder.isSome = true → s.boot.step = 2 → s.plinth.jwrite = none →
      (s.pins.wp = true → s.plinthRuns = true → ∀ b : Bool, s.plinth.newer = some b → Gives (exec .journalRepair s) (fun t =>
        (let w0 := recordWord0 (s.plinth.copy b).kind (s.plinth.copy b).level ((s.plinth.copy b).gen + 1)
         let j : JWrite := { copy := !b, w0 := w0, w1 := recordWord1 w0 s.stamp, purpose := .repair }
         t.plinth = { s.plinth with jwrite := some j })
        ∧ t.boot = { s.boot with jwait := false } ∧ t = { s with plinth := t.plinth, boot := t.boot }))
      ∧ (s.pins.wp = false → Gives (exec .journalRepair s) (fun t =>
        t.boot.step = 7 ∧ t.boot.jskip = true ∧ t.plinth = s.plinth ∧ t.mem = s.mem)))
  ∧ ∀ s : State, s.pace.holder.isSome = true → s.boot.step = 7 → Gives (exec .bootEnd s) (fun t =>
      t.boot = { s.boot with step := 0 } ∧ (∀ p : PortId, t.port p = { s.port p with chainEn := (s.port p).booten })
      ∧ (s.life.regPending = false → t.life = s.life)
      ∧ (s.life.regPending = true → t.life.regPending = true ∧ t.life.phase = 2 ∧ t.life.cleared = 0 ∧ t.life.failed = 0)
      ∧ t = { s with boot := t.boot, ports := t.ports, life := t.life })

/-! ### The stone -/

/-- R270 and R271, with R267, R268 and R301: a stone reads as laid by its mark vote; an unlaid one's data is driven as read. Of
a stone as a lay leaves it, with any one mark bit flipped too: unflipped it reads back; with one of its 72 bits flipped it
reads back corrected; with two flipped it is uncorrectable, with the data as read. -/
def Obligations.StoneReads : Prop :=
  (∀ c : BitVec 75, (readStone c).laid =
      decide (2 ≤ (if c.getLsbD 72 then 0 else 1) + (if c.getLsbD 73 then 0 else 1) + (if c.getLsbD 74 then 0 else 1)))
  ∧ (∀ c : BitVec 75, (readStone c).laid = false →
      readStone c = { data := c.extractLsb' 0 64, laid := false, fixed := false, bad := false, lean := 0 })
  ∧ ∀ (d : Word) (m : BitVec 75), m ∈ ([0, 1 <<< 72, 1 <<< 73, 1 <<< 74] : List (BitVec 75)) →
      readStone (cellsOf d ^^^ m) = { data := d, laid := true, fixed := false, bad := false, lean := 0 }
      ∧ (∀ i : Fin 72, readStone (cellsOf d ^^^ m ^^^ (1 <<< i.val)) =
          { data := d, laid := true, fixed := true, bad := false, lean := if (cellsOf d).getLsbD i.val then -1 else 1 })
      ∧ ∀ i j : Fin 72, i ≠ j → readStone (cellsOf d ^^^ m ^^^ (1 <<< i.val) ^^^ (1 <<< j.val)) =
          { data := (cellsOf d ^^^ (1 <<< i.val) ^^^ (1 <<< j.val)).extractLsb' 0 64, laid := true, fixed := false,
            bad := true, lean := 0 }
end

