-- ==== Sys2Proof/Laws/State.lean ====
section
/-! SUPPORT. One lemma for each field of State and each named update: what the update leaves as it was, and what it
writes. -/
namespace Sys2Proof.Machine

variable (s : State)

/-! ### modPort -/

@[simp] theorem State.modPort_pace (p : PortId) (f : Port → Port) : (s.modPort p f).pace = s.pace := rfl
@[simp] theorem State.modPort_ledger (p : PortId) (f : Port → Port) : (s.modPort p f).ledger = s.ledger := rfl
@[simp] theorem State.modPort_subs (p : PortId) (f : Port → Port) : (s.modPort p f).subs = s.subs := rfl
@[simp] theorem State.modPort_gals (p : PortId) (f : Port → Port) : (s.modPort p f).gals = s.gals := rfl
@[simp] theorem State.modPort_banks (p : PortId) (f : Port → Port) : (s.modPort p f).banks = s.banks := rfl
@[simp] theorem State.modPort_gates (p : PortId) (f : Port → Port) : (s.modPort p f).gates = s.gates := rfl
@[simp] theorem State.modPort_annex (p : PortId) (f : Port → Port) : (s.modPort p f).annex = s.annex := rfl
@[simp] theorem State.modPort_life (p : PortId) (f : Port → Port) : (s.modPort p f).life = s.life := rfl
@[simp] theorem State.modPort_plinth (p : PortId) (f : Port → Port) : (s.modPort p f).plinth = s.plinth := rfl
@[simp] theorem State.modPort_boot (p : PortId) (f : Port → Port) : (s.modPort p f).boot = s.boot := rfl
@[simp] theorem State.modPort_power (p : PortId) (f : Port → Port) : (s.modPort p f).power = s.power := rfl
@[simp] theorem State.modPort_upkeep (p : PortId) (f : Port → Port) : (s.modPort p f).upkeep = s.upkeep := rfl
@[simp] theorem State.modPort_trace (p : PortId) (f : Port → Port) : (s.modPort p f).trace = s.trace := rfl
@[simp] theorem State.modPort_glob (p : PortId) (f : Port → Port) : (s.modPort p f).glob = s.glob := rfl
@[simp] theorem State.modPort_pins (p : PortId) (f : Port → Port) : (s.modPort p f).pins = s.pins := rfl
@[simp] theorem State.modPort_mem (p : PortId) (f : Port → Port) : (s.modPort p f).mem = s.mem := rfl
@[simp] theorem State.modPort_touched (p : PortId) (f : Port → Port) : (s.modPort p f).touched = s.touched := rfl
@[simp] theorem State.modPort_freeCtr (p : PortId) (f : Port → Port) : (s.modPort p f).freeCtr = s.freeCtr := rfl
@[simp] theorem State.modPort_pending (p : PortId) (f : Port → Port) : (s.modPort p f).pending = s.pending := rfl
@[simp] theorem State.modPort_port_self (p : PortId) (f : Port → Port) : (s.modPort p f).port p = f (s.port p) := by
  simp [State.modPort, State.port]
theorem State.modPort_port_of_ne (p : PortId) (f : Port → Port) (x : PortId) (h : x ≠ p) : (s.modPort p f).port x = s.port x := by
  have h2 : p.val ≠ x.val := fun e => h (Fin.ext e.symm)
  simp [State.modPort, State.port, h2]
@[simp] theorem State.modPort_bank (p : PortId) (f : Port → Port) (x : BankId) : (s.modPort p f).bank x = s.bank x := rfl
@[simp] theorem State.modPort_gal (p : PortId) (f : Port → Port) (x : GalId) : (s.modPort p f).gal x = s.gal x := rfl
@[simp] theorem State.modPort_sub (p : PortId) (f : Port → Port) (x : SubId) : (s.modPort p f).sub x = s.sub x := rfl
@[simp] theorem State.modPort_gate (p : PortId) (f : Port → Port) (x : GateId) : (s.modPort p f).gate x = s.gate x := rfl
@[simp] theorem State.modPort_anx (p : PortId) (f : Port → Port) (x : AnnexId) : (s.modPort p f).anx x = s.anx x := rfl

/-! ### modBank -/

@[simp] theorem State.modBank_ports (b : BankId) (f : Bank → Bank) : (s.modBank b f).ports = s.ports := rfl
@[simp] theorem State.modBank_pace (b : BankId) (f : Bank → Bank) : (s.modBank b f).pace = s.pace := rfl
@[simp] theorem State.modBank_ledger (b : BankId) (f : Bank → Bank) : (s.modBank b f).ledger = s.ledger := rfl
@[simp] theorem State.modBank_subs (b : BankId) (f : Bank → Bank) : (s.modBank b f).subs = s.subs := rfl
@[simp] theorem State.modBank_gals (b : BankId) (f : Bank → Bank) : (s.modBank b f).gals = s.gals := rfl
@[simp] theorem State.modBank_gates (b : BankId) (f : Bank → Bank) : (s.modBank b f).gates = s.gates := rfl
@[simp] theorem State.modBank_annex (b : BankId) (f : Bank → Bank) : (s.modBank b f).annex = s.annex := rfl
@[simp] theorem State.modBank_life (b : BankId) (f : Bank → Bank) : (s.modBank b f).life = s.life := rfl
@[simp] theorem State.modBank_plinth (b : BankId) (f : Bank → Bank) : (s.modBank b f).plinth = s.plinth := rfl
@[simp] theorem State.modBank_boot (b : BankId) (f : Bank → Bank) : (s.modBank b f).boot = s.boot := rfl
@[simp] theorem State.modBank_power (b : BankId) (f : Bank → Bank) : (s.modBank b f).power = s.power := rfl
@[simp] theorem State.modBank_upkeep (b : BankId) (f : Bank → Bank) : (s.modBank b f).upkeep = s.upkeep := rfl
@[simp] theorem State.modBank_trace (b : BankId) (f : Bank → Bank) : (s.modBank b f).trace = s.trace := rfl
@[simp] theorem State.modBank_glob (b : BankId) (f : Bank → Bank) : (s.modBank b f).glob = s.glob := rfl
@[simp] theorem State.modBank_pins (b : BankId) (f : Bank → Bank) : (s.modBank b f).pins = s.pins := rfl
@[simp] theorem State.modBank_mem (b : BankId) (f : Bank → Bank) : (s.modBank b f).mem = s.mem := rfl
@[simp] theorem State.modBank_touched (b : BankId) (f : Bank → Bank) : (s.modBank b f).touched = s.touched := rfl
@[simp] theorem State.modBank_freeCtr (b : BankId) (f : Bank → Bank) : (s.modBank b f).freeCtr = s.freeCtr := rfl
@[simp] theorem State.modBank_pending (b : BankId) (f : Bank → Bank) : (s.modBank b f).pending = s.pending := rfl
@[simp] theorem State.modBank_port (b : BankId) (f : Bank → Bank) (x : PortId) : (s.modBank b f).port x = s.port x := rfl
@[simp] theorem State.modBank_bank_self (b : BankId) (f : Bank → Bank) : (s.modBank b f).bank b = f (s.bank b) := by
  simp [State.modBank, State.bank]
theorem State.modBank_bank_of_ne (b : BankId) (f : Bank → Bank) (x : BankId) (h : x ≠ b) : (s.modBank b f).bank x = s.bank x := by
  have h2 : b.val ≠ x.val := fun e => h (Fin.ext e.symm)
  simp [State.modBank, State.bank, h2]
@[simp] theorem State.modBank_gal (b : BankId) (f : Bank → Bank) (x : GalId) : (s.modBank b f).gal x = s.gal x := rfl
@[simp] theorem State.modBank_sub (b : BankId) (f : Bank → Bank) (x : SubId) : (s.modBank b f).sub x = s.sub x := rfl
@[simp] theorem State.modBank_gate (b : BankId) (f : Bank → Bank) (x : GateId) : (s.modBank b f).gate x = s.gate x := rfl
@[simp] theorem State.modBank_anx (b : BankId) (f : Bank → Bank) (x : AnnexId) : (s.modBank b f).anx x = s.anx x := rfl

/-! ### modGal -/

@[simp] theorem State.modGal_ports (g : GalId) (f : Gal → Gal) : (s.modGal g f).ports = s.ports := rfl
@[simp] theorem State.modGal_pace (g : GalId) (f : Gal → Gal) : (s.modGal g f).pace = s.pace := rfl
@[simp] theorem State.modGal_ledger (g : GalId) (f : Gal → Gal) : (s.modGal g f).ledger = s.ledger := rfl
@[simp] theorem State.modGal_subs (g : GalId) (f : Gal → Gal) : (s.modGal g f).subs = s.subs := rfl
@[simp] theorem State.modGal_banks (g : GalId) (f : Gal → Gal) : (s.modGal g f).banks = s.banks := rfl
@[simp] theorem State.modGal_gates (g : GalId) (f : Gal → Gal) : (s.modGal g f).gates = s.gates := rfl
@[simp] theorem State.modGal_annex (g : GalId) (f : Gal → Gal) : (s.modGal g f).annex = s.annex := rfl
@[simp] theorem State.modGal_life (g : GalId) (f : Gal → Gal) : (s.modGal g f).life = s.life := rfl
@[simp] theorem State.modGal_plinth (g : GalId) (f : Gal → Gal) : (s.modGal g f).plinth = s.plinth := rfl
@[simp] theorem State.modGal_boot (g : GalId) (f : Gal → Gal) : (s.modGal g f).boot = s.boot := rfl
@[simp] theorem State.modGal_power (g : GalId) (f : Gal → Gal) : (s.modGal g f).power = s.power := rfl
@[simp] theorem State.modGal_upkeep (g : GalId) (f : Gal → Gal) : (s.modGal g f).upkeep = s.upkeep := rfl
@[simp] theorem State.modGal_trace (g : GalId) (f : Gal → Gal) : (s.modGal g f).trace = s.trace := rfl
@[simp] theorem State.modGal_glob (g : GalId) (f : Gal → Gal) : (s.modGal g f).glob = s.glob := rfl
@[simp] theorem State.modGal_pins (g : GalId) (f : Gal → Gal) : (s.modGal g f).pins = s.pins := rfl
@[simp] theorem State.modGal_mem (g : GalId) (f : Gal → Gal) : (s.modGal g f).mem = s.mem := rfl
@[simp] theorem State.modGal_touched (g : GalId) (f : Gal → Gal) : (s.modGal g f).touched = s.touched := rfl
@[simp] theorem State.modGal_freeCtr (g : GalId) (f : Gal → Gal) : (s.modGal g f).freeCtr = s.freeCtr := rfl
@[simp] theorem State.modGal_pending (g : GalId) (f : Gal → Gal) : (s.modGal g f).pending = s.pending := rfl
@[simp] theorem State.modGal_port (g : GalId) (f : Gal → Gal) (x : PortId) : (s.modGal g f).port x = s.port x := rfl
@[simp] theorem State.modGal_bank (g : GalId) (f : Gal → Gal) (x : BankId) : (s.modGal g f).bank x = s.bank x := rfl
@[simp] theorem State.modGal_gal_self (g : GalId) (f : Gal → Gal) : (s.modGal g f).gal g = f (s.gal g) := by
  simp [State.modGal, State.gal]
theorem State.modGal_gal_of_ne (g : GalId) (f : Gal → Gal) (x : GalId) (h : x ≠ g) : (s.modGal g f).gal x = s.gal x := by
  have h2 : g.val ≠ x.val := fun e => h (Fin.ext e.symm)
  simp [State.modGal, State.gal, h2]
@[simp] theorem State.modGal_sub (g : GalId) (f : Gal → Gal) (x : SubId) : (s.modGal g f).sub x = s.sub x := rfl
@[simp] theorem State.modGal_gate (g : GalId) (f : Gal → Gal) (x : GateId) : (s.modGal g f).gate x = s.gate x := rfl
@[simp] theorem State.modGal_anx (g : GalId) (f : Gal → Gal) (x : AnnexId) : (s.modGal g f).anx x = s.anx x := rfl

/-! ### modSub -/

@[simp] theorem State.modSub_ports (i : SubId) (f : Sub → Sub) : (s.modSub i f).ports = s.ports := rfl
@[simp] theorem State.modSub_pace (i : SubId) (f : Sub → Sub) : (s.modSub i f).pace = s.pace := rfl
@[simp] theorem State.modSub_ledger (i : SubId) (f : Sub → Sub) : (s.modSub i f).ledger = s.ledger := rfl
@[simp] theorem State.modSub_gals (i : SubId) (f : Sub → Sub) : (s.modSub i f).gals = s.gals := rfl
@[simp] theorem State.modSub_banks (i : SubId) (f : Sub → Sub) : (s.modSub i f).banks = s.banks := rfl
@[simp] theorem State.modSub_gates (i : SubId) (f : Sub → Sub) : (s.modSub i f).gates = s.gates := rfl
@[simp] theorem State.modSub_annex (i : SubId) (f : Sub → Sub) : (s.modSub i f).annex = s.annex := rfl
@[simp] theorem State.modSub_life (i : SubId) (f : Sub → Sub) : (s.modSub i f).life = s.life := rfl
@[simp] theorem State.modSub_plinth (i : SubId) (f : Sub → Sub) : (s.modSub i f).plinth = s.plinth := rfl
@[simp] theorem State.modSub_boot (i : SubId) (f : Sub → Sub) : (s.modSub i f).boot = s.boot := rfl
@[simp] theorem State.modSub_power (i : SubId) (f : Sub → Sub) : (s.modSub i f).power = s.power := rfl
@[simp] theorem State.modSub_upkeep (i : SubId) (f : Sub → Sub) : (s.modSub i f).upkeep = s.upkeep := rfl
@[simp] theorem State.modSub_trace (i : SubId) (f : Sub → Sub) : (s.modSub i f).trace = s.trace := rfl
@[simp] theorem State.modSub_glob (i : SubId) (f : Sub → Sub) : (s.modSub i f).glob = s.glob := rfl
@[simp] theorem State.modSub_pins (i : SubId) (f : Sub → Sub) : (s.modSub i f).pins = s.pins := rfl
@[simp] theorem State.modSub_mem (i : SubId) (f : Sub → Sub) : (s.modSub i f).mem = s.mem := rfl
@[simp] theorem State.modSub_touched (i : SubId) (f : Sub → Sub) : (s.modSub i f).touched = s.touched := rfl
@[simp] theorem State.modSub_freeCtr (i : SubId) (f : Sub → Sub) : (s.modSub i f).freeCtr = s.freeCtr := rfl
@[simp] theorem State.modSub_pending (i : SubId) (f : Sub → Sub) : (s.modSub i f).pending = s.pending := rfl
@[simp] theorem State.modSub_port (i : SubId) (f : Sub → Sub) (x : PortId) : (s.modSub i f).port x = s.port x := rfl
@[simp] theorem State.modSub_bank (i : SubId) (f : Sub → Sub) (x : BankId) : (s.modSub i f).bank x = s.bank x := rfl
@[simp] theorem State.modSub_gal (i : SubId) (f : Sub → Sub) (x : GalId) : (s.modSub i f).gal x = s.gal x := rfl
@[simp] theorem State.modSub_sub_self (i : SubId) (f : Sub → Sub) : (s.modSub i f).sub i = f (s.sub i) := by
  simp [State.modSub, State.sub]
theorem State.modSub_sub_of_ne (i : SubId) (f : Sub → Sub) (x : SubId) (h : x ≠ i) : (s.modSub i f).sub x = s.sub x := by
  have h2 : i.val ≠ x.val := fun e => h (Fin.ext e.symm)
  simp [State.modSub, State.sub, h2]
@[simp] theorem State.modSub_gate (i : SubId) (f : Sub → Sub) (x : GateId) : (s.modSub i f).gate x = s.gate x := rfl
@[simp] theorem State.modSub_anx (i : SubId) (f : Sub → Sub) (x : AnnexId) : (s.modSub i f).anx x = s.anx x := rfl

/-! ### modGate -/

@[simp] theorem State.modGate_ports (g : GateId) (f : Gate → Gate) : (s.modGate g f).ports = s.ports := rfl
@[simp] theorem State.modGate_pace (g : GateId) (f : Gate → Gate) : (s.modGate g f).pace = s.pace := rfl
@[simp] theorem State.modGate_ledger (g : GateId) (f : Gate → Gate) : (s.modGate g f).ledger = s.ledger := rfl
@[simp] theorem State.modGate_subs (g : GateId) (f : Gate → Gate) : (s.modGate g f).subs = s.subs := rfl
@[simp] theorem State.modGate_gals (g : GateId) (f : Gate → Gate) : (s.modGate g f).gals = s.gals := rfl
@[simp] theorem State.modGate_banks (g : GateId) (f : Gate → Gate) : (s.modGate g f).banks = s.banks := rfl
@[simp] theorem State.modGate_annex (g : GateId) (f : Gate → Gate) : (s.modGate g f).annex = s.annex := rfl
@[simp] theorem State.modGate_life (g : GateId) (f : Gate → Gate) : (s.modGate g f).life = s.life := rfl
@[simp] theorem State.modGate_plinth (g : GateId) (f : Gate → Gate) : (s.modGate g f).plinth = s.plinth := rfl
@[simp] theorem State.modGate_boot (g : GateId) (f : Gate → Gate) : (s.modGate g f).boot = s.boot := rfl
@[simp] theorem State.modGate_power (g : GateId) (f : Gate → Gate) : (s.modGate g f).power = s.power := rfl
@[simp] theorem State.modGate_upkeep (g : GateId) (f : Gate → Gate) : (s.modGate g f).upkeep = s.upkeep := rfl
@[simp] theorem State.modGate_trace (g : GateId) (f : Gate → Gate) : (s.modGate g f).trace = s.trace := rfl
@[simp] theorem State.modGate_glob (g : GateId) (f : Gate → Gate) : (s.modGate g f).glob = s.glob := rfl
@[simp] theorem State.modGate_pins (g : GateId) (f : Gate → Gate) : (s.modGate g f).pins = s.pins := rfl
@[simp] theorem State.modGate_mem (g : GateId) (f : Gate → Gate) : (s.modGate g f).mem = s.mem := rfl
@[simp] theorem State.modGate_touched (g : GateId) (f : Gate → Gate) : (s.modGate g f).touched = s.touched := rfl
@[simp] theorem State.modGate_freeCtr (g : GateId) (f : Gate → Gate) : (s.modGate g f).freeCtr = s.freeCtr := rfl
@[simp] theorem State.modGate_pending (g : GateId) (f : Gate → Gate) : (s.modGate g f).pending = s.pending := rfl
@[simp] theorem State.modGate_port (g : GateId) (f : Gate → Gate) (x : PortId) : (s.modGate g f).port x = s.port x := rfl
@[simp] theorem State.modGate_bank (g : GateId) (f : Gate → Gate) (x : BankId) : (s.modGate g f).bank x = s.bank x := rfl
@[simp] theorem State.modGate_gal (g : GateId) (f : Gate → Gate) (x : GalId) : (s.modGate g f).gal x = s.gal x := rfl
@[simp] theorem State.modGate_sub (g : GateId) (f : Gate → Gate) (x : SubId) : (s.modGate g f).sub x = s.sub x := rfl
@[simp] theorem State.modGate_gate_self (g : GateId) (f : Gate → Gate) : (s.modGate g f).gate g = f (s.gate g) := by
  simp [State.modGate, State.gate]
theorem State.modGate_gate_of_ne (g : GateId) (f : Gate → Gate) (x : GateId) (h : x ≠ g) : (s.modGate g f).gate x = s.gate x := by
  have h2 : g.val ≠ x.val := fun e => h (Fin.ext e.symm)
  simp [State.modGate, State.gate, h2]
@[simp] theorem State.modGate_anx (g : GateId) (f : Gate → Gate) (x : AnnexId) : (s.modGate g f).anx x = s.anx x := rfl

/-! ### modAnx -/

@[simp] theorem State.modAnx_ports (a : AnnexId) (f : Annex → Annex) : (s.modAnx a f).ports = s.ports := rfl
@[simp] theorem State.modAnx_pace (a : AnnexId) (f : Annex → Annex) : (s.modAnx a f).pace = s.pace := rfl
@[simp] theorem State.modAnx_ledger (a : AnnexId) (f : Annex → Annex) : (s.modAnx a f).ledger = s.ledger := rfl
@[simp] theorem State.modAnx_subs (a : AnnexId) (f : Annex → Annex) : (s.modAnx a f).subs = s.subs := rfl
@[simp] theorem State.modAnx_gals (a : AnnexId) (f : Annex → Annex) : (s.modAnx a f).gals = s.gals := rfl
@[simp] theorem State.modAnx_banks (a : AnnexId) (f : Annex → Annex) : (s.modAnx a f).banks = s.banks := rfl
@[simp] theorem State.modAnx_gates (a : AnnexId) (f : Annex → Annex) : (s.modAnx a f).gates = s.gates := rfl
@[simp] theorem State.modAnx_life (a : AnnexId) (f : Annex → Annex) : (s.modAnx a f).life = s.life := rfl
@[simp] theorem State.modAnx_plinth (a : AnnexId) (f : Annex → Annex) : (s.modAnx a f).plinth = s.plinth := rfl
@[simp] theorem State.modAnx_boot (a : AnnexId) (f : Annex → Annex) : (s.modAnx a f).boot = s.boot := rfl
@[simp] theorem State.modAnx_power (a : AnnexId) (f : Annex → Annex) : (s.modAnx a f).power = s.power := rfl
@[simp] theorem State.modAnx_upkeep (a : AnnexId) (f : Annex → Annex) : (s.modAnx a f).upkeep = s.upkeep := rfl
@[simp] theorem State.modAnx_trace (a : AnnexId) (f : Annex → Annex) : (s.modAnx a f).trace = s.trace := rfl
@[simp] theorem State.modAnx_glob (a : AnnexId) (f : Annex → Annex) : (s.modAnx a f).glob = s.glob := rfl
@[simp] theorem State.modAnx_pins (a : AnnexId) (f : Annex → Annex) : (s.modAnx a f).pins = s.pins := rfl
@[simp] theorem State.modAnx_mem (a : AnnexId) (f : Annex → Annex) : (s.modAnx a f).mem = s.mem := rfl
@[simp] theorem State.modAnx_touched (a : AnnexId) (f : Annex → Annex) : (s.modAnx a f).touched = s.touched := rfl
@[simp] theorem State.modAnx_freeCtr (a : AnnexId) (f : Annex → Annex) : (s.modAnx a f).freeCtr = s.freeCtr := rfl
@[simp] theorem State.modAnx_pending (a : AnnexId) (f : Annex → Annex) : (s.modAnx a f).pending = s.pending := rfl
@[simp] theorem State.modAnx_port (a : AnnexId) (f : Annex → Annex) (x : PortId) : (s.modAnx a f).port x = s.port x := rfl
@[simp] theorem State.modAnx_bank (a : AnnexId) (f : Annex → Annex) (x : BankId) : (s.modAnx a f).bank x = s.bank x := rfl
@[simp] theorem State.modAnx_gal (a : AnnexId) (f : Annex → Annex) (x : GalId) : (s.modAnx a f).gal x = s.gal x := rfl
@[simp] theorem State.modAnx_sub (a : AnnexId) (f : Annex → Annex) (x : SubId) : (s.modAnx a f).sub x = s.sub x := rfl
@[simp] theorem State.modAnx_gate (a : AnnexId) (f : Annex → Annex) (x : GateId) : (s.modAnx a f).gate x = s.gate x := rfl
@[simp] theorem State.modAnx_anx_self (a : AnnexId) (f : Annex → Annex) : (s.modAnx a f).anx a = f (s.anx a) := by
  simp [State.modAnx, State.anx]
theorem State.modAnx_anx_of_ne (a : AnnexId) (f : Annex → Annex) (x : AnnexId) (h : x ≠ a) : (s.modAnx a f).anx x = s.anx x := by
  have h2 : a.val ≠ x.val := fun e => h (Fin.ext e.symm)
  simp [State.modAnx, State.anx, h2]

/-! ### modLedger -/

@[simp] theorem State.modLedger_ports (f : Ledger → Ledger) : (s.modLedger f).ports = s.ports := rfl
@[simp] theorem State.modLedger_pace (f : Ledger → Ledger) : (s.modLedger f).pace = s.pace := rfl
@[simp] theorem State.modLedger_ledger (f : Ledger → Ledger) : (s.modLedger f).ledger = f s.ledger := rfl
@[simp] theorem State.modLedger_subs (f : Ledger → Ledger) : (s.modLedger f).subs = s.subs := rfl
@[simp] theorem State.modLedger_gals (f : Ledger → Ledger) : (s.modLedger f).gals = s.gals := rfl
@[simp] theorem State.modLedger_banks (f : Ledger → Ledger) : (s.modLedger f).banks = s.banks := rfl
@[simp] theorem State.modLedger_gates (f : Ledger → Ledger) : (s.modLedger f).gates = s.gates := rfl
@[simp] theorem State.modLedger_annex (f : Ledger → Ledger) : (s.modLedger f).annex = s.annex := rfl
@[simp] theorem State.modLedger_life (f : Ledger → Ledger) : (s.modLedger f).life = s.life := rfl
@[simp] theorem State.modLedger_plinth (f : Ledger → Ledger) : (s.modLedger f).plinth = s.plinth := rfl
@[simp] theorem State.modLedger_boot (f : Ledger → Ledger) : (s.modLedger f).boot = s.boot := rfl
@[simp] theorem State.modLedger_power (f : Ledger → Ledger) : (s.modLedger f).power = s.power := rfl
@[simp] theorem State.modLedger_upkeep (f : Ledger → Ledger) : (s.modLedger f).upkeep = s.upkeep := rfl
@[simp] theorem State.modLedger_trace (f : Ledger → Ledger) : (s.modLedger f).trace = s.trace := rfl
@[simp] theorem State.modLedger_glob (f : Ledger → Ledger) : (s.modLedger f).glob = s.glob := rfl
@[simp] theorem State.modLedger_pins (f : Ledger → Ledger) : (s.modLedger f).pins = s.pins := rfl
@[simp] theorem State.modLedger_mem (f : Ledger → Ledger) : (s.modLedger f).mem = s.mem := rfl
@[simp] theorem State.modLedger_touched (f : Ledger → Ledger) : (s.modLedger f).touched = s.touched := rfl
@[simp] theorem State.modLedger_freeCtr (f : Ledger → Ledger) : (s.modLedger f).freeCtr = s.freeCtr := rfl
@[simp] theorem State.modLedger_pending (f : Ledger → Ledger) : (s.modLedger f).pending = s.pending := rfl
@[simp] theorem State.modLedger_port (f : Ledger → Ledger) (x : PortId) : (s.modLedger f).port x = s.port x := rfl
@[simp] theorem State.modLedger_bank (f : Ledger → Ledger) (x : BankId) : (s.modLedger f).bank x = s.bank x := rfl
@[simp] theorem State.modLedger_gal (f : Ledger → Ledger) (x : GalId) : (s.modLedger f).gal x = s.gal x := rfl
@[simp] theorem State.modLedger_sub (f : Ledger → Ledger) (x : SubId) : (s.modLedger f).sub x = s.sub x := rfl
@[simp] theorem State.modLedger_gate (f : Ledger → Ledger) (x : GateId) : (s.modLedger f).gate x = s.gate x := rfl
@[simp] theorem State.modLedger_anx (f : Ledger → Ledger) (x : AnnexId) : (s.modLedger f).anx x = s.anx x := rfl

/-! ### modLife -/

@[simp] theorem State.modLife_ports (f : Life → Life) : (s.modLife f).ports = s.ports := rfl
@[simp] theorem State.modLife_pace (f : Life → Life) : (s.modLife f).pace = s.pace := rfl
@[simp] theorem State.modLife_ledger (f : Life → Life) : (s.modLife f).ledger = s.ledger := rfl
@[simp] theorem State.modLife_subs (f : Life → Life) : (s.modLife f).subs = s.subs := rfl
@[simp] theorem State.modLife_gals (f : Life → Life) : (s.modLife f).gals = s.gals := rfl
@[simp] theorem State.modLife_banks (f : Life → Life) : (s.modLife f).banks = s.banks := rfl
@[simp] theorem State.modLife_gates (f : Life → Life) : (s.modLife f).gates = s.gates := rfl
@[simp] theorem State.modLife_annex (f : Life → Life) : (s.modLife f).annex = s.annex := rfl
@[simp] theorem State.modLife_life (f : Life → Life) : (s.modLife f).life = f s.life := rfl
@[simp] theorem State.modLife_plinth (f : Life → Life) : (s.modLife f).plinth = s.plinth := rfl
@[simp] theorem State.modLife_boot (f : Life → Life) : (s.modLife f).boot = s.boot := rfl
@[simp] theorem State.modLife_power (f : Life → Life) : (s.modLife f).power = s.power := rfl
@[simp] theorem State.modLife_upkeep (f : Life → Life) : (s.modLife f).upkeep = s.upkeep := rfl
@[simp] theorem State.modLife_trace (f : Life → Life) : (s.modLife f).trace = s.trace := rfl
@[simp] theorem State.modLife_glob (f : Life → Life) : (s.modLife f).glob = s.glob := rfl
@[simp] theorem State.modLife_pins (f : Life → Life) : (s.modLife f).pins = s.pins := rfl
@[simp] theorem State.modLife_mem (f : Life → Life) : (s.modLife f).mem = s.mem := rfl
@[simp] theorem State.modLife_touched (f : Life → Life) : (s.modLife f).touched = s.touched := rfl
@[simp] theorem State.modLife_freeCtr (f : Life → Life) : (s.modLife f).freeCtr = s.freeCtr := rfl
@[simp] theorem State.modLife_pending (f : Life → Life) : (s.modLife f).pending = s.pending := rfl
@[simp] theorem State.modLife_port (f : Life → Life) (x : PortId) : (s.modLife f).port x = s.port x := rfl
@[simp] theorem State.modLife_bank (f : Life → Life) (x : BankId) : (s.modLife f).bank x = s.bank x := rfl
@[simp] theorem State.modLife_gal (f : Life → Life) (x : GalId) : (s.modLife f).gal x = s.gal x := rfl
@[simp] theorem State.modLife_sub (f : Life → Life) (x : SubId) : (s.modLife f).sub x = s.sub x := rfl
@[simp] theorem State.modLife_gate (f : Life → Life) (x : GateId) : (s.modLife f).gate x = s.gate x := rfl
@[simp] theorem State.modLife_anx (f : Life → Life) (x : AnnexId) : (s.modLife f).anx x = s.anx x := rfl

/-! ### modPower -/

@[simp] theorem State.modPower_ports (f : Power → Power) : (s.modPower f).ports = s.ports := rfl
@[simp] theorem State.modPower_pace (f : Power → Power) : (s.modPower f).pace = s.pace := rfl
@[simp] theorem State.modPower_ledger (f : Power → Power) : (s.modPower f).ledger = s.ledger := rfl
@[simp] theorem State.modPower_subs (f : Power → Power) : (s.modPower f).subs = s.subs := rfl
@[simp] theorem State.modPower_gals (f : Power → Power) : (s.modPower f).gals = s.gals := rfl
@[simp] theorem State.modPower_banks (f : Power → Power) : (s.modPower f).banks = s.banks := rfl
@[simp] theorem State.modPower_gates (f : Power → Power) : (s.modPower f).gates = s.gates := rfl
@[simp] theorem State.modPower_annex (f : Power → Power) : (s.modPower f).annex = s.annex := rfl
@[simp] theorem State.modPower_life (f : Power → Power) : (s.modPower f).life = s.life := rfl
@[simp] theorem State.modPower_plinth (f : Power → Power) : (s.modPower f).plinth = s.plinth := rfl
@[simp] theorem State.modPower_boot (f : Power → Power) : (s.modPower f).boot = s.boot := rfl
@[simp] theorem State.modPower_power (f : Power → Power) : (s.modPower f).power = f s.power := rfl
@[simp] theorem State.modPower_upkeep (f : Power → Power) : (s.modPower f).upkeep = s.upkeep := rfl
@[simp] theorem State.modPower_trace (f : Power → Power) : (s.modPower f).trace = s.trace := rfl
@[simp] theorem State.modPower_glob (f : Power → Power) : (s.modPower f).glob = s.glob := rfl
@[simp] theorem State.modPower_pins (f : Power → Power) : (s.modPower f).pins = s.pins := rfl
@[simp] theorem State.modPower_mem (f : Power → Power) : (s.modPower f).mem = s.mem := rfl
@[simp] theorem State.modPower_touched (f : Power → Power) : (s.modPower f).touched = s.touched := rfl
@[simp] theorem State.modPower_freeCtr (f : Power → Power) : (s.modPower f).freeCtr = s.freeCtr := rfl
@[simp] theorem State.modPower_pending (f : Power → Power) : (s.modPower f).pending = s.pending := rfl
@[simp] theorem State.modPower_port (f : Power → Power) (x : PortId) : (s.modPower f).port x = s.port x := rfl
@[simp] theorem State.modPower_bank (f : Power → Power) (x : BankId) : (s.modPower f).bank x = s.bank x := rfl
@[simp] theorem State.modPower_gal (f : Power → Power) (x : GalId) : (s.modPower f).gal x = s.gal x := rfl
@[simp] theorem State.modPower_sub (f : Power → Power) (x : SubId) : (s.modPower f).sub x = s.sub x := rfl
@[simp] theorem State.modPower_gate (f : Power → Power) (x : GateId) : (s.modPower f).gate x = s.gate x := rfl
@[simp] theorem State.modPower_anx (f : Power → Power) (x : AnnexId) : (s.modPower f).anx x = s.anx x := rfl

/-! ### modUpkeep -/

@[simp] theorem State.modUpkeep_ports (f : Upkeep → Upkeep) : (s.modUpkeep f).ports = s.ports := rfl
@[simp] theorem State.modUpkeep_pace (f : Upkeep → Upkeep) : (s.modUpkeep f).pace = s.pace := rfl
@[simp] theorem State.modUpkeep_ledger (f : Upkeep → Upkeep) : (s.modUpkeep f).ledger = s.ledger := rfl
@[simp] theorem State.modUpkeep_subs (f : Upkeep → Upkeep) : (s.modUpkeep f).subs = s.subs := rfl
@[simp] theorem State.modUpkeep_gals (f : Upkeep → Upkeep) : (s.modUpkeep f).gals = s.gals := rfl
@[simp] theorem State.modUpkeep_banks (f : Upkeep → Upkeep) : (s.modUpkeep f).banks = s.banks := rfl
@[simp] theorem State.modUpkeep_gates (f : Upkeep → Upkeep) : (s.modUpkeep f).gates = s.gates := rfl
@[simp] theorem State.modUpkeep_annex (f : Upkeep → Upkeep) : (s.modUpkeep f).annex = s.annex := rfl
@[simp] theorem State.modUpkeep_life (f : Upkeep → Upkeep) : (s.modUpkeep f).life = s.life := rfl
@[simp] theorem State.modUpkeep_plinth (f : Upkeep → Upkeep) : (s.modUpkeep f).plinth = s.plinth := rfl
@[simp] theorem State.modUpkeep_boot (f : Upkeep → Upkeep) : (s.modUpkeep f).boot = s.boot := rfl
@[simp] theorem State.modUpkeep_power (f : Upkeep → Upkeep) : (s.modUpkeep f).power = s.power := rfl
@[simp] theorem State.modUpkeep_upkeep (f : Upkeep → Upkeep) : (s.modUpkeep f).upkeep = f s.upkeep := rfl
@[simp] theorem State.modUpkeep_trace (f : Upkeep → Upkeep) : (s.modUpkeep f).trace = s.trace := rfl
@[simp] theorem State.modUpkeep_glob (f : Upkeep → Upkeep) : (s.modUpkeep f).glob = s.glob := rfl
@[simp] theorem State.modUpkeep_pins (f : Upkeep → Upkeep) : (s.modUpkeep f).pins = s.pins := rfl
@[simp] theorem State.modUpkeep_mem (f : Upkeep → Upkeep) : (s.modUpkeep f).mem = s.mem := rfl
@[simp] theorem State.modUpkeep_touched (f : Upkeep → Upkeep) : (s.modUpkeep f).touched = s.touched := rfl
@[simp] theorem State.modUpkeep_freeCtr (f : Upkeep → Upkeep) : (s.modUpkeep f).freeCtr = s.freeCtr := rfl
@[simp] theorem State.modUpkeep_pending (f : Upkeep → Upkeep) : (s.modUpkeep f).pending = s.pending := rfl
@[simp] theorem State.modUpkeep_port (f : Upkeep → Upkeep) (x : PortId) : (s.modUpkeep f).port x = s.port x := rfl
@[simp] theorem State.modUpkeep_bank (f : Upkeep → Upkeep) (x : BankId) : (s.modUpkeep f).bank x = s.bank x := rfl
@[simp] theorem State.modUpkeep_gal (f : Upkeep → Upkeep) (x : GalId) : (s.modUpkeep f).gal x = s.gal x := rfl
@[simp] theorem State.modUpkeep_sub (f : Upkeep → Upkeep) (x : SubId) : (s.modUpkeep f).sub x = s.sub x := rfl
@[simp] theorem State.modUpkeep_gate (f : Upkeep → Upkeep) (x : GateId) : (s.modUpkeep f).gate x = s.gate x := rfl
@[simp] theorem State.modUpkeep_anx (f : Upkeep → Upkeep) (x : AnnexId) : (s.modUpkeep f).anx x = s.anx x := rfl

/-! ### modGlob -/

@[simp] theorem State.modGlob_ports (f : Glob → Glob) : (s.modGlob f).ports = s.ports := rfl
@[simp] theorem State.modGlob_pace (f : Glob → Glob) : (s.modGlob f).pace = s.pace := rfl
@[simp] theorem State.modGlob_ledger (f : Glob → Glob) : (s.modGlob f).ledger = s.ledger := rfl
@[simp] theorem State.modGlob_subs (f : Glob → Glob) : (s.modGlob f).subs = s.subs := rfl
@[simp] theorem State.modGlob_gals (f : Glob → Glob) : (s.modGlob f).gals = s.gals := rfl
@[simp] theorem State.modGlob_banks (f : Glob → Glob) : (s.modGlob f).banks = s.banks := rfl
@[simp] theorem State.modGlob_gates (f : Glob → Glob) : (s.modGlob f).gates = s.gates := rfl
@[simp] theorem State.modGlob_annex (f : Glob → Glob) : (s.modGlob f).annex = s.annex := rfl
@[simp] theorem State.modGlob_life (f : Glob → Glob) : (s.modGlob f).life = s.life := rfl
@[simp] theorem State.modGlob_plinth (f : Glob → Glob) : (s.modGlob f).plinth = s.plinth := rfl
@[simp] theorem State.modGlob_boot (f : Glob → Glob) : (s.modGlob f).boot = s.boot := rfl
@[simp] theorem State.modGlob_power (f : Glob → Glob) : (s.modGlob f).power = s.power := rfl
@[simp] theorem State.modGlob_upkeep (f : Glob → Glob) : (s.modGlob f).upkeep = s.upkeep := rfl
@[simp] theorem State.modGlob_trace (f : Glob → Glob) : (s.modGlob f).trace = s.trace := rfl
@[simp] theorem State.modGlob_glob (f : Glob → Glob) : (s.modGlob f).glob = f s.glob := rfl
@[simp] theorem State.modGlob_pins (f : Glob → Glob) : (s.modGlob f).pins = s.pins := rfl
@[simp] theorem State.modGlob_mem (f : Glob → Glob) : (s.modGlob f).mem = s.mem := rfl
@[simp] theorem State.modGlob_touched (f : Glob → Glob) : (s.modGlob f).touched = s.touched := rfl
@[simp] theorem State.modGlob_freeCtr (f : Glob → Glob) : (s.modGlob f).freeCtr = s.freeCtr := rfl
@[simp] theorem State.modGlob_pending (f : Glob → Glob) : (s.modGlob f).pending = s.pending := rfl
@[simp] theorem State.modGlob_port (f : Glob → Glob) (x : PortId) : (s.modGlob f).port x = s.port x := rfl
@[simp] theorem State.modGlob_bank (f : Glob → Glob) (x : BankId) : (s.modGlob f).bank x = s.bank x := rfl
@[simp] theorem State.modGlob_gal (f : Glob → Glob) (x : GalId) : (s.modGlob f).gal x = s.gal x := rfl
@[simp] theorem State.modGlob_sub (f : Glob → Glob) (x : SubId) : (s.modGlob f).sub x = s.sub x := rfl
@[simp] theorem State.modGlob_gate (f : Glob → Glob) (x : GateId) : (s.modGlob f).gate x = s.gate x := rfl
@[simp] theorem State.modGlob_anx (f : Glob → Glob) (x : AnnexId) : (s.modGlob f).anx x = s.anx x := rfl

/-! ### modPlinth -/

@[simp] theorem State.modPlinth_ports (f : Plinth → Plinth) : (s.modPlinth f).ports = s.ports := rfl
@[simp] theorem State.modPlinth_pace (f : Plinth → Plinth) : (s.modPlinth f).pace = s.pace := rfl
@[simp] theorem State.modPlinth_ledger (f : Plinth → Plinth) : (s.modPlinth f).ledger = s.ledger := rfl
@[simp] theorem State.modPlinth_subs (f : Plinth → Plinth) : (s.modPlinth f).subs = s.subs := rfl
@[simp] theorem State.modPlinth_gals (f : Plinth → Plinth) : (s.modPlinth f).gals = s.gals := rfl
@[simp] theorem State.modPlinth_banks (f : Plinth → Plinth) : (s.modPlinth f).banks = s.banks := rfl
@[simp] theorem State.modPlinth_gates (f : Plinth → Plinth) : (s.modPlinth f).gates = s.gates := rfl
@[simp] theorem State.modPlinth_annex (f : Plinth → Plinth) : (s.modPlinth f).annex = s.annex := rfl
@[simp] theorem State.modPlinth_life (f : Plinth → Plinth) : (s.modPlinth f).life = s.life := rfl
@[simp] theorem State.modPlinth_plinth (f : Plinth → Plinth) : (s.modPlinth f).plinth = f s.plinth := rfl
@[simp] theorem State.modPlinth_boot (f : Plinth → Plinth) : (s.modPlinth f).boot = s.boot := rfl
@[simp] theorem State.modPlinth_power (f : Plinth → Plinth) : (s.modPlinth f).power = s.power := rfl
@[simp] theorem State.modPlinth_upkeep (f : Plinth → Plinth) : (s.modPlinth f).upkeep = s.upkeep := rfl
@[simp] theorem State.modPlinth_trace (f : Plinth → Plinth) : (s.modPlinth f).trace = s.trace := rfl
@[simp] theorem State.modPlinth_glob (f : Plinth → Plinth) : (s.modPlinth f).glob = s.glob := rfl
@[simp] theorem State.modPlinth_pins (f : Plinth → Plinth) : (s.modPlinth f).pins = s.pins := rfl
@[simp] theorem State.modPlinth_mem (f : Plinth → Plinth) : (s.modPlinth f).mem = s.mem := rfl
@[simp] theorem State.modPlinth_touched (f : Plinth → Plinth) : (s.modPlinth f).touched = s.touched := rfl
@[simp] theorem State.modPlinth_freeCtr (f : Plinth → Plinth) : (s.modPlinth f).freeCtr = s.freeCtr := rfl
@[simp] theorem State.modPlinth_pending (f : Plinth → Plinth) : (s.modPlinth f).pending = s.pending := rfl
@[simp] theorem State.modPlinth_port (f : Plinth → Plinth) (x : PortId) : (s.modPlinth f).port x = s.port x := rfl
@[simp] theorem State.modPlinth_bank (f : Plinth → Plinth) (x : BankId) : (s.modPlinth f).bank x = s.bank x := rfl
@[simp] theorem State.modPlinth_gal (f : Plinth → Plinth) (x : GalId) : (s.modPlinth f).gal x = s.gal x := rfl
@[simp] theorem State.modPlinth_sub (f : Plinth → Plinth) (x : SubId) : (s.modPlinth f).sub x = s.sub x := rfl
@[simp] theorem State.modPlinth_gate (f : Plinth → Plinth) (x : GateId) : (s.modPlinth f).gate x = s.gate x := rfl
@[simp] theorem State.modPlinth_anx (f : Plinth → Plinth) (x : AnnexId) : (s.modPlinth f).anx x = s.anx x := rfl

/-! ### modBoot -/

@[simp] theorem State.modBoot_ports (f : Boot → Boot) : (s.modBoot f).ports = s.ports := rfl
@[simp] theorem State.modBoot_pace (f : Boot → Boot) : (s.modBoot f).pace = s.pace := rfl
@[simp] theorem State.modBoot_ledger (f : Boot → Boot) : (s.modBoot f).ledger = s.ledger := rfl
@[simp] theorem State.modBoot_subs (f : Boot → Boot) : (s.modBoot f).subs = s.subs := rfl
@[simp] theorem State.modBoot_gals (f : Boot → Boot) : (s.modBoot f).gals = s.gals := rfl
@[simp] theorem State.modBoot_banks (f : Boot → Boot) : (s.modBoot f).banks = s.banks := rfl
@[simp] theorem State.modBoot_gates (f : Boot → Boot) : (s.modBoot f).gates = s.gates := rfl
@[simp] theorem State.modBoot_annex (f : Boot → Boot) : (s.modBoot f).annex = s.annex := rfl
@[simp] theorem State.modBoot_life (f : Boot → Boot) : (s.modBoot f).life = s.life := rfl
@[simp] theorem State.modBoot_plinth (f : Boot → Boot) : (s.modBoot f).plinth = s.plinth := rfl
@[simp] theorem State.modBoot_boot (f : Boot → Boot) : (s.modBoot f).boot = f s.boot := rfl
@[simp] theorem State.modBoot_power (f : Boot → Boot) : (s.modBoot f).power = s.power := rfl
@[simp] theorem State.modBoot_upkeep (f : Boot → Boot) : (s.modBoot f).upkeep = s.upkeep := rfl
@[simp] theorem State.modBoot_trace (f : Boot → Boot) : (s.modBoot f).trace = s.trace := rfl
@[simp] theorem State.modBoot_glob (f : Boot → Boot) : (s.modBoot f).glob = s.glob := rfl
@[simp] theorem State.modBoot_pins (f : Boot → Boot) : (s.modBoot f).pins = s.pins := rfl
@[simp] theorem State.modBoot_mem (f : Boot → Boot) : (s.modBoot f).mem = s.mem := rfl
@[simp] theorem State.modBoot_touched (f : Boot → Boot) : (s.modBoot f).touched = s.touched := rfl
@[simp] theorem State.modBoot_freeCtr (f : Boot → Boot) : (s.modBoot f).freeCtr = s.freeCtr := rfl
@[simp] theorem State.modBoot_pending (f : Boot → Boot) : (s.modBoot f).pending = s.pending := rfl
@[simp] theorem State.modBoot_port (f : Boot → Boot) (x : PortId) : (s.modBoot f).port x = s.port x := rfl
@[simp] theorem State.modBoot_bank (f : Boot → Boot) (x : BankId) : (s.modBoot f).bank x = s.bank x := rfl
@[simp] theorem State.modBoot_gal (f : Boot → Boot) (x : GalId) : (s.modBoot f).gal x = s.gal x := rfl
@[simp] theorem State.modBoot_sub (f : Boot → Boot) (x : SubId) : (s.modBoot f).sub x = s.sub x := rfl
@[simp] theorem State.modBoot_gate (f : Boot → Boot) (x : GateId) : (s.modBoot f).gate x = s.gate x := rfl
@[simp] theorem State.modBoot_anx (f : Boot → Boot) (x : AnnexId) : (s.modBoot f).anx x = s.anx x := rfl

/-! ### modPace -/

@[simp] theorem State.modPace_ports (f : Pace → Pace) : (s.modPace f).ports = s.ports := rfl
@[simp] theorem State.modPace_pace (f : Pace → Pace) : (s.modPace f).pace = f s.pace := rfl
@[simp] theorem State.modPace_ledger (f : Pace → Pace) : (s.modPace f).ledger = s.ledger := rfl
@[simp] theorem State.modPace_subs (f : Pace → Pace) : (s.modPace f).subs = s.subs := rfl
@[simp] theorem State.modPace_gals (f : Pace → Pace) : (s.modPace f).gals = s.gals := rfl
@[simp] theorem State.modPace_banks (f : Pace → Pace) : (s.modPace f).banks = s.banks := rfl
@[simp] theorem State.modPace_gates (f : Pace → Pace) : (s.modPace f).gates = s.gates := rfl
@[simp] theorem State.modPace_annex (f : Pace → Pace) : (s.modPace f).annex = s.annex := rfl
@[simp] theorem State.modPace_life (f : Pace → Pace) : (s.modPace f).life = s.life := rfl
@[simp] theorem State.modPace_plinth (f : Pace → Pace) : (s.modPace f).plinth = s.plinth := rfl
@[simp] theorem State.modPace_boot (f : Pace → Pace) : (s.modPace f).boot = s.boot := rfl
@[simp] theorem State.modPace_power (f : Pace → Pace) : (s.modPace f).power = s.power := rfl
@[simp] theorem State.modPace_upkeep (f : Pace → Pace) : (s.modPace f).upkeep = s.upkeep := rfl
@[simp] theorem State.modPace_trace (f : Pace → Pace) : (s.modPace f).trace = s.trace := rfl
@[simp] theorem State.modPace_glob (f : Pace → Pace) : (s.modPace f).glob = s.glob := rfl
@[simp] theorem State.modPace_pins (f : Pace → Pace) : (s.modPace f).pins = s.pins := rfl
@[simp] theorem State.modPace_mem (f : Pace → Pace) : (s.modPace f).mem = s.mem := rfl
@[simp] theorem State.modPace_touched (f : Pace → Pace) : (s.modPace f).touched = s.touched := rfl
@[simp] theorem State.modPace_freeCtr (f : Pace → Pace) : (s.modPace f).freeCtr = s.freeCtr := rfl
@[simp] theorem State.modPace_pending (f : Pace → Pace) : (s.modPace f).pending = s.pending := rfl
@[simp] theorem State.modPace_port (f : Pace → Pace) (x : PortId) : (s.modPace f).port x = s.port x := rfl
@[simp] theorem State.modPace_bank (f : Pace → Pace) (x : BankId) : (s.modPace f).bank x = s.bank x := rfl
@[simp] theorem State.modPace_gal (f : Pace → Pace) (x : GalId) : (s.modPace f).gal x = s.gal x := rfl
@[simp] theorem State.modPace_sub (f : Pace → Pace) (x : SubId) : (s.modPace f).sub x = s.sub x := rfl
@[simp] theorem State.modPace_gate (f : Pace → Pace) (x : GateId) : (s.modPace f).gate x = s.gate x := rfl
@[simp] theorem State.modPace_anx (f : Pace → Pace) (x : AnnexId) : (s.modPace f).anx x = s.anx x := rfl

end Sys2Proof.Machine
end

