-- ==== Sys2Proof/Laws/Wire.lean ====
section
/-! SUPPORT. What the command phase of a transaction and its reply do to a port and to the rest of the state: one lemma for
each shared operation of Machine/Wire.lean. -/
namespace Sys2Proof.Machine

/-! ### Drift tracking touches taps, the trial's taps, drift counts and EDGE alone -/

theorem Port.moveTap_eq (p : Port) (k v : Nat) : p.moveTap k v =
    { p with taps := (p.moveTap k v).taps, trialTaps := (p.moveTap k v).trialTaps } := by
  unfold Port.moveTap
  split <;> rfl

theorem Port.driftMove_eq (p : Port) (k : Fin 8) : p.driftMove k =
    { p with taps := (p.driftMove k).taps, trialTaps := (p.driftMove k).trialTaps, drift := (p.driftMove k).drift, edge := (p.driftMove k).edge } := by
  unfold Port.driftMove
  dsimp only
  repeat' split
  all_goals first | rfl | (rw [Port.moveTap_eq])

theorem Port.driftStep_eq (p : Port) (d : DriftSample) : p.driftStep d =
    { p with taps := (p.driftStep d).taps, trialTaps := (p.driftStep d).trialTaps, drift := (p.driftStep d).drift, edge := (p.driftStep d).edge } := by
  unfold Port.driftStep
  dsimp only
  rw [Port.driftMove_eq]

theorem Port.foldl_driftStep_eq (l : List DriftSample) (p : Port) : l.foldl Port.driftStep p =
    { p with taps := (l.foldl Port.driftStep p).taps, trialTaps := (l.foldl Port.driftStep p).trialTaps, drift := (l.foldl Port.driftStep p).drift,
             edge := (l.foldl Port.driftStep p).edge } := by
  induction l generalizing p with
  | nil => rfl
  | cons d r ih =>
    rw [List.foldl_cons, ih, Port.driftStep_eq]

theorem Port.track_eq (p : Port) (l : List DriftSample) : p.track l =
    { p with taps := (p.track l).taps, trialTaps := (p.track l).trialTaps, drift := (p.track l).drift, edge := (p.track l).edge } := by
  unfold Port.track
  split
  · rfl
  · exact Port.foldl_driftStep_eq l p

/-- A port without drift tracking, or a transaction without samples, keeps all. -/
@[simp] theorem Port.track_nil (p : Port) : p.track [] = p := by
  unfold Port.track
  split <;> rfl

@[simp] theorem Port.track_csLow (p : Port) (l : List DriftSample) : (p.track l).csLow = p.csLow := by
  rw [Port.track_eq]
@[simp] theorem Port.track_waitRise (p : Port) (l : List DriftSample) : (p.track l).waitRise = p.waitRise := by
  rw [Port.track_eq]
@[simp] theorem Port.track_chainFrame (p : Port) (l : List DriftSample) : (p.track l).chainFrame = p.chainFrame := by
  rw [Port.track_eq]
@[simp] theorem Port.track_txOp (p : Port) (l : List DriftSample) : (p.track l).txOp = p.txOp := by
  rw [Port.track_eq]
@[simp] theorem Port.track_atRise (p : Port) (l : List DriftSample) : (p.track l).atRise = p.atRise := by
  rw [Port.track_eq]
@[simp] theorem Port.track_reply (p : Port) (l : List DriftSample) : (p.track l).reply = p.reply := by
  rw [Port.track_eq]
@[simp] theorem Port.track_cycle (p : Port) (l : List DriftSample) : (p.track l).cycle = p.cycle := by
  rw [Port.track_eq]
@[simp] theorem Port.track_cell (p : Port) (l : List DriftSample) : (p.track l).cell = p.cell := by
  rw [Port.track_eq]
@[simp] theorem Port.track_level (p : Port) (l : List DriftSample) : (p.track l).level = p.level := by
  rw [Port.track_eq]
@[simp] theorem Port.track_fetch (p : Port) (l : List DriftSample) : (p.track l).fetch = p.fetch := by
  rw [Port.track_eq]
@[simp] theorem Port.track_hold (p : Port) (l : List DriftSample) : (p.track l).hold = p.hold := by
  rw [Port.track_eq]
@[simp] theorem Port.track_upload (p : Port) (l : List DriftSample) : (p.track l).upload = p.upload := by
  rw [Port.track_eq]
@[simp] theorem Port.track_shifter (p : Port) (l : List DriftSample) : (p.track l).shifter = p.shifter := by
  rw [Port.track_eq]
@[simp] theorem Port.track_frameEdges (p : Port) (l : List DriftSample) : (p.track l).frameEdges = p.frameEdges := by
  rw [Port.track_eq]
@[simp] theorem Port.track_fetchBank (p : Port) (l : List DriftSample) : (p.track l).fetchBank = p.fetchBank := by
  rw [Port.track_eq]
@[simp] theorem Port.track_reading (p : Port) (l : List DriftSample) : (p.track l).reading = p.reading := by
  rw [Port.track_eq]
@[simp] theorem Port.track_guarded (p : Port) (l : List DriftSample) : (p.track l).guarded = p.guarded := by
  rw [Port.track_eq]
@[simp] theorem Port.track_tokens (p : Port) (l : List DriftSample) : (p.track l).tokens = p.tokens := by
  rw [Port.track_eq]
@[simp] theorem Port.track_seenLow (p : Port) (l : List DriftSample) : (p.track l).seenLow = p.seenLow := by
  rw [Port.track_eq]
@[simp] theorem Port.track_mode (p : Port) (l : List DriftSample) : (p.track l).mode = p.mode := by
  rw [Port.track_eq]
@[simp] theorem Port.track_plain (p : Port) (l : List DriftSample) : (p.track l).plain = p.plain := by
  rw [Port.track_eq]
@[simp] theorem Port.track_pol3 (p : Port) (l : List DriftSample) : (p.track l).pol3 = p.pol3 := by
  rw [Port.track_eq]
@[simp] theorem Port.track_waits (p : Port) (l : List DriftSample) : (p.track l).waits = p.waits := by
  rw [Port.track_eq]
@[simp] theorem Port.track_waitsSet (p : Port) (l : List DriftSample) : (p.track l).waitsSet = p.waitsSet := by
  rw [Port.track_eq]
@[simp] theorem Port.track_waitsNow (p : Port) (l : List DriftSample) : (p.track l).waitsNow = p.waitsNow := by
  rw [Port.track_eq]
@[simp] theorem Port.track_holdLimit (p : Port) (l : List DriftSample) : (p.track l).holdLimit = p.holdLimit := by
  rw [Port.track_eq]
@[simp] theorem Port.track_holdLimitSet (p : Port) (l : List DriftSample) : (p.track l).holdLimitSet = p.holdLimitSet := by
  rw [Port.track_eq]
@[simp] theorem Port.track_holdLimitNow (p : Port) (l : List DriftSample) : (p.track l).holdLimitNow = p.holdLimitNow := by
  rw [Port.track_eq]
@[simp] theorem Port.track_len (p : Port) (l : List DriftSample) : (p.track l).len = p.len := by
  rw [Port.track_eq]
@[simp] theorem Port.track_lenSet (p : Port) (l : List DriftSample) : (p.track l).lenSet = p.lenSet := by
  rw [Port.track_eq]
@[simp] theorem Port.track_lenNow (p : Port) (l : List DriftSample) : (p.track l).lenNow = p.lenNow := by
  rw [Port.track_eq]
@[simp] theorem Port.track_period (p : Port) (l : List DriftSample) : (p.track l).period = p.period := by
  rw [Port.track_eq]
@[simp] theorem Port.track_declared (p : Port) (l : List DriftSample) : (p.track l).declared = p.declared := by
  rw [Port.track_eq]
@[simp] theorem Port.track_periodNow (p : Port) (l : List DriftSample) : (p.track l).periodNow = p.periodNow := by
  rw [Port.track_eq]
@[simp] theorem Port.track_declaredNow (p : Port) (l : List DriftSample) : (p.track l).declaredNow = p.declaredNow := by
  rw [Port.track_eq]
@[simp] theorem Port.track_holds (p : Port) (l : List DriftSample) : (p.track l).holds = p.holds := by
  rw [Port.track_eq]
@[simp] theorem Port.track_crcerrs (p : Port) (l : List DriftSample) : (p.track l).crcerrs = p.crcerrs := by
  rw [Port.track_eq]
@[simp] theorem Port.track_modeConflict (p : Port) (l : List DriftSample) : (p.track l).modeConflict = p.modeConflict := by
  rw [Port.track_eq]
@[simp] theorem Port.track_badset (p : Port) (l : List DriftSample) : (p.track l).badset = p.badset := by
  rw [Port.track_eq]
@[simp] theorem Port.track_badop (p : Port) (l : List DriftSample) : (p.track l).badop = p.badop := by
  rw [Port.track_eq]
@[simp] theorem Port.track_holdExpired (p : Port) (l : List DriftSample) : (p.track l).holdExpired = p.holdExpired := by
  rw [Port.track_eq]
@[simp] theorem Port.track_underrun (p : Port) (l : List DriftSample) : (p.track l).underrun = p.underrun := by
  rw [Port.track_eq]
@[simp] theorem Port.track_stones (p : Port) (l : List DriftSample) : (p.track l).stones = p.stones := by
  rw [Port.track_eq]
@[simp] theorem Port.track_result (p : Port) (l : List DriftSample) : (p.track l).result = p.result := by
  rw [Port.track_eq]
@[simp] theorem Port.track_lastop (p : Port) (l : List DriftSample) : (p.track l).lastop = p.lastop := by
  rw [Port.track_eq]
@[simp] theorem Port.track_units (p : Port) (l : List DriftSample) : (p.track l).units = p.units := by
  rw [Port.track_eq]
@[simp] theorem Port.track_armed (p : Port) (l : List DriftSample) : (p.track l).armed = p.armed := by
  rw [Port.track_eq]
@[simp] theorem Port.track_notarmed (p : Port) (l : List DriftSample) : (p.track l).notarmed = p.notarmed := by
  rw [Port.track_eq]
@[simp] theorem Port.track_stopped (p : Port) (l : List DriftSample) : (p.track l).stopped = p.stopped := by
  rw [Port.track_eq]
@[simp] theorem Port.track_eccfail (p : Port) (l : List DriftSample) : (p.track l).eccfail = p.eccfail := by
  rw [Port.track_eq]
@[simp] theorem Port.track_eccfix (p : Port) (l : List DriftSample) : (p.track l).eccfix = p.eccfix := by
  rw [Port.track_eq]
@[simp] theorem Port.track_pktbad (p : Port) (l : List DriftSample) : (p.track l).pktbad = p.pktbad := by
  rw [Port.track_eq]
@[simp] theorem Port.track_mask (p : Port) (l : List DriftSample) : (p.track l).mask = p.mask := by
  rw [Port.track_eq]
@[simp] theorem Port.track_subx (p : Port) (l : List DriftSample) : (p.track l).subx = p.subx := by
  rw [Port.track_eq]
@[simp] theorem Port.track_dflt (p : Port) (l : List DriftSample) : (p.track l).dflt = p.dflt := by
  rw [Port.track_eq]
@[simp] theorem Port.track_silent (p : Port) (l : List DriftSample) : (p.track l).silent = p.silent := by
  rw [Port.track_eq]
@[simp] theorem Port.track_silenceLimit (p : Port) (l : List DriftSample) : (p.track l).silenceLimit = p.silenceLimit := by
  rw [Port.track_eq]
@[simp] theorem Port.track_reverts (p : Port) (l : List DriftSample) : (p.track l).reverts = p.reverts := by
  rw [Port.track_eq]
@[simp] theorem Port.track_chosen (p : Port) (l : List DriftSample) : (p.track l).chosen = p.chosen := by
  rw [Port.track_eq]
@[simp] theorem Port.track_trainResult (p : Port) (l : List DriftSample) : (p.track l).trainResult = p.trainResult := by
  rw [Port.track_eq]
@[simp] theorem Port.track_vqband (p : Port) (l : List DriftSample) : (p.track l).vqband = p.vqband := by
  rw [Port.track_eq]
@[simp] theorem Port.track_trial (p : Port) (l : List DriftSample) : (p.track l).trial = p.trial := by
  rw [Port.track_eq]
@[simp] theorem Port.track_trialMode (p : Port) (l : List DriftSample) : (p.track l).trialMode = p.trialMode := by
  rw [Port.track_eq]
@[simp] theorem Port.track_swept (p : Port) (l : List DriftSample) : (p.track l).swept = p.swept := by
  rw [Port.track_eq]
@[simp] theorem Port.track_override (p : Port) (l : List DriftSample) : (p.track l).override = p.override := by
  rw [Port.track_eq]
@[simp] theorem Port.track_freeze (p : Port) (l : List DriftSample) : (p.track l).freeze = p.freeze := by
  rw [Port.track_eq]
@[simp] theorem Port.track_latches (p : Port) (l : List DriftSample) : (p.track l).latches = p.latches := by
  rw [Port.track_eq]
@[simp] theorem Port.track_rejects (p : Port) (l : List DriftSample) : (p.track l).rejects = p.rejects := by
  rw [Port.track_eq]
@[simp] theorem Port.track_chipid (p : Port) (l : List DriftSample) : (p.track l).chipid = p.chipid := by
  rw [Port.track_eq]
@[simp] theorem Port.track_chainWpx (p : Port) (l : List DriftSample) : (p.track l).chainWpx = p.chainWpx := by
  rw [Port.track_eq]
@[simp] theorem Port.track_lastbad (p : Port) (l : List DriftSample) : (p.track l).lastbad = p.lastbad := by
  rw [Port.track_eq]
@[simp] theorem Port.track_lastok (p : Port) (l : List DriftSample) : (p.track l).lastok = p.lastok := by
  rw [Port.track_eq]
@[simp] theorem Port.track_booten (p : Port) (l : List DriftSample) : (p.track l).booten = p.booten := by
  rw [Port.track_eq]
@[simp] theorem Port.track_chainEn (p : Port) (l : List DriftSample) : (p.track l).chainEn = p.chainEn := by
  rw [Port.track_eq]

/-! ### The command phase -/

@[simp] theorem State.received_port_self (s : State) (tx : Tx) (op : Byte) :
    (s.received tx op).port tx.port =
      { Port.track { s.port tx.port with cycle := tx.waited, cell := none, level := 0xFF, txOp := some op, lastop := op } tx.drift with
        silent := 0 } := by
  simp [State.received]

theorem State.received_port_of_ne (s : State) (tx : Tx) (op : Byte) (q : PortId) (h : q ≠ tx.port) :
    (s.received tx op).port q = s.port q := State.modPort_port_of_ne s tx.port _ q h

theorem State.modPort_modPort (s : State) (p : PortId) (f g : Port → Port) :
    (s.modPort p f).modPort p g = s.modPort p (fun x => g (f x)) := by
  simp [State.modPort, State.port]

/-- A command phase of a known opcode, whose complement is right where it is asked for, goes on. -/
theorem State.commandPhase_good (s : State) (p : PortId) (op : Byte) (compl : Bool) (drift : List DriftSample)
    (hd : ((s.port p).ddr && !compl) = false) (ho : knownOpcode op = true) : s.commandPhase p op compl drift =
      (s.modPort p (fun x => { Port.track { x with txOp := some op, lastop := op } drift with silent := 0 }), true) := by
  simp only [State.commandPhase, hd, ho, Bool.not_true, Bool.false_eq_true, if_false, State.modPort_modPort]

/-- A command that the port listens to passes its command phase. -/
theorem State.begin_listens (s : State) (tx : Tx) (op : Byte) (inTrial : Bool) (h : s.listens tx = true)
    (ho : knownOpcode op = true) : s.begin tx op inTrial = (s.received tx op, true) := by
  simp only [State.listens, Bool.and_eq_true, Bool.not_eq_true', Bool.or_eq_true] at h
  obtain ⟨⟨h1, h2⟩, h3⟩ := h
  have h4 : ((s.port tx.port).ddr && !tx.compl) = false := by
    rcases h3 with h3 | h3 <;> simp [h3]
  have h5 : (((s.modPort tx.port (fun x => { x with cycle := tx.waited, cell := none, level := 0xFF })).port tx.port).ddr
      && !tx.compl) = false := by
    rw [State.modPort_port_self]; exact h4
  simp only [State.begin, h1, h2, State.commandPhase_good _ _ _ _ _ h5 ho, Bool.not_true, Bool.false_eq_true, if_false,
    Bool.false_and, State.modPort_modPort, State.received]

theorem State.inTime_received (s : State) (tx : Tx) (op : Byte) : (s.received tx op).inTime tx = s.inTime tx := by
  simp only [State.inTime, Port.strobed, Port.txMode, State.received_port_self, Port.track_trial, Port.track_trialMode,
    Port.track_mode, Port.track_waitsNow]

/-- A command that is taken runs its body on the received state. -/
theorem State.run2_takes (s : State) (tx : Tx) (op : Byte) (inTrial : Bool) (body : State → State) (h : s.takes tx = true)
    (ho : knownOpcode op = true) : s.run2 tx op inTrial body = body (s.received tx op) := by
  simp only [State.takes, Bool.and_eq_true] at h
  simp [State.run2, State.begin_listens s tx op inTrial h.1 ho, State.inTime_received, h.2]

end Sys2Proof.Machine
end

