-- ==== Sys2Proof/Laws/Kept.lean ====
section
/-! SUPPORT. What the operations of the model leave alone: the cells of the array, and the part of the state that only pace
edges, resets and CS# move (`Still`). One lemma for each operation. -/
namespace Sys2Proof.Machine
-- the lemmas close by one case analysis, of which most need only a part
set_option linter.unusedTactic false
set_option linter.unreachableTactic false
set_option linter.unusedSimpArgs false
set_option linter.unusedVariables false

/-- What only CS#, pace edges, resets and the pins' own commands change: the queue, device time and PDIV, who holds pace and by
which policy, the levels of CS#, and the pins with the factory's values, but for the straps that boot samples. -/
structure Still where
  pending   : List Instr
  devtime   : BitVec 64
  crossed   : Nat
  qualified : Bool
  pdiv      : BitVec 4
  holder    : Option PortId
  oldPacer  : Option PortId
  sync      : Nat
  oldSync   : Nat
  policy    : Bool
  handovers : BitVec 16
  lows      : Vector (Bool × Bool) 8
  pins      : Pins

/-- `Still`, and the cells. -/
structure Kept where
  still : Still
  mem   : List Host.Cell

def State.kept (s : State) : Kept where
  still := { pending := s.pending, devtime := s.pace.devtime, crossed := s.pace.crossed, qualified := s.pace.qualified, pdiv := s.pace.pdiv,
             holder := s.pace.holder, oldPacer := s.pace.oldPacer, sync := s.pace.sync, oldSync := s.pace.oldSync, policy := s.pace.policy, handovers := s.pace.handovers,
             lows := s.ports.map (fun p => (p.csLow, p.waitRise)), pins := { s.pins with chipid := 0 } }
  mem := s.mem

/-! ### The named updates -/

theorem lows_set (v : Vector Port 8) (i : Nat) (h : i < 8) (x : Port) (h1 : x.csLow = v[i].csLow)
    (h2 : x.waitRise = v[i].waitRise) :
    (v.set i x h).map (fun p => (p.csLow, p.waitRise)) = v.map (fun p => (p.csLow, p.waitRise)) := by
  ext j hj
  · simp [Vector.getElem_set]; split <;> simp_all
  · simp [Vector.getElem_set]; split <;> simp_all

@[simp] theorem State.kept_modPort (s : State) (p : PortId) (f : Port → Port) (h1 : (f (s.port p)).csLow = (s.port p).csLow)
    (h2 : (f (s.port p)).waitRise = (s.port p).waitRise) : (s.modPort p f).kept = s.kept := by
  simp only [State.kept, State.modPort, lows_set _ _ _ _ h1 h2]

/-- The state of a pair that is known. -/
theorem Kept.of_pair {α : Type} {r : State × α} {t : State} {x : α} (h : r = (t, x)) : t.kept = r.1.kept := by rw [h]

theorem lows_mapFinIdx (v : Vector Port 8) (f : (i : Nat) → Port → i < 8 → Port) (h1 : ∀ i p h, (f i p h).csLow = p.csLow)
    (h2 : ∀ i p h, (f i p h).waitRise = p.waitRise) :
    (v.mapFinIdx f).map (fun p => (p.csLow, p.waitRise)) = v.map (fun p => (p.csLow, p.waitRise)) := by
  ext j hj <;> simp [h1, h2]

theorem lows_map (v : Vector Port 8) (f : Port → Port) (h1 : ∀ p, (f p).csLow = p.csLow) (h2 : ∀ p, (f p).waitRise = p.waitRise) :
    (v.map f).map (fun p => (p.csLow, p.waitRise)) = v.map (fun p => (p.csLow, p.waitRise)) := by
  ext j hj <;> simp [h1, h2]

/-! ### Ports: CS# moves by itself -/

@[simp] theorem Port.rejectSeg_csLow (p : Port)  : p.rejectSeg.csLow = p.csLow := by
  unfold Port.rejectSeg; repeat' (first | rfl | (simp; done) | split | dsimp only)
@[simp] theorem Port.rejectSeg_waitRise (p : Port)  : p.rejectSeg.waitRise = p.waitRise := by
  unfold Port.rejectSeg; repeat' (first | rfl | (simp; done) | split | dsimp only)
@[simp] theorem Port.confirm_csLow (p : Port) (c : BitVec 4) : (p.confirm c).csLow = p.csLow := by
  unfold Port.confirm; repeat' (first | rfl | (simp; done) | split | dsimp only)
@[simp] theorem Port.confirm_waitRise (p : Port) (c : BitVec 4) : (p.confirm c).waitRise = p.waitRise := by
  unfold Port.confirm; repeat' (first | rfl | (simp; done) | split | dsimp only)
@[simp] theorem Port.enterTrial_csLow (p : Port) (c : BitVec 4) : (p.enterTrial c).csLow = p.csLow := by
  unfold Port.enterTrial; repeat' (first | rfl | (simp; done) | split | dsimp only)
@[simp] theorem Port.enterTrial_waitRise (p : Port) (c : BitVec 4) : (p.enterTrial c).waitRise = p.waitRise := by
  unfold Port.enterTrial; repeat' (first | rfl | (simp; done) | split | dsimp only)
@[simp] theorem Port.endTrial_csLow (p : Port) (c : BitVec 4) : (p.endTrial c).csLow = p.csLow := by
  unfold Port.endTrial; repeat' (first | rfl | (simp; done) | split | dsimp only)
@[simp] theorem Port.endTrial_waitRise (p : Port) (c : BitVec 4) : (p.endTrial c).waitRise = p.waitRise := by
  unfold Port.endTrial; repeat' (first | rfl | (simp; done) | split | dsimp only)
@[simp] theorem Port.silenceCheck_csLow (p : Port)  : p.silenceCheck.csLow = p.csLow := by
  unfold Port.silenceCheck; repeat' (first | rfl | (simp; done) | split | dsimp only)
@[simp] theorem Port.silenceCheck_waitRise (p : Port)  : p.silenceCheck.waitRise = p.waitRise := by
  unfold Port.silenceCheck; repeat' (first | rfl | (simp; done) | split | dsimp only)
@[simp] theorem Port.writeTiming_csLow (p : Port) (v : Word) : (p.writeTiming v).csLow = p.csLow := by
  unfold Port.writeTiming; repeat' (first | rfl | (simp; done) | split | dsimp only)
@[simp] theorem Port.writeTiming_waitRise (p : Port) (v : Word) : (p.writeTiming v).waitRise = p.waitRise := by
  unfold Port.writeTiming; repeat' (first | rfl | (simp; done) | split | dsimp only)
@[simp] theorem Port.riseTiming_csLow (p : Port) (v : Word) : (p.riseTiming v).csLow = p.csLow := by
  unfold Port.riseTiming; repeat' (first | rfl | (simp; done) | split | dsimp only)
@[simp] theorem Port.riseTiming_waitRise (p : Port) (v : Word) : (p.riseTiming v).waitRise = p.waitRise := by
  unfold Port.riseTiming; repeat' (first | rfl | (simp; done) | split | dsimp only)
@[simp] theorem Port.writeLen_csLow (p : Port) (v : Word) : (p.writeLen v).csLow = p.csLow := by
  unfold Port.writeLen; repeat' (first | rfl | (simp; done) | split | dsimp only)
@[simp] theorem Port.writeLen_waitRise (p : Port) (v : Word) : (p.writeLen v).waitRise = p.waitRise := by
  unfold Port.writeLen; repeat' (first | rfl | (simp; done) | split | dsimp only)
@[simp] theorem Port.riseLen_csLow (p : Port) (v : Word) : (p.riseLen v).csLow = p.csLow := by
  unfold Port.riseLen; repeat' (first | rfl | (simp; done) | split | dsimp only)
@[simp] theorem Port.riseLen_waitRise (p : Port) (v : Word) : (p.riseLen v).waitRise = p.waitRise := by
  unfold Port.riseLen; repeat' (first | rfl | (simp; done) | split | dsimp only)
@[simp] theorem Port.risePeriod_csLow (p : Port) (v : Word) : (p.risePeriod v).csLow = p.csLow := by
  unfold Port.risePeriod; repeat' (first | rfl | (simp; done) | split | dsimp only)
@[simp] theorem Port.risePeriod_waitRise (p : Port) (v : Word) : (p.risePeriod v).waitRise = p.waitRise := by
  unfold Port.risePeriod; repeat' (first | rfl | (simp; done) | split | dsimp only)
@[simp] theorem Port.writeStat_csLow (p : Port) (v : Word) : (p.writeStat v).csLow = p.csLow := by
  unfold Port.writeStat; repeat' (first | rfl | (simp; done) | split | dsimp only)
@[simp] theorem Port.writeStat_waitRise (p : Port) (v : Word) : (p.writeStat v).waitRise = p.waitRise := by
  unfold Port.writeStat; repeat' (first | rfl | (simp; done) | split | dsimp only)
@[simp] theorem Port.writeCmd_csLow (p : Port) (v : Word) : (p.writeCmd v).csLow = p.csLow := by
  unfold Port.writeCmd; repeat' (first | rfl | (simp; done) | split | dsimp only)
@[simp] theorem Port.writeCmd_waitRise (p : Port) (v : Word) : (p.writeCmd v).waitRise = p.waitRise := by
  unfold Port.writeCmd; repeat' (first | rfl | (simp; done) | split | dsimp only)
@[simp] theorem Port.writeSubs_csLow (p : Port) (v : Word) : (p.writeSubs v).csLow = p.csLow := by
  unfold Port.writeSubs; repeat' (first | rfl | (simp; done) | split | dsimp only)
@[simp] theorem Port.writeSubs_waitRise (p : Port) (v : Word) : (p.writeSubs v).waitRise = p.waitRise := by
  unfold Port.writeSubs; repeat' (first | rfl | (simp; done) | split | dsimp only)
@[simp] theorem Port.writeTrain_csLow (p : Port) (v : Word) : (p.writeTrain v).csLow = p.csLow := by
  unfold Port.writeTrain; repeat' (first | rfl | (simp; done) | split | dsimp only)
@[simp] theorem Port.writeTrain_waitRise (p : Port) (v : Word) : (p.writeTrain v).waitRise = p.waitRise := by
  unfold Port.writeTrain; repeat' (first | rfl | (simp; done) | split | dsimp only)
@[simp] theorem Port.riseChainEn_csLow (p : Port) (v : Word) : (p.riseChainEn v).csLow = p.csLow := by
  unfold Port.riseChainEn; repeat' (first | rfl | (simp; done) | split | dsimp only)
@[simp] theorem Port.riseChainEn_waitRise (p : Port) (v : Word) : (p.riseChainEn v).waitRise = p.waitRise := by
  unfold Port.riseChainEn; repeat' (first | rfl | (simp; done) | split | dsimp only)
@[simp] theorem Port.revert_csLow (p : Port) (c : BitVec 4) : (p.revert c).csLow = p.csLow := by
  unfold Port.revert; repeat' (first | rfl | (simp; done) | split | dsimp only)
@[simp] theorem Port.revert_waitRise (p : Port) (c : BitVec 4) : (p.revert c).waitRise = p.waitRise := by
  unfold Port.revert; repeat' (first | rfl | (simp; done) | split | dsimp only)
@[simp] theorem Port.fail_csLow (p : Port)  : p.fail.csLow = p.csLow := by
  unfold Port.fail; repeat' (first | rfl | (simp; done) | split | dsimp only)
@[simp] theorem Port.fail_waitRise (p : Port)  : p.fail.waitRise = p.waitRise := by
  unfold Port.fail; repeat' (first | rfl | (simp; done) | split | dsimp only)
@[simp] theorem Port.nextPhase_csLow (p : Port) : p.nextPhase.csLow = p.csLow := rfl
@[simp] theorem Port.nextPhase_waitRise (p : Port) : p.nextPhase.waitRise = p.waitRise := rfl
@[simp] theorem Port.chainShift_csLow (p : Port) (d : Bool) : (p.chainShift d).csLow = p.csLow := rfl
@[simp] theorem Port.chainShift_waitRise (p : Port) (d : Bool) : (p.chainShift d).waitRise = p.waitRise := rfl
@[simp] theorem Port.chainShiftIn_csLow (p : Port) (e : Nat) (g : ChainSeg) : (p.chainShiftIn e g).csLow = p.csLow := rfl
@[simp] theorem Port.chainShiftIn_waitRise (p : Port) (e : Nat) (g : ChainSeg) : (p.chainShiftIn e g).waitRise = p.waitRise := rfl

variable (s : State)

@[simp] theorem State.kept_modBank (b : BankId) (f : Bank → Bank) : (s.modBank b f).kept = s.kept := (rfl)
@[simp] theorem State.kept_modGal (g : GalId) (f : Gal → Gal) : (s.modGal g f).kept = s.kept := (rfl)
@[simp] theorem State.kept_modSub (i : SubId) (f : Sub → Sub) : (s.modSub i f).kept = s.kept := (rfl)
@[simp] theorem State.kept_modGate (g : GateId) (f : Gate → Gate) : (s.modGate g f).kept = s.kept := (rfl)
@[simp] theorem State.kept_modAnx (a : AnnexId) (f : Annex → Annex) : (s.modAnx a f).kept = s.kept := (rfl)
@[simp] theorem State.kept_modLedger (f : Ledger → Ledger) : (s.modLedger f).kept = s.kept := (rfl)
@[simp] theorem State.kept_modLife (f : Life → Life) : (s.modLife f).kept = s.kept := (rfl)
@[simp] theorem State.kept_modPower (f : Power → Power) : (s.modPower f).kept = s.kept := (rfl)
@[simp] theorem State.kept_modUpkeep (f : Upkeep → Upkeep) : (s.modUpkeep f).kept = s.kept := (rfl)
@[simp] theorem State.kept_modGlob (f : Glob → Glob) : (s.modGlob f).kept = s.kept := (rfl)
@[simp] theorem State.kept_modPlinth (f : Plinth → Plinth) : (s.modPlinth f).kept = s.kept := (rfl)
@[simp] theorem State.kept_modBoot (f : Boot → Boot) : (s.modBoot f).kept = s.kept := (rfl)
@[simp] theorem State.kept_setLife (x : Life) : ({ s with life := x } : State).kept = s.kept := (rfl)
@[simp] theorem State.kept_setTrace (x : Trace) : ({ s with trace := x } : State).kept = s.kept := (rfl)
@[simp] theorem State.kept_setPlinth (x : Plinth) : ({ s with plinth := x } : State).kept = s.kept := (rfl)

theorem State.kept_foldl {α : Type} (l : List α) (f : State → α → State) (h : ∀ t a, (f t a).kept = t.kept) (s : State) :
    (l.foldl f s).kept = s.kept := by
  induction l generalizing s with
  | nil => rfl
  | cons a r ih => simp [ih, h]
theorem State.kept_forEach {α : Type} (l : List α) (f : State → α → State) (h : ∀ t a, (f t a).kept = t.kept) (s : State) :
    (forEach l f s).kept = s.kept := State.kept_foldl l f h s

/-! ### Machine/Ops.lean -/

@[simp] theorem State.kept_modPartner (a : AnnexId) (p : PartnerId) (f : Partner → Partner) :
    (s.modPartner a p f).kept = s.kept := by
  unfold State.modPartner
  try dsimp only
  repeat' (first | (simp; done) | (simp [*]; done) | (rename_i h0; simp [Kept.of_pair h0]; done) | split | rfl)
@[simp] theorem State.kept_addTrace (action : Byte) (slot : Option (Fin 256)) (bank : Nat) (arg : BitVec 16) :
    (s.addTrace action slot bank arg).kept = s.kept := by
  unfold State.addTrace
  try dsimp only
  repeat' (first | (simp; done) | (simp [*]; done) | (rename_i h0; simp [Kept.of_pair h0]; done) | split | rfl)
@[simp] theorem State.kept_cause (c : BitVec 7) :
    (s.cause c).kept = s.kept := by
  unfold State.cause
  try dsimp only
  repeat' (first | (simp; done) | (simp [*]; done) | (rename_i h0; simp [Kept.of_pair h0]; done) | split | rfl)
@[simp] theorem State.kept_useFree :
    s.useFree.kept = s.kept := by
  unfold State.useFree
  try dsimp only
  repeat' (first | (simp; done) | (simp [*]; done) | (rename_i h0; simp [Kept.of_pair h0]; done) | split | rfl)
@[simp] theorem State.kept_modOp (id : Nat) (f : Op → Op) :
    (s.modOp id f).kept = s.kept := by
  unfold State.modOp
  try dsimp only
  repeat' (first | (simp; done) | (simp [*]; done) | (rename_i h0; simp [Kept.of_pair h0]; done) | split | rfl)
@[simp] theorem State.kept_dropOp (id : Nat) :
    (s.dropOp id).kept = s.kept := by
  unfold State.dropOp
  try dsimp only
  repeat' (first | (simp; done) | (simp [*]; done) | (rename_i h0; simp [Kept.of_pair h0]; done) | split | rfl)
@[simp] theorem State.kept_traceOp (action : Byte) (o : Op) (arg : BitVec 16) :
    (s.traceOp action o arg).kept = s.kept := by
  unfold State.traceOp
  try dsimp only
  repeat' (first | (simp; done) | (simp [*]; done) | (rename_i h0; simp [Kept.of_pair h0]; done) | split | rfl)
@[simp] theorem State.kept_notePeak :
    s.notePeak.kept = s.kept := by
  unfold State.notePeak
  try dsimp only
  repeat' (first | (simp; done) | (simp [*]; done) | (rename_i h0; simp [Kept.of_pair h0]; done) | split | rfl)
@[simp] theorem State.kept_grant (o : Op) (bank : Nat) (mA : Nat) :
    (s.grant o bank mA).kept = s.kept := by
  unfold State.grant
  try dsimp only
  repeat' (first | (simp; done) | (simp [*]; done) | (rename_i h0; simp [Kept.of_pair h0]; done) | split | rfl)
@[simp] theorem State.kept_release (id : Nat) (bank : Nat) :
    (s.release id bank).kept = s.kept := by
  unfold State.release
  try dsimp only
  repeat' (first | (simp; done) | (simp [*]; done) | (rename_i h0; simp [Kept.of_pair h0]; done) | split | rfl)
@[simp] theorem State.kept_endReservation (id : Nat) :
    (s.endReservation id).kept = s.kept := by
  unfold State.endReservation
  try dsimp only
  repeat' (first | (simp; done) | (simp [*]; done) | (rename_i h0; simp [Kept.of_pair h0]; done) | split | rfl)
@[simp] theorem State.kept_takeYard (owner : Nat) (slot : Option (Fin 256)) (bank : Nat) (data : List Word) :
    (s.takeYard owner slot bank data).1.kept = s.kept := by
  unfold State.takeYard
  try dsimp only
  repeat' (first | (simp; done) | (simp [*]; done) | (rename_i h0; simp [Kept.of_pair h0]; done) | split | rfl)
@[simp] theorem State.kept_freeYard (owner : Nat) :
    (s.freeYard owner).kept = s.kept := by
  unfold State.freeYard
  try dsimp only
  repeat' (first | (simp; done) | (simp [*]; done) | (rename_i h0; simp [Kept.of_pair h0]; done) | split | rfl)
@[simp] theorem State.kept_fillYard (o : Op) (data : List Word) :
    (s.fillYard o data).kept = s.kept := by
  unfold State.fillYard
  try dsimp only
  repeat' (first | (simp; done) | (simp [*]; done) | (rename_i h0; simp [Kept.of_pair h0]; done) | split | rfl)
@[simp] theorem State.kept_drainYard (o : Op) :
    (s.drainYard o).kept = s.kept := by
  unfold State.drainYard
  try dsimp only
  repeat' (first | (simp; done) | (simp [*]; done) | (rename_i h0; simp [Kept.of_pair h0]; done) | split | rfl)
@[simp] theorem State.kept_latchWaits :
    s.latchWaits.kept = s.kept := by
  unfold State.latchWaits
  try dsimp only
  repeat' (first | (simp; done) | (simp [*]; done) | (rename_i h0; simp [Kept.of_pair h0]; done) | split | rfl)
@[simp] theorem State.kept_raiseEvent (e : Byte) :
    (s.raiseEvent e).kept = s.kept := by
  unfold State.raiseEvent
  try dsimp only
  repeat' (first | (simp; done) | (simp [*]; done) | (rename_i h0; simp [Kept.of_pair h0]; done) | split | rfl)
@[simp] theorem State.kept_postDirect (p : PortId) (o : Op) (result : Byte) :
    (s.postDirect p o result).kept = s.kept := by
  unfold State.postDirect
  try dsimp only
  repeat' (first | (simp; done) | (simp [*]; done) | (rename_i h0; simp [Kept.of_pair h0]; done) | split | rfl)
@[simp] theorem State.kept_dedupResult (o : Op) (result : Byte) :
    (s.dedupResult o result).kept = s.kept := by
  unfold State.dedupResult
  try dsimp only
  repeat' (first | (simp; done) | (simp [*]; done) | (rename_i h0; simp [Kept.of_pair h0]; done) | split | rfl)
@[simp] theorem State.kept_leaveRecord (o : Op) (result : Byte) :
    (s.leaveRecord o result).kept = s.kept := by
  unfold State.leaveRecord
  try dsimp only
  repeat' (first | (simp; done) | (simp [*]; done) | (rename_i h0; simp [Kept.of_pair h0]; done) | split | rfl)
@[simp] theorem State.kept_completeWith (latch : Bool) (s : State) (id : Nat) (result : Byte) :
    (State.completeWith latch s id result).kept = s.kept := by
  unfold State.completeWith
  try dsimp only
  repeat' (first | (simp; done) | (simp [*]; done) | (rename_i h0; simp [Kept.of_pair h0]; done) | split | rfl)
@[simp] theorem State.kept_complete (id : Nat) (result : Byte) :
    (s.complete id result).kept = s.kept := by
  unfold State.complete
  try dsimp only
  repeat' (first | (simp; done) | (simp [*]; done) | (rename_i h0; simp [Kept.of_pair h0]; done) | split | rfl)
@[simp] theorem State.kept_plinthWrite (d : PlinthData) :
    (s.plinthWrite d).kept = s.kept := by
  unfold State.plinthWrite
  try dsimp only
  repeat' (first | (simp; done) | (simp [*]; done) | (rename_i h0; simp [Kept.of_pair h0]; done) | split | rfl)
@[simp] theorem State.kept_writeConfig :
    s.writeConfig.kept = s.kept := by
  unfold State.writeConfig
  try dsimp only
  repeat' (first | (simp; done) | (simp [*]; done) | (rename_i h0; simp [Kept.of_pair h0]; done) | split | rfl)
@[simp] theorem State.kept_writeBankRec (b : BankId) :
    (s.writeBankRec b).kept = s.kept := by
  unfold State.writeBankRec
  try dsimp only
  repeat' (first | (simp; done) | (simp [*]; done) | (rename_i h0; simp [Kept.of_pair h0]; done) | split | rfl)
@[simp] theorem State.kept_touch (n : Nat) :
    (s.touch n).kept = s.kept := by
  unfold State.touch
  try dsimp only
  repeat' (first | (simp; done) | (simp [*]; done) | (rename_i h0; simp [Kept.of_pair h0]; done) | split | rfl)
@[simp] theorem State.kept_setWear (b : BankId) (key clears firings : Nat) :
    (s.setWear b key clears firings).kept = s.kept := by
  unfold State.setWear
  try dsimp only
  repeat' (first | (simp; done) | (simp [*]; done) | (rename_i h0; simp [Kept.of_pair h0]; done) | split | rfl)
@[simp] theorem State.kept_addClear (b : BankId) (u : UnitRef) :
    (s.addClear b u).kept = s.kept := by
  unfold State.addClear
  try dsimp only
  repeat' (first | (simp; done) | (simp [*]; done) | (rename_i h0; simp [Kept.of_pair h0]; done) | split | rfl)
@[simp] theorem State.kept_noteWorn (b : BankId) :
    (s.noteWorn b).kept = s.kept := by
  unfold State.noteWorn
  try dsimp only
  repeat' (first | (simp; done) | (simp [*]; done) | (rename_i h0; simp [Kept.of_pair h0]; done) | split | rfl)
@[simp] theorem State.kept_refillGap (b : BankId) :
    (s.refillGap b).kept = s.kept := by
  unfold State.refillGap
  try dsimp only
  repeat' (first | (simp; done) | (simp [*]; done) | (rename_i h0; simp [Kept.of_pair h0]; done) | split | rfl)
@[simp] theorem State.kept_settleSlots (b : BankId) :
    (s.settleSlots b).kept = s.kept := by
  unfold State.settleSlots
  try dsimp only
  repeat' (first | (simp; done) | (simp [*]; done) | (rename_i h0; simp [Kept.of_pair h0]; done) | split | rfl)
@[simp] theorem State.kept_modKept (b : BankId) (f : BankRec → BankRec) :
    (s.modKept b f).kept = s.kept := by
  unfold State.modKept
  try dsimp only
  repeat' (first | (simp; done) | (simp [*]; done) | (rename_i h0; simp [Kept.of_pair h0]; done) | split | rfl)
@[simp] theorem State.kept_violate (v : Violation) :
    (s.violate v).kept = s.kept := by
  unfold State.violate
  try dsimp only
  repeat' (first | (simp; done) | (simp [*]; done) | (rename_i h0; simp [Kept.of_pair h0]; done) | split | rfl)
@[simp] theorem State.kept_bumpEpochs :
    s.bumpEpochs.kept = s.kept := by
  unfold State.bumpEpochs
  try dsimp only
  repeat' (first | (simp; done) | (simp [*]; done) | (rename_i h0; simp [Kept.of_pair h0]; done) | split | rfl)
@[simp] theorem State.kept_enableGate (gi : GateId) :
    (s.enableGate gi).kept = s.kept := by
  unfold State.enableGate
  try dsimp only
  repeat' (first | (simp; done) | (simp [*]; done) | (rename_i h0; simp [Kept.of_pair h0]; done) | split | rfl)

/-! ### Machine/Wire.lean -/

@[simp] theorem State.kept_queueRise (p : PortId) (a : RiseAct) :
    (s.queueRise p a).kept = s.kept := by
  unfold State.queueRise
  try dsimp only
  repeat' (first | (simp; done) | (simp [*]; done) | (rename_i h0; simp [Kept.of_pair h0]; done) | split | rfl)
@[simp] theorem State.kept_replyWith (p : PortId) (c : Cond) (data : List Byte) (feed : Feed) :
    (s.replyWith p c data feed).kept = s.kept := by
  unfold State.replyWith
  try dsimp only
  repeat' (first | (simp; done) | (simp [*]; done) | (rename_i h0; simp [Kept.of_pair h0]; done) | split | rfl)
@[simp] theorem State.kept_answer (p : PortId) (c : Cond) (data : List Byte) :
    (s.answer p c data).kept = s.kept := by
  unfold State.answer
  try dsimp only
  repeat' (first | (simp; done) | (simp [*]; done) | (rename_i h0; simp [Kept.of_pair h0]; done) | split | rfl)
@[simp] theorem State.kept_hush (p : PortId) :
    (s.hush p).kept = s.kept := by
  unfold State.hush
  try dsimp only
  repeat' (first | (simp; done) | (simp [*]; done) | (rename_i h0; simp [Kept.of_pair h0]; done) | split | rfl)
@[simp] theorem State.kept_hushBad (p : PortId) :
    (s.hushBad p).kept = s.kept := by
  unfold State.hushBad
  try dsimp only
  repeat' (first | (simp; done) | (simp [*]; done) | (rename_i h0; simp [Kept.of_pair h0]; done) | split | rfl)
@[simp] theorem State.kept_commandPhase (p : PortId) (op : Byte) (compl : Bool) (drift : List DriftSample) :
    (s.commandPhase p op compl drift).1.kept = s.kept := by
  unfold State.commandPhase
  try dsimp only
  repeat' (first | (simp; done) | (simp [*]; done) | (rename_i h0; simp [Kept.of_pair h0]; done) | split | rfl)
@[simp] theorem State.kept_abandon (p : PortId) :
    (s.abandon p).kept = s.kept := by
  unfold State.abandon
  try dsimp only
  repeat' (first | (simp; done) | (simp [*]; done) | (rename_i h0; simp [Kept.of_pair h0]; done) | split | rfl)
@[simp] theorem State.kept_begin (tx : Tx) (op : Byte) (inTrial : Bool) :
    (s.begin tx op inTrial).1.kept = s.kept := by
  unfold State.begin
  dsimp only
  split
  · rfl
  split
  · rename_i h0
    have h1 := Kept.of_pair h0
    simp only [State.kept_commandPhase] at h1
    split <;> simp [h1]
  · rename_i h0
    have h1 := Kept.of_pair h0
    simp only [State.kept_commandPhase] at h1
    split <;> simp [h1]
@[simp] theorem State.kept_tooLate (tx : Tx) :
    (s.tooLate tx).kept = s.kept := by
  unfold State.tooLate
  try dsimp only
  repeat' (first | (simp; done) | (simp [*]; done) | (rename_i h0; simp [Kept.of_pair h0]; done) | split | rfl)
theorem State.kept_run2 (tx : Tx) (op : Byte) (inTrial : Bool) (body : State → State) (h : ∀ t, (body t).kept = t.kept) :
    (s.run2 tx op inTrial body).kept = s.kept := by
  unfold State.run2
  split
  · rename_i h0; have := Kept.of_pair h0; simpa using this
  · rename_i h0; have := Kept.of_pair h0; split <;> simpa [h] using this
@[simp] theorem State.kept_recordSent (p : PortId) :
    (s.recordSent p).kept = s.kept := by
  unfold State.recordSent
  try dsimp only
  repeat' (first | (simp; done) | (simp [*]; done) | (rename_i h0; simp [Kept.of_pair h0]; done) | split | rfl)

/-! ### Machine/Partners.lean -/

@[simp] theorem State.kept_send (a : AnnexId) (e : Exchange) :
    (s.send a e).kept = s.kept := by
  unfold State.send
  try dsimp only
  repeat' (first | (simp; done) | (simp [*]; done) | (rename_i h0; simp [Kept.of_pair h0]; done) | split | rfl)
@[simp] theorem State.kept_lastResult (a : AnnexId) (p : PartnerId) (r : Byte) :
    (s.lastResult a p r).kept = s.kept := by
  unfold State.lastResult
  try dsimp only
  repeat' (first | (simp; done) | (simp [*]; done) | (rename_i h0; simp [Kept.of_pair h0]; done) | split | rfl)
@[simp] theorem State.kept_freePartner (a : AnnexId) (p : PartnerId) :
    (s.freePartner a p).kept = s.kept := by
  unfold State.freePartner
  try dsimp only
  repeat' (first | (simp; done) | (simp [*]; done) | (rename_i h0; simp [Kept.of_pair h0]; done) | split | rfl)
@[simp] theorem State.kept_losePartner (a : AnnexId) (p : PartnerId) (yielded : Bool) :
    (s.losePartner a p yielded).kept = s.kept := by
  unfold State.losePartner
  try dsimp only
  repeat' (first | (simp; done) | (simp [*]; done) | (rename_i h0; simp [Kept.of_pair h0]; done) | split | rfl)
@[simp] theorem State.kept_fencePartner (a : AnnexId) (p : PartnerId) (r : Byte) :
    (s.fencePartner a p r).kept = s.kept := by
  unfold State.fencePartner
  try dsimp only
  repeat' (first | (simp; done) | (simp [*]; done) | (rename_i h0; simp [Kept.of_pair h0]; done) | split | rfl)
@[simp] theorem State.kept_probePartner (a : AnnexId) (p : PartnerId) (rx : List Byte) :
    (s.probePartner a p rx).1.kept = s.kept := by
  unfold State.probePartner
  dsimp only
  have h : ((probe (s.anx a) p (s.partner a p) rx).sent.foldl (fun t e => t.send a e)
      (s.modPartner a p (fun _ => (probe (s.anx a) p (s.partner a p) rx).partner))).kept = s.kept := by
    rw [State.kept_foldl _ _ (fun t e => State.kept_send t a e), State.kept_modPartner]
  split
  · dsimp only; split <;> simp [h]
  · rfl
@[simp] theorem State.kept_stopRead (a : BitVec 32) :
    (s.stopRead a).kept = s.kept := by
  unfold State.stopRead
  try dsimp only
  repeat' (first | (simp; done) | (simp [*]; done) | (rename_i h0; simp [Kept.of_pair h0]; done) | split | rfl)
@[simp] theorem State.kept_freeOwned (id : Nat) :
    (s.freeOwned id).kept = s.kept := by
  unfold State.freeOwned
  try dsimp only
  repeat' (first | (simp; done) | (simp [*]; done) | (rename_i h0; simp [Kept.of_pair h0]; done) | split | rfl)
@[simp] theorem State.kept_freeWindow (o : Op) (r : Byte) :
    (s.freeWindow o r).kept = s.kept := by
  unfold State.freeWindow
  try dsimp only
  repeat' (first | (simp; done) | (simp [*]; done) | (rename_i h0; simp [Kept.of_pair h0]; done) | split | rfl)
@[simp] theorem State.kept_endWindow (o : Op) (r : Byte) :
    (s.endWindow o r).kept = s.kept := by
  unfold State.endWindow
  try dsimp only
  repeat' (first | (simp; done) | (simp [*]; done) | (rename_i h0; simp [Kept.of_pair h0]; done) | split | rfl)
@[simp] theorem State.kept_loseOp (o : Op) (yielded : Bool) :
    (s.loseOp o yielded).kept = s.kept := by
  unfold State.loseOp
  try dsimp only
  repeat' (first | (simp; done) | (simp [*]; done) | (rename_i h0; simp [Kept.of_pair h0]; done) | split | rfl)

/-! ### Machine/RegWrite.lean -/

@[simp] theorem State.kept_writeBooten :
    s.writeBooten.kept = s.kept := by
  unfold State.writeBooten
  try dsimp only
  repeat' (first | (simp; done) | (simp [*]; done) | (rename_i h0; simp [Kept.of_pair h0]; done) | split | rfl)
@[simp] theorem State.kept_captureViews (sel : BitVec 8) :
    (s.captureViews sel).kept = s.kept := by
  unfold State.captureViews
  try dsimp only
  repeat' (first | (simp; done) | (simp [*]; done) | (rename_i h0; simp [Kept.of_pair h0]; done) | split | rfl)
@[simp] theorem State.kept_writePeriod (n : PortId) (v : Word) :
    (s.writePeriod n v).kept = s.kept := by
  unfold State.writePeriod
  try dsimp only
  repeat' (first | (simp; done) | (simp [*]; done) | (rename_i h0; simp [Kept.of_pair h0]; done) | split | rfl)
@[simp] theorem State.kept_riseChain (n : PortId) (v : Word) :
    (s.riseChain n v).kept = s.kept := by
  unfold State.riseChain
  try dsimp only
  repeat' (first | (simp; done) | (simp [*]; done) | (rename_i h0; simp [Kept.of_pair h0]; done) | split | rfl)
@[simp] theorem State.kept_writeDedup (p : PortId) (full : Bool) (v : Word) :
    (s.writeDedup p full v).kept = s.kept := by
  unfold State.writeDedup
  try dsimp only
  repeat' (first | (simp; done) | (simp [*]; done) | (rename_i h0; simp [Kept.of_pair h0]; done) | split | rfl)
@[simp] theorem State.kept_writeQuota (i : SubId) (v : Word) :
    (s.writeQuota i v).kept = s.kept := by
  unfold State.writeQuota
  try dsimp only
  repeat' (first | (simp; done) | (simp [*]; done) | (rename_i h0; simp [Kept.of_pair h0]; done) | split | rfl)
@[simp] theorem State.kept_riseSample (v : Word) :
    (s.riseSample v).kept = s.kept := by
  unfold State.riseSample
  try dsimp only
  repeat' (first | (simp; done) | (simp [*]; done) | (rename_i h0; simp [Kept.of_pair h0]; done) | split | rfl)
@[simp] theorem State.kept_riseTokens (v : Word) :
    (s.riseTokens v).kept = s.kept := by
  unfold State.riseTokens
  try dsimp only
  repeat' (first | (simp; done) | (simp [*]; done) | (rename_i h0; simp [Kept.of_pair h0]; done) | split | rfl)
@[simp] theorem State.kept_risePump (g : GalId) (clearPump : Bool) (v : Word) :
    (s.risePump g clearPump v).kept = s.kept := by
  unfold State.risePump
  try dsimp only
  repeat' (first | (simp; done) | (simp [*]; done) | (rename_i h0; simp [Kept.of_pair h0]; done) | split | rfl)
@[simp] theorem State.kept_writeKilnAt (v : Word) :
    (s.writeKilnAt v).kept = s.kept := by
  unfold State.writeKilnAt
  try dsimp only
  repeat' (first | (simp; done) | (simp [*]; done) | (rename_i h0; simp [Kept.of_pair h0]; done) | split | rfl)
@[simp] theorem State.kept_writeScrub (v : Word) :
    (s.writeScrub v).kept = s.kept := by
  unfold State.writeScrub
  try dsimp only
  repeat' (first | (simp; done) | (simp [*]; done) | (rename_i h0; simp [Kept.of_pair h0]; done) | split | rfl)
@[simp] theorem State.kept_writeGateCtrl (g : GateId) (v : Word) :
    (s.writeGateCtrl g v).kept = s.kept := by
  unfold State.writeGateCtrl
  try dsimp only
  repeat' (first | (simp; done) | (simp [*]; done) | (rename_i h0; simp [Kept.of_pair h0]; done) | split | rfl)
@[simp] theorem State.kept_writeRegion (g : GateId) (i : Fin 8) (v : Word) :
    (s.writeRegion g i v).kept = s.kept := by
  unfold State.writeRegion
  try dsimp only
  repeat' (first | (simp; done) | (simp [*]; done) | (rename_i h0; simp [Kept.of_pair h0]; done) | split | rfl)
@[simp] theorem State.kept_risePriv (v : Word) :
    (s.risePriv v).kept = s.kept := by
  unfold State.risePriv
  try dsimp only
  repeat' (first | (simp; done) | (simp [*]; done) | (rename_i h0; simp [Kept.of_pair h0]; done) | split | rfl)
@[simp] theorem State.kept_riseMarkLock (v : Word) :
    (s.riseMarkLock v).kept = s.kept := by
  unfold State.riseMarkLock
  try dsimp only
  repeat' (first | (simp; done) | (simp [*]; done) | (rename_i h0; simp [Kept.of_pair h0]; done) | split | rfl)
@[simp] theorem State.kept_riseMapmode (v : Word) :
    (s.riseMapmode v).kept = s.kept := by
  unfold State.riseMapmode
  try dsimp only
  repeat' (first | (simp; done) | (simp [*]; done) | (rename_i h0; simp [Kept.of_pair h0]; done) | split | rfl)
@[simp] theorem State.kept_writeAnxCtrl (a : AnnexId) (v : Word) :
    (s.writeAnxCtrl a v).kept = s.kept := by
  unfold State.writeAnxCtrl
  try dsimp only
  repeat' (first | (simp; done) | (simp [*]; done) | (rename_i h0; simp [Kept.of_pair h0]; done) | split | rfl)
@[simp] theorem State.kept_writeNow (p : PortId) (full : Bool) (r : RegRef) (v : Word) :
    (s.writeNow p full r v).kept = s.kept := by
  unfold State.writeNow
  try dsimp only
  repeat' (first | (simp; done) | (simp [*]; done) | (rename_i h0; simp [Kept.of_pair h0]; done) | split | rfl)
@[simp] theorem State.kept_takeEntry (p : PortId) (r : BitVec 12) (v : Word) :
    (s.takeEntry p r v).1.kept = s.kept := by
  unfold State.takeEntry
  try dsimp only
  repeat' (first | (simp; done) | (simp [*]; done) | (rename_i h0; simp [Kept.of_pair h0]; done) | split | rfl)
@[simp] theorem State.kept_takeEntries (p : PortId) (l : List (BitVec 16 × Word)) (s : State) :
    (s.takeEntries p l).1.kept = s.kept := by
  induction l generalizing s with
  | nil => rfl
  | cons e r ih =>
    unfold State.takeEntries
    split
    · rfl
    · dsimp only; rw [ih, State.kept_takeEntry]
@[simp] theorem State.kept_regWrite (tx : Tx) (count : Byte) (entries : List (BitVec 16 × Word)) :
    (s.regWrite tx count entries).kept = s.kept := by
  unfold State.regWrite
  split
  · rename_i h0; simpa using Kept.of_pair h0
  · rename_i h0
    have h1 := Kept.of_pair h0
    simp only [State.kept_begin] at h1
    split
    · simp [h1]
    · dsimp only; repeat' split
      all_goals simp [h1]
@[simp] theorem State.kept_regWrite1 (tx : Tx) (r : Nat) (v : Word) :
    (s.regWrite1 tx r v).kept = s.kept := by
  unfold State.regWrite1
  try dsimp only
  repeat' (first | (simp; done) | (simp [*]; done) | (rename_i h0; simp [Kept.of_pair h0]; done) | split | rfl)

/-! ### Machine/Reset.lean -/

@[simp] theorem State.kept_cutJournal :
    s.cutJournal.kept = s.kept := by
  unfold State.cutJournal
  try dsimp only
  repeat' (first | (simp; done) | (simp [*]; done) | (rename_i h0; simp [Kept.of_pair h0]; done) | split | rfl)
theorem State.still_leavePartly (l : List (Nat × BitVec 75)) (s : State) : (s.leavePartly l).kept.still = s.kept.still := by
  induction l generalizing s with
  | nil => rfl
  | cons e r ih => unfold State.leavePartly; rw [ih]; rfl
theorem State.still_leaveOpen (n lo : Nat) (s : State) : (s.leaveOpen lo n).kept.still = s.kept.still := by
  induction n generalizing s lo with
  | zero => rfl
  | succ n ih => unfold State.leaveOpen; rw [ih]; rfl

/-! ### Machine/Cs.lean -/

@[simp] theorem State.kept_chainRise (n : PortId) (edges : Nat) (g : ChainSeg) :
    (s.chainRise n edges g).kept = s.kept := by
  unfold State.chainRise
  try dsimp only
  repeat' (first | (simp; done) | (simp [*]; done) | (rename_i h0; simp [Kept.of_pair h0]; done) | split | rfl)
@[simp] theorem State.kept_endStream (p : PortId) :
    (s.endStream p).kept = s.kept := by
  unfold State.endStream
  try dsimp only
  repeat' (first | (simp; done) | (simp [*]; done) | (rename_i h0; simp [Kept.of_pair h0]; done) | split | rfl)
@[simp] theorem State.kept_endFetchOf (n : PortId) :
    (s.endFetchOf n).kept = s.kept := by
  unfold State.endFetchOf
  dsimp only
  rw [State.kept_modPort _ _ _ rfl rfl, State.kept_endStream]
  cases (s.port n).fetchBank <;> rfl
@[simp] theorem State.kept_dropDriving (n : PortId) :
    (s.dropDriving n).kept = s.kept := by
  unfold State.dropDriving
  try dsimp only
  repeat' (first | (simp; done) | (simp [*]; done) | (rename_i h0; simp [Kept.of_pair h0]; done) | split | rfl)
@[simp] theorem State.kept_dropUpload (n : PortId) :
    (s.dropUpload n).kept = s.kept := by
  unfold State.dropUpload
  try dsimp only
  repeat' (first | (simp; done) | (simp [*]; done) | (rename_i h0; simp [Kept.of_pair h0]; done) | split | rfl)
@[simp] theorem State.kept_cutUpload (n : PortId) :
    (s.cutUpload n).kept = s.kept := by
  unfold State.cutUpload
  try dsimp only
  repeat' (first | (simp; done) | (simp [*]; done) | (rename_i h0; simp [Kept.of_pair h0]; done) | split | rfl)
@[simp] theorem State.kept_cutCommand (c : Cut) :
    (s.cutCommand c).kept = s.kept := by
  unfold State.cutCommand
  try dsimp only
  repeat' (first | (simp; done) | (simp [*]; done) | (rename_i h0; simp [Kept.of_pair h0]; done) | split | rfl)
@[simp] theorem State.kept_countTransaction (n : PortId) (cut : Option Cut) :
    (s.countTransaction n cut).kept = s.kept := by
  unfold State.countTransaction
  try dsimp only
  repeat' (first | (simp; done) | (simp [*]; done) | (rename_i h0; simp [Kept.of_pair h0]; done) | split | rfl)
@[simp] theorem State.kept_chainSegment (n : PortId) (action : Byte) (edges : Nat) (g : ChainSeg) :
    (s.chainSegment n action edges g).kept = s.kept := by
  unfold State.chainSegment
  split
  · rw [State.kept_modPort _ _ _ rfl rfl]
  · rfl

/-! ### Machine/Train.lean -/

@[simp] theorem State.kept_abandonTrain (p : PortId) :
    (s.abandonTrain p).kept = s.kept := by
  unfold State.abandonTrain
  try dsimp only
  repeat' (first | (simp; done) | (simp [*]; done) | (rename_i h0; simp [Kept.of_pair h0]; done) | split | rfl)
@[simp] theorem State.kept_badFrame (p : PortId) :
    (s.badFrame p).kept = s.kept := by
  unfold State.badFrame
  try dsimp only
  repeat' (first | (simp; done) | (simp [*]; done) | (rename_i h0; simp [Kept.of_pair h0]; done) | split | rfl)
@[simp] theorem State.kept_propose (p : PortId) (offer : BitVec 16) (sensed : BitVec 2) :
    (s.propose p offer sensed).kept = s.kept := by
  unfold State.propose
  try dsimp only
  repeat' (first | (simp; done) | (simp [*]; done) | (rename_i h0; simp [Kept.of_pair h0]; done) | split | rfl)
@[simp] theorem State.kept_sweep (p : PortId) (samples : Vector (BitVec 8192) 8) :
    (s.sweep p samples).kept = s.kept := by
  unfold State.sweep
  try dsimp only
  repeat' (first | (simp; done) | (simp [*]; done) | (rename_i h0; simp [Kept.of_pair h0]; done) | split | rfl)

/-! ### Machine/Susp.lean -/

@[simp] theorem State.kept_traceSusp (action : Byte) (b : BankId) :
    (s.traceSusp action b).kept = s.kept := by
  unfold State.traceSusp
  try dsimp only
  repeat' (first | (simp; done) | (simp [*]; done) | (rename_i h0; simp [Kept.of_pair h0]; done) | split | rfl)
@[simp] theorem State.kept_slotShows (b : BankId) (st : OpState) :
    (s.slotShows b st).kept = s.kept := by
  unfold State.slotShows
  try dsimp only
  repeat' (first | (simp; done) | (simp [*]; done) | (rename_i h0; simp [Kept.of_pair h0]; done) | split | rfl)
@[simp] theorem State.kept_grantSuspend (b : BankId) (host : Bool) :
    (s.grantSuspend b host).kept = s.kept := by
  unfold State.grantSuspend
  try dsimp only
  repeat' (first | (simp; done) | (simp [*]; done) | (rename_i h0; simp [Kept.of_pair h0]; done) | split | rfl)
@[simp] theorem State.kept_requestSuspend (b : BankId) (host : Bool) :
    (s.requestSuspend b host).1.kept = s.kept := by
  unfold State.requestSuspend
  try dsimp only
  repeat' (first | (simp; done) | (simp [*]; done) | (rename_i h0; simp [Kept.of_pair h0]; done) | split | rfl)
@[simp] theorem State.kept_resumeNow (b : BankId) :
    (s.resumeNow b).kept = s.kept := by
  unfold State.resumeNow
  try dsimp only
  repeat' (first | (simp; done) | (simp [*]; done) | (rename_i h0; simp [Kept.of_pair h0]; done) | split | rfl)
@[simp] theorem State.kept_closeClear (b : BankId) (c : ClearRun) :
    (s.closeClear b c).kept = s.kept := by
  unfold State.closeClear
  try dsimp only
  repeat' (first | (simp; done) | (simp [*]; done) | (rename_i h0; simp [Kept.of_pair h0]; done) | split | rfl)
@[simp] theorem State.kept_leaveLay (b : BankId) (op : Nat) :
    (s.leaveLay b op).kept = s.kept := by
  unfold State.leaveLay
  try dsimp only
  repeat' (first | (simp; done) | (simp [*]; done) | (rename_i h0; simp [Kept.of_pair h0]; done) | split | rfl)
@[simp] theorem State.kept_dropHeldLay (id : Nat) :
    (s.dropHeldLay id).kept = s.kept := by
  unfold State.dropHeldLay
  try dsimp only
  repeat' (first | (simp; done) | (simp [*]; done) | (rename_i h0; simp [Kept.of_pair h0]; done) | split | rfl)
@[simp] theorem State.kept_requestResume (b : BankId) :
    (s.requestResume b).1.kept = s.kept := by
  unfold State.requestResume
  try dsimp only
  repeat' (first | (simp; done) | (simp [*]; done) | (rename_i h0; simp [Kept.of_pair h0]; done) | split | rfl)
@[simp] theorem State.kept_fetchMeets (b : BankId) (block sector : Nat) :
    (s.fetchMeets b block sector).kept = s.kept := by
  unfold State.fetchMeets
  try dsimp only
  repeat' (first | (simp; done) | (simp [*]; done) | (rename_i h0; simp [Kept.of_pair h0]; done) | split | rfl)
theorem State.kept_directSusp (tx : Tx) (op : Byte) (addr : BitVec 32) (req : State → BankId → State × Bool)
    (h : ∀ t b, (req t b).1.kept = t.kept) : (s.directSusp tx op addr req).kept = s.kept := by
  unfold State.directSusp
  refine State.kept_run2 _ _ _ _ _ (fun t => ?_)
  split <;> simp [h]

/-! ### Machine/Fetch.lean -/

@[simp] theorem State.kept_plumbFeed (b : BankId) (d : Int) :
    (s.plumbFeed b d).kept = s.kept := by
  unfold State.plumbFeed
  try dsimp only
  repeat' (first | (simp; done) | (simp [*]; done) | (rename_i h0; simp [Kept.of_pair h0]; done) | split | rfl)
@[simp] theorem State.kept_noteRead (b : BankId) (slot : Option (Fin 256)) (ix : Nat) (r : StoneRead) :
    (s.noteRead b slot ix r).kept = s.kept := by
  unfold State.noteRead
  try dsimp only
  repeat' (first | (simp; done) | (simp [*]; done) | (rename_i h0; simp [Kept.of_pair h0]; done) | split | rfl)
@[simp] theorem State.kept_readPartner (n : AnnexId) (p : PartnerId) (a : BitVec 32) (rx : List Byte) :
    (s.readPartner n p a rx).1.kept = s.kept := by
  unfold State.readPartner
  try dsimp only
  repeat' (first | (simp; done) | (simp [*]; done) | (rename_i h0; simp [Kept.of_pair h0]; done) | split | rfl)
@[simp] theorem State.kept_fetchOn (p : PortId) (b : Option BankId) :
    (s.fetchOn p b).kept = s.kept := by
  unfold State.fetchOn
  rw [State.kept_modPort _ _ _ rfl rfl]
  split
  · split <;> rfl
  · rfl
@[simp] theorem State.kept_driveStone (p : PortId) (src : Source) (a : BitVec 32) (flip : BitVec 75) (rx : List Byte) :
    (s.driveStone p src a flip rx).1.kept = s.kept := by
  unfold State.driveStone
  try dsimp only
  repeat' (first | (simp; done) | (simp [*]; done) | (rename_i h0; simp [Kept.of_pair h0]; done) | split | rfl)
@[simp] theorem State.kept_fetchWaits (p : PortId) (src : Source) (a : BitVec 32) :
    (s.fetchWaits p src a).kept = s.kept := by
  unfold State.fetchWaits
  try dsimp only
  repeat' (first | (simp; done) | (simp [*]; done) | (rename_i h0; simp [Kept.of_pair h0]; done) | split | rfl)
@[simp] theorem State.kept_setStones (p : PortId) (n : Nat) :
    (s.setStones p n).kept = s.kept := by
  unfold State.setStones
  try dsimp only
  repeat' (first | (simp; done) | (simp [*]; done) | (rename_i h0; simp [Kept.of_pair h0]; done) | split | rfl)
@[simp] theorem State.kept_beginHold (p : PortId) (f : FetchRun) (afterStatus : Bool) :
    (s.beginHold p f afterStatus).kept = s.kept := by
  unfold State.beginHold
  try dsimp only
  repeat' (first | (simp; done) | (simp [*]; done) | (rename_i h0; simp [Kept.of_pair h0]; done) | split | rfl)
@[simp] theorem State.kept_endData (p : PortId) :
    (s.endData p).kept = s.kept := by
  unfold State.endData
  try dsimp only
  repeat' (first | (simp; done) | (simp [*]; done) | (rename_i h0; simp [Kept.of_pair h0]; done) | split | rfl)
@[simp] theorem State.kept_endStopped (p : PortId) :
    (s.endStopped p).kept = s.kept := by
  unfold State.endStopped
  try dsimp only
  repeat' (first | (simp; done) | (simp [*]; done) | (rename_i h0; simp [Kept.of_pair h0]; done) | split | rfl)
@[simp] theorem State.kept_noteMeet (a : BitVec 32) (m : Meet) : (s.noteMeet a m).kept = s.kept := by
  cases m <;> unfold State.noteMeet <;> dsimp only
  all_goals try simp
  split <;> simp
@[simp] theorem State.kept_fetchRefused (p : PortId) (c : Cond) :
    (s.fetchRefused p c).kept = s.kept := by
  unfold State.fetchRefused
  try dsimp only
  repeat' (first | (simp; done) | (simp [*]; done) | (rename_i h0; simp [Kept.of_pair h0]; done) | split | rfl)
@[simp] theorem State.kept_fetchStarts (p : PortId) (f : FetchRun) :
    (s.fetchStarts p f).kept = s.kept := by
  unfold State.fetchStarts
  try dsimp only
  repeat' (first | (simp; done) | (simp [*]; done) | (rename_i h0; simp [Kept.of_pair h0]; done) | split | rfl)
@[simp] theorem State.kept_fetchGoesOn (p : PortId) (f : FetchRun) :
    (s.fetchGoesOn p f).kept = s.kept := by
  unfold State.fetchGoesOn
  try dsimp only
  repeat' (first | (simp; done) | (simp [*]; done) | (rename_i h0; simp [Kept.of_pair h0]; done) | split | rfl)
@[simp] theorem State.kept_fetchFirst (p : PortId) (f : FetchRun) :
    (s.fetchFirst p f).kept = s.kept := by
  unfold State.fetchFirst
  try dsimp only
  repeat' (first | (simp; done) | (simp [*]; done) | (rename_i h0; simp [Kept.of_pair h0]; done) | split | rfl)
@[simp] theorem State.kept_nextStone (p : PortId) (f : FetchRun) :
    (s.nextStone p f).kept = s.kept := by
  unfold State.nextStone
  try dsimp only
  repeat' (first | (simp; done) | (simp [*]; done) | (rename_i h0; simp [Kept.of_pair h0]; done) | split | rfl)
@[simp] theorem State.kept_startFetch (tx : Tx) (raw : Bool) (flips : Flips) (a : BitVec 32) (rx : List Byte) :
    (s.startFetch tx raw flips a rx).kept = s.kept := by
  unfold State.startFetch
  try dsimp only
  repeat' (first | (simp; done) | (simp [*]; done) | (rename_i h0; simp [Kept.of_pair h0]; done) | split | rfl)
@[simp] theorem State.kept_fetchCommand (tx : Tx) (addr : BitVec 32) (flips : Flips) (rx : List Byte) :
    (s.fetchCommand tx addr flips rx).kept = s.kept := by
  unfold State.fetchCommand
  try dsimp only
  repeat' (first | (simp; done) | (simp [*]; done) | (rename_i h0; simp [Kept.of_pair h0]; done) | split | rfl)

/-! ### Machine/Direct.lean -/

@[simp] theorem State.kept_collected (o : Op) :
    (s.collected o).kept = s.kept := by
  unfold State.collected
  try dsimp only
  repeat' (first | (simp; done) | (simp [*]; done) | (rename_i h0; simp [Kept.of_pair h0]; done) | split | rfl)
@[simp] theorem State.kept_collect (tx : Tx) (peek : Bool) (mode : BitVec 7) :
    (s.collect tx peek mode).kept = s.kept := by
  unfold State.collect
  refine State.kept_run2 _ _ _ _ _ (fun t => ?_)
  split <;> simp
@[simp] theorem State.kept_badOpcode (p : PortId) (silent : BitVec 8) :
    (s.badOpcode p silent).kept = s.kept := by
  unfold State.badOpcode
  try dsimp only
  repeat' (first | (simp; done) | (simp [*]; done) | (rename_i h0; simp [Kept.of_pair h0]; done) | split | rfl)

/-! ### Machine/Journal.lean -/

@[simp] theorem State.kept_startJournal (kind level : Byte) (purpose : JPurpose) :
    (s.startJournal kind level purpose).kept = s.kept := by
  unfold State.startJournal
  try dsimp only
  repeat' (first | (simp; done) | (simp [*]; done) | (rename_i h0; simp [Kept.of_pair h0]; done) | split | rfl)
@[simp] theorem State.kept_tryRaise :
    s.tryRaise.kept = s.kept := by
  unfold State.tryRaise
  try dsimp only
  repeat' (first | (simp; done) | (simp [*]; done) | (rename_i h0; simp [Kept.of_pair h0]; done) | split | rfl)

/-! ### Machine/Admission.lean -/

@[simp] theorem State.kept_checkLevel (a : Ask) :
    (s.checkLevel a).1.kept = s.kept := by
  unfold State.checkLevel
  try dsimp only
  repeat' (first | (simp; done) | (simp [*]; done) | (rename_i h0; simp [Kept.of_pair h0]; done) | split | rfl)
@[simp] theorem State.kept_check3 (a : Ask) :
    (s.check3 a).1.kept = s.kept := by
  unfold State.check3
  try dsimp only
  repeat' (first | (simp; done) | (simp [*]; done) | (rename_i h0; simp [Kept.of_pair h0]; done) | split | rfl)
@[simp] theorem State.kept_meter (i : SubId) (charge : Nat) :
    (s.meter i charge).1.kept = s.kept := by
  unfold State.meter
  try dsimp only
  repeat' (first | (simp; done) | (simp [*]; done) | (rename_i h0; simp [Kept.of_pair h0]; done) | split | rfl)
@[simp] theorem State.kept_refundMeter (i : SubId) (c : Colour) (charge : Nat) :
    (s.refundMeter i c charge).kept = s.kept := by
  unfold State.refundMeter
  try dsimp only
  repeat' (first | (simp; done) | (simp [*]; done) | (rename_i h0; simp [Kept.of_pair h0]; done) | split | rfl)
@[simp] theorem State.kept_countFull :
    s.countFull.kept = s.kept := by
  unfold State.countFull
  try dsimp only
  repeat' (first | (simp; done) | (simp [*]; done) | (rename_i h0; simp [Kept.of_pair h0]; done) | split | rfl)
@[simp] theorem State.kept_check78 (a : Ask) (k : Fin 256) (o : Op) :
    (s.check78 a k o).1.kept = s.kept := by
  unfold State.check78
  try dsimp only
  repeat' (first | (simp; done) | (simp [*]; done) | (rename_i h0; simp [Kept.of_pair h0]; done) | split | rfl)
@[simp] theorem State.kept_check58 (a : Ask) (k : Fin 256) :
    (s.check58 a k).1.kept = s.kept := by
  unfold State.check58
  try dsimp only
  repeat' (first | (simp; done) | (simp [*]; done) | (rename_i h0; simp [Kept.of_pair h0]; done) | split | rfl)
@[simp] theorem State.kept_admitFrom3 (a : Ask) :
    (s.admitFrom3 a).1.kept = s.kept := by
  unfold State.admitFrom3
  split
  · rename_i h0; simpa using Kept.of_pair h0
  · rename_i h0
    have h1 := Kept.of_pair h0
    simp only [State.kept_check3] at h1
    split
    · exact h1
    · split
      · exact h1
      · simp [h1]
@[simp] theorem State.kept_admitPacket (p : PortId) (a : Ask) :
    (s.admitPacket p a).1.kept = s.kept := by
  unfold State.admitPacket
  try dsimp only
  repeat' (first | (simp; done) | (simp [*]; done) | (rename_i h0; simp [Kept.of_pair h0]; done) | split | rfl)
@[simp] theorem State.kept_dutyBack (o : Op) :
    (s.dutyBack o).kept = s.kept := by
  unfold State.dutyBack
  try dsimp only
  repeat' (first | (simp; done) | (simp [*]; done) | (rename_i h0; simp [Kept.of_pair h0]; done) | split | rfl)
@[simp] theorem State.kept_endMarked (t : Op) :
    (s.endMarked t).kept = s.kept := by
  unfold State.endMarked
  try dsimp only
  repeat' (first | (simp; done) | (simp [*]; done) | (rename_i h0; simp [Kept.of_pair h0]; done) | split | rfl)
@[simp] theorem State.kept_markOp (t : Op) :
    (s.markOp t).kept = s.kept := by
  unfold State.markOp
  try dsimp only
  repeat' (first | (simp; done) | (simp [*]; done) | (rename_i h0; simp [Kept.of_pair h0]; done) | split | rfl)
@[simp] theorem State.kept_cancel (o : Op) :
    (s.cancel o).kept = s.kept := by
  unfold State.cancel
  try dsimp only
  repeat' (first | (simp; done) | (simp [*]; done) | (rename_i h0; simp [Kept.of_pair h0]; done) | split | rfl)
@[simp] theorem State.kept_addOp (o : Op) :
    (s.addOp o).kept = s.kept := by
  unfold State.addOp
  try dsimp only
  repeat' (first | (simp; done) | (simp [*]; done) | (rename_i h0; simp [Kept.of_pair h0]; done) | split | rfl)
@[simp] theorem State.kept_commit (o : Op) :
    (s.commit o).kept = s.kept := by
  unfold State.commit
  try dsimp only
  repeat' (first | (simp; done) | (simp [*]; done) | (rename_i h0; simp [Kept.of_pair h0]; done) | split | rfl)
@[simp] theorem State.kept_traceRefuse (slot : Option (Fin 256)) (bank : Nat) (arg : Byte) :
    (s.traceRefuse slot bank arg).kept = s.kept := by
  unfold State.traceRefuse
  try dsimp only
  repeat' (first | (simp; done) | (simp [*]; done) | (rename_i h0; simp [Kept.of_pair h0]; done) | split | rfl)
@[simp] theorem State.kept_answerAgain (p : PortId) (bank : Nat) (d : Dedup) :
    (s.answerAgain p bank d).kept = s.kept := by
  unfold State.answerAgain
  try dsimp only
  repeat' (first | (simp; done) | (simp [*]; done) | (rename_i h0; simp [Kept.of_pair h0]; done) | split | rfl)
@[simp] theorem State.kept_endAdmission (slot : Option (Fin 256)) (bank : Nat) (code : Byte) (full : Bool) :
    (s.endAdmission slot bank code full).kept = s.kept := by
  unfold State.endAdmission
  try dsimp only
  repeat' (first | (simp; done) | (simp [*]; done) | (rename_i h0; simp [Kept.of_pair h0]; done) | split | rfl)
@[simp] theorem State.kept_answerRefused (p : PortId) (slot : Option (Fin 256)) (bank : Nat) (code : Byte) (full : Bool) :
    (s.answerRefused p slot bank code full).kept = s.kept := by
  unfold State.answerRefused
  try dsimp only
  repeat' (first | (simp; done) | (simp [*]; done) | (rename_i h0; simp [Kept.of_pair h0]; done) | split | rfl)
@[simp] theorem State.kept_answerBadAlign (p : PortId) :
    (s.answerBadAlign p).kept = s.kept := by
  unfold State.answerBadAlign
  try dsimp only
  repeat' (first | (simp; done) | (simp [*]; done) | (rename_i h0; simp [Kept.of_pair h0]; done) | split | rfl)
@[simp] theorem State.kept_commitOp (id : Nat) (payload : List Word) (src : BitVec 32) (badSrc : Bool) :
    (s.commitOp id payload src badSrc).kept = s.kept := by
  unfold State.commitOp
  try dsimp only
  repeat' (first | (simp; done) | (simp [*]; done) | (rename_i h0; simp [Kept.of_pair h0]; done) | split | rfl)
@[simp] theorem State.kept_decidePacket (p : PortId) (a : Ask) :
    (s.decidePacket p a).kept = s.kept := by
  unfold State.decidePacket
  try dsimp only
  repeat' (first | (simp; done) | (simp [*]; done) | (rename_i h0; simp [Kept.of_pair h0]; done) | split | rfl)
@[simp] theorem State.kept_payloadBad (p : PortId) (slot : Option (Fin 256)) (bank : Nat) :
    (s.payloadBad p slot bank).kept = s.kept := by
  unfold State.payloadBad
  try dsimp only
  repeat' (first | (simp; done) | (simp [*]; done) | (rename_i h0; simp [Kept.of_pair h0]; done) | split | rfl)
@[simp] theorem State.kept_badPacket (p : PortId) :
    (s.badPacket p).kept = s.kept := by
  unfold State.badPacket
  try dsimp only
  repeat' (first | (simp; done) | (simp [*]; done) | (rename_i h0; simp [Kept.of_pair h0]; done) | split | rfl)
@[simp] theorem State.kept_openUpload (p : PortId) (op : Byte) (pk : Packet) :
    (s.openUpload p op pk).kept = s.kept := by
  unfold State.openUpload
  dsimp only
  split
  · simp
  split
  · rw [State.kept_modPort _ _ _ rfl rfl]; rfl
  · simp
  · rename_i h0; rw [State.kept_modPort _ _ _ rfl rfl, State.kept_addOp, Kept.of_pair h0, State.kept_admitPacket]
@[simp] theorem State.kept_closeUpload (p : PortId) (u : Upload) (payload : List Word) (crc : BitVec 16) :
    (s.closeUpload p u payload crc).kept = s.kept := by
  unfold State.closeUpload
  try dsimp only
  repeat' (first | (simp; done) | (simp [*]; done) | (rename_i h0; simp [Kept.of_pair h0]; done) | split | rfl)
@[simp] theorem State.kept_ledgerPacket (p : PortId) (op : Byte) (pk : Packet) (payload : Option (List Word × BitVec 16)) :
    (s.ledgerPacket p op pk payload).kept = s.kept := by
  unfold State.ledgerPacket
  try dsimp only
  repeat' (first | (simp; done) | (simp [*]; done) | (rename_i h0; simp [Kept.of_pair h0]; done) | split | rfl)
@[simp] theorem State.kept_ledgerTaken (tx : Tx) (op : Byte) (pk : Packet) (payload : Option (List Word × BitVec 16)) :
    (s.ledgerTaken tx op pk payload).kept = s.kept := by
  unfold State.ledgerTaken
  split
  · dsimp only; repeat' split
    all_goals simp
  · split
    · rename_i h0; simpa using Kept.of_pair h0
    · rename_i h0
      have h1 := Kept.of_pair h0
      simp only [State.kept_begin] at h1
      split <;> simp [h1]
@[simp] theorem State.kept_ledgerCommand (tx : Tx) (op : Byte) (pk : Packet) (payload : Option (List Word × BitVec 16)) :
    (s.ledgerCommand tx op pk payload).kept = s.kept := by
  unfold State.ledgerCommand
  split
  · rw [← State.kept_ledgerTaken s tx op pk payload]; rfl
  · rfl
@[simp] theorem State.kept_houseSubmit (op : Byte) (addr : BitVec 32) (count : Nat) (kind : MoveKind) :
    (s.houseSubmit op addr count kind).1.kept = s.kept := by
  unfold State.houseSubmit
  try dsimp only
  repeat' (first | (simp; done) | (simp [*]; done) | (rename_i h0; simp [Kept.of_pair h0]; done) | split | rfl)
@[simp] theorem State.kept_directCommit (p : PortId) (op : Byte) (addr : BitVec 32) (count : Nat) (payload : List Word) (c : Colour) (charge : Nat) :
    (s.directCommit p op addr count payload c charge).kept = s.kept := by
  unfold State.directCommit
  try dsimp only
  repeat' (first | (simp; done) | (simp [*]; done) | (rename_i h0; simp [Kept.of_pair h0]; done) | split | rfl)
@[simp] theorem State.kept_directAsk (p : PortId) (op : Byte) (addr : BitVec 32) (count : Nat) (payload : List Word) :
    (s.directAsk p op addr count payload).kept = s.kept := by
  unfold State.directAsk
  try dsimp only
  repeat' (first | (simp; done) | (simp [*]; done) | (rename_i h0; simp [Kept.of_pair h0]; done) | split | rfl)
@[simp] theorem State.kept_directBad (p : PortId) :
    (s.directBad p).kept = s.kept := by
  unfold State.directBad
  try dsimp only
  repeat' (first | (simp; done) | (simp [*]; done) | (rename_i h0; simp [Kept.of_pair h0]; done) | split | rfl)
@[simp] theorem State.kept_layCrcBad (p : PortId) :
    (s.layCrcBad p).kept = s.kept := by
  unfold State.layCrcBad
  try dsimp only
  repeat' (first | (simp; done) | (simp [*]; done) | (rename_i h0; simp [Kept.of_pair h0]; done) | split | rfl)

/-! ### Machine/Passing.lean -/

@[simp] theorem State.kept_passAll (o : Op) (write : Bool) (l : List (BitVec 32)) (s : State) :
    (s.passAll o write l).1.kept = s.kept := by
  induction l generalizing s with
  | nil => rfl
  | cons a r ih =>
    unfold State.passAll
    repeat' (first | (simp; done) | (simp [ih]; done) | split)
@[simp] theorem State.kept_gateStone (o : Op) (r : ReadRun) :
    (s.gateStone o r).1.kept = s.kept := by
  unfold State.gateStone
  try dsimp only
  repeat' (first | (simp; done) | (simp [*]; done) | (rename_i h0; simp [Kept.of_pair h0]; done) | split | rfl)
@[simp] theorem State.kept_readArrayStone (o : Op) (r : ReadRun) :
    (s.readArrayStone o r).kept = s.kept := by
  unfold State.readArrayStone
  try dsimp only
  repeat' (first | (simp; done) | (simp [*]; done) | (rename_i h0; simp [Kept.of_pair h0]; done) | split | rfl)
@[simp] theorem State.kept_readStep (id : Nat) : (s.readStep id).1.kept = s.kept := by
  unfold State.readStep
  split
  · rfl
  split
  · rfl
  split
  · rfl
  split
  · simp
  split
  · rfl
  split
  · rename_i h0; simpa using Kept.of_pair h0
  · rename_i h0
    have h1 := Kept.of_pair h0
    rw [State.kept_gateStone] at h1
    split
    · exact h1
    split
    · simp [h1]
    split
    · exact h1
    · simp [h1]
@[simp] theorem State.kept_readOn (id : Nat) (n : Nat) (s : State) : (s.readOn id n).kept = s.kept := by
  induction n generalizing s with
  | zero => rfl
  | succ n ih =>
    unfold State.readOn
    split
    · rename_i h0; rw [ih, Kept.of_pair h0, State.kept_readStep]
    · rename_i h0; rw [Kept.of_pair h0, State.kept_readStep]

/-! ### Machine/Moves.lean -/

@[simp] theorem State.kept_setWork (id : Nat) (w : Work) :
    (s.setWork id w).kept = s.kept := by
  unfold State.setWork
  try dsimp only
  repeat' (first | (simp; done) | (simp [*]; done) | (rename_i h0; simp [Kept.of_pair h0]; done) | split | rfl)
@[simp] theorem State.kept_wpWaits (b : BankId) (id : Nat) (w : WpStep) :
    (s.wpWaits b id w).kept = s.kept := by
  unfold State.wpWaits
  try dsimp only
  repeat' (first | (simp; done) | (simp [*]; done) | (rename_i h0; simp [Kept.of_pair h0]; done) | split | rfl)
@[simp] theorem State.kept_countDeferred :
    s.countDeferred.kept = s.kept := by
  unfold State.countDeferred
  try dsimp only
  repeat' (first | (simp; done) | (simp [*]; done) | (rename_i h0; simp [Kept.of_pair h0]; done) | split | rfl)
@[simp] theorem State.kept_relocDone (b : BankId) (id : Nat) :
    (s.relocDone b id).kept = s.kept := by
  unfold State.relocDone
  try dsimp only
  repeat' (first | (simp; done) | (simp [*]; done) | (rename_i h0; simp [Kept.of_pair h0]; done) | split | rfl)
@[simp] theorem State.kept_cancelRepoint (o : Op) :
    (s.cancelRepoint o).kept = s.kept := by
  unfold State.cancelRepoint
  try dsimp only
  repeat' (first | (simp; done) | (simp [*]; done) | (rename_i h0; simp [Kept.of_pair h0]; done) | split | rfl)
@[simp] theorem State.kept_blockOver (b : BankId) (id : Nat) :
    (s.blockOver b id).kept = s.kept := by
  unfold State.blockOver
  try dsimp only
  repeat' (first | (simp; done) | (simp [*]; done) | (rename_i h0; simp [Kept.of_pair h0]; done) | split | rfl)
@[simp] theorem State.kept_blockDone (b : BankId) (id : Nat) :
    (s.blockDone b id).kept = s.kept := by
  unfold State.blockDone
  try dsimp only
  repeat' (first | (simp; done) | (simp [*]; done) | (rename_i h0; simp [Kept.of_pair h0]; done) | split | rfl)
@[simp] theorem State.kept_moveFails (b : BankId) (m : Move) :
    (s.moveFails b m).kept = s.kept := by
  unfold State.moveFails
  try dsimp only
  repeat' (first | (simp; done) | (simp [*]; done) | (rename_i h0; simp [Kept.of_pair h0]; done) | split | rfl)
@[simp] theorem State.kept_moveEnds (b : BankId) (m : Move) :
    (s.moveEnds b m).kept = s.kept := by
  unfold State.moveEnds
  try dsimp only
  repeat' (first | (simp; done) | (simp [*]; done) | (rename_i h0; simp [Kept.of_pair h0]; done) | split | rfl)
@[simp] theorem State.kept_mapChange (b : BankId) (m : Move) :
    (s.mapChange b m).kept = s.kept := by
  unfold State.mapChange
  try dsimp only
  repeat' (first | (simp; done) | (simp [*]; done) | (rename_i h0; simp [Kept.of_pair h0]; done) | split | rfl)
@[simp] theorem State.kept_rowsDone (b : BankId) (m : Move) :
    (s.rowsDone b m).kept = s.kept := by
  unfold State.rowsDone
  try dsimp only
  repeat' (first | (simp; done) | (simp [*]; done) | (rename_i h0; simp [Kept.of_pair h0]; done) | split | rfl)
@[simp] theorem State.kept_nextCopy (b : BankId) (m : Move) :
    (s.nextCopy b m).kept = s.kept := by
  unfold State.nextCopy
  try dsimp only
  repeat' (first | (simp; done) | (simp [*]; done) | (rename_i h0; simp [Kept.of_pair h0]; done) | split | rfl)
@[simp] theorem State.kept_beginMove (b : BankId) (m : Move) :
    (s.beginMove b m).kept = s.kept := by
  unfold State.beginMove
  try dsimp only
  repeat' (first | (simp; done) | (simp [*]; done) | (rename_i h0; simp [Kept.of_pair h0]; done) | split | rfl)
@[simp] theorem State.kept_retireDst (b : BankId) (m : Move) :
    (s.retireDst b m).kept = s.kept := by
  unfold State.retireDst
  try dsimp only
  repeat' (first | (simp; done) | (simp [*]; done) | (rename_i h0; simp [Kept.of_pair h0]; done) | split | rfl)
@[simp] theorem State.kept_copyEnds (b : BankId) (id : Nat) (r : Byte) :
    (s.copyEnds b id r).kept = s.kept := by
  unfold State.copyEnds
  try dsimp only
  repeat' (first | (simp; done) | (simp [*]; done) | (rename_i h0; simp [Kept.of_pair h0]; done) | split | rfl)
@[simp] theorem State.kept_nextState (b : BankId) (m : Move) :
    (s.nextState b m).kept = s.kept := by
  unfold State.nextState
  try dsimp only
  repeat' (first | (simp; done) | (simp [*]; done) | (rename_i h0; simp [Kept.of_pair h0]; done) | split | rfl)
@[simp] theorem State.kept_retireSrc (b : BankId) (m : Move) :
    (s.retireSrc b m).kept = s.kept := by
  unfold State.retireSrc
  try dsimp only
  repeat' (first | (simp; done) | (simp [*]; done) | (rename_i h0; simp [Kept.of_pair h0]; done) | split | rfl)
@[simp] theorem State.kept_sourceEnds (b : BankId) (id : Nat) (ok : Bool) :
    (s.sourceEnds b id ok).kept = s.kept := by
  unfold State.sourceEnds
  try dsimp only
  repeat' (first | (simp; done) | (simp [*]; done) | (rename_i h0; simp [Kept.of_pair h0]; done) | split | rfl)
@[simp] theorem State.kept_firedState (b : BankId) (id slot : Nat) (ok : Bool) :
    (s.firedState b id slot ok).kept = s.kept := by
  unfold State.firedState
  try dsimp only
  repeat' (first | (simp; done) | (simp [*]; done) | (rename_i h0; simp [Kept.of_pair h0]; done) | split | rfl)
@[simp] theorem State.kept_afterRead (b : BankId) (o : Op) (l fixes bad : Nat) :
    (s.afterRead b o l fixes bad).kept = s.kept := by
  unfold State.afterRead
  try dsimp only
  repeat' (first | (simp; done) | (simp [*]; done) | (rename_i h0; simp [Kept.of_pair h0]; done) | split | rfl)
@[simp] theorem State.kept_readSlot (b : BankId) (o : Op) (k : Nat) (flips : Flips) (n : Nat) (s : State) (i fixes bad : Nat) :
    (s.readSlot b o k flips i fixes bad n).1.kept = s.kept := by
  induction n generalizing s i fixes bad with
  | zero => rfl
  | succ n ih => unfold State.readSlot; dsimp only; rw [ih]; split <;> simp
@[simp] theorem State.kept_readBlockOn (o : Op) (r : BlockRead) (b : BankId) :
    (s.readBlockOn o r b).kept = s.kept := by
  unfold State.readBlockOn
  try dsimp only
  repeat' (first | (simp; done) | (simp [*]; done) | (rename_i h0; simp [Kept.of_pair h0]; done) | split | rfl)
@[simp] theorem State.kept_readsGoOn : s.readsGoOn.kept = s.kept := by
  unfold State.readsGoOn
  refine State.kept_forEach _ _ (fun t o => ?_) s
  repeat' (first | (simp; done) | split)

/-! ### Machine/Lays.lean -/

@[simp] theorem State.kept_tampFeed (b : BankId) (n : Nat) :
    (s.tampFeed b n).kept = s.kept := by
  unfold State.tampFeed
  try dsimp only
  repeat' (first | (simp; done) | (simp [*]; done) | (rename_i h0; simp [Kept.of_pair h0]; done) | split | rfl)
@[simp] theorem State.kept_settleLay (l : LayRun) :
    (s.settleLay l).kept.still = s.kept.still := by
  unfold State.settleLay
  split
  · rfl
  · dsimp only; rw [State.still_leavePartly]; rfl
@[simp] theorem State.kept_closeLay (b : BankId) (l : LayRun) (r : Byte) :
    (s.closeLay b l r).kept.still = s.kept.still := by
  unfold State.closeLay
  dsimp only
  rw [State.kept_leaveLay, State.kept_modBank]
  repeat' split
  all_goals simp

/-- A lay that has had no pulse leaves the cells alone. -/
theorem State.kept_closeLay_unpulsed (b : BankId) (l : LayRun) (r : Byte) (h : l.pulses = 0) :
    (s.closeLay b l r).kept = s.kept := by
  unfold State.closeLay State.settleLay
  simp only [h, if_true]
  rw [State.kept_leaveLay, State.kept_modBank]
  split <;> simp
@[simp] theorem State.kept_askRelocation (b : BankId) (o : Op) (l : LayRun) :
    (s.askRelocation b o l).kept = s.kept := by
  unfold State.askRelocation
  try dsimp only
  repeat' (first | (simp; done) | (simp [*]; done) | (rename_i h0; simp [Kept.of_pair h0]; done) | split | rfl)
@[simp] theorem State.kept_chunkEnds (id : Nat) (r : Byte) (n : Nat) :
    (s.chunkEnds id r n).kept = s.kept := by
  unfold State.chunkEnds
  try dsimp only
  repeat' (first | (simp; done) | (simp [*]; done) | (rename_i h0; simp [Kept.of_pair h0]; done) | split | rfl)
@[simp] theorem State.kept_endLay (b : BankId) (r : Byte) :
    (s.endLay b r).kept.still = s.kept.still := by
  unfold State.endLay
  split
  · rfl
  dsimp only
  repeat' split
  all_goals simp

/-- The end of a lay that has had no pulse. -/
theorem State.kept_endLay_unpulsed (b : BankId) (r : Byte) (l : LayRun) (hl : (s.bank b).lay = some l) (h : l.pulses = 0) :
    (s.endLay b r).kept = s.kept := by
  unfold State.endLay
  simp only [hl]
  repeat' split
  all_goals simp [State.kept_closeLay_unpulsed _ _ _ _ h]
/-- A lay that its gate refuses has had no pulse. -/
@[simp] theorem State.kept_decideLay (b : BankId) : (s.decideLay b).kept = s.kept := by
  unfold State.decideLay
  split
  · rfl
  split
  · rfl
  dsimp only
  split
  · rfl
  split
  · split
    · rw [State.kept_endLay_unpulsed _ _ _ _ (by rw [State.modBank_bank_self]) rfl, State.kept_modBank, State.kept_passAll]
    · simp
  · split
    · rw [State.kept_endLay_unpulsed _ _ _ _ (by rw [State.modBank_bank_self]) rfl, State.kept_modBank]
    · simp
@[simp] theorem State.kept_putLay (o : Op) (b : BankId) (l : LayRun) :
    (s.putLay o b l).kept = s.kept := by
  unfold State.putLay
  try dsimp only
  repeat' (first | (simp; done) | (simp [*]; done) | (rename_i h0; simp [Kept.of_pair h0]; done) | split | rfl)
@[simp] theorem State.kept_startLay (o : Op) (b : BankId) (data : List Word) :
    (s.startLay o b data).kept = s.kept := by
  unfold State.startLay
  try dsimp only
  repeat' (first | (simp; done) | (simp [*]; done) | (rename_i h0; simp [Kept.of_pair h0]; done) | split | rfl)
@[simp] theorem State.kept_noteRow (o : Op) (b : BankId) (m : Move) (t : List (Nat × (Nat × BitVec 75) × StoneRead)) :
    (s.noteRow o b m t).kept = s.kept := by
  unfold State.noteRow
  dsimp only
  rw [State.kept_modOp, State.kept_modBank, State.kept_foldl]
  intro x e
  split <;> simp
@[simp] theorem State.kept_startRow (o : Op) (b : BankId) (flips : Flips) :
    (s.startRow o b flips).kept = s.kept := by
  unfold State.startRow
  split
  · rfl
  · dsimp only
    split <;> simp

/-! ### Machine/Regress.lean -/

@[simp] theorem State.kept_startRegression :
    s.startRegression.kept = s.kept := by
  unfold State.startRegression
  try dsimp only
  repeat' (first | (simp; done) | (simp [*]; done) | (rename_i h0; simp [Kept.of_pair h0]; done) | split | rfl)
@[simp] theorem State.kept_queueFinals :
    s.queueFinals.kept = s.kept := by
  unfold State.queueFinals
  have h : ∀ t : State, (forEach allGates (fun t g => t.plinthWrite (.image g GateImage.shipment)) t).kept = t.kept :=
    fun t => State.kept_forEach _ _ (fun t g => State.kept_plinthWrite t _) t
  dsimp only
  generalize hx : (if s.life.priv = 1 then s else (s.modLife fun l => { l with priv := 1 }).bumpEpochs) = x
  have hk : x.kept = s.kept := by rw [← hx]; split <;> simp
  have := h x
  generalize forEach allGates (fun t g => t.plinthWrite (.image g GateImage.shipment)) x = y at *
  simp [this, hk]
@[simp] theorem State.kept_finishRegression :
    s.finishRegression.kept = s.kept := by
  unfold State.finishRegression
  dsimp only
  repeat' (first | (simp; done) | split)
@[simp] theorem State.kept_regressionCheck :
    s.regressionCheck.kept = s.kept := by
  unfold State.regressionCheck
  try dsimp only
  repeat' (first | (simp; done) | (simp [*]; done) | (rename_i h0; simp [Kept.of_pair h0]; done) | split | rfl)
@[simp] theorem State.kept_unitPassed (g : GalId) (p : Nat) :
    (s.unitPassed g p).kept = s.kept := by
  unfold State.unitPassed
  try dsimp only
  repeat' (first | (simp; done) | (simp [*]; done) | (rename_i h0; simp [Kept.of_pair h0]; done) | split | rfl)
@[simp] theorem State.kept_unitCleared (g : GalId) (p : Nat) :
    (s.unitCleared g p).kept = s.kept := by
  unfold State.unitCleared
  try dsimp only
  repeat' (first | (simp; done) | (simp [*]; done) | (rename_i h0; simp [Kept.of_pair h0]; done) | split | rfl)
@[simp] theorem State.kept_tryEnded (g : GalId) (p : Nat) (ok : Bool) :
    (s.tryEnded g p ok).kept = s.kept := by
  unfold State.tryEnded
  try dsimp only
  repeat' (first | (simp; done) | (simp [*]; done) | (rename_i h0; simp [Kept.of_pair h0]; done) | split | rfl)
@[simp] theorem State.kept_regressionGrant (b : BankId) (mA : Nat) :
    (s.regressionGrant b mA).kept = s.kept := by
  unfold State.regressionGrant
  try dsimp only
  repeat' (first | (simp; done) | (simp [*]; done) | (rename_i h0; simp [Kept.of_pair h0]; done) | split | rfl)
@[simp] theorem State.kept_regressionRelease (b : BankId) (mA : Nat) :
    (s.regressionRelease b mA).kept = s.kept := by
  unfold State.regressionRelease
  try dsimp only
  repeat' (first | (simp; done) | (simp [*]; done) | (rename_i h0; simp [Kept.of_pair h0]; done) | split | rfl)
@[simp] theorem State.kept_startRegressionClear (b : BankId) (u : UnitRef) :
    (s.startRegressionClear b u).kept = s.kept := by
  unfold State.startRegressionClear
  try dsimp only
  repeat' (first | (simp; done) | (simp [*]; done) | (rename_i h0; simp [Kept.of_pair h0]; done) | split | rfl)

/-! ### Machine/Clears.lean -/

@[simp] theorem State.kept_tracePulses (b : BankId) (c : ClearRun) :
    (s.tracePulses b c).kept = s.kept := by
  unfold State.tracePulses
  try dsimp only
  repeat' (first | (simp; done) | (simp [*]; done) | (rename_i h0; simp [Kept.of_pair h0]; done) | split | rfl)
@[simp] theorem State.kept_endClear (b : BankId) (c : ClearRun) (r : Byte) :
    (s.endClear b c r).kept = s.kept := by
  unfold State.endClear
  try dsimp only
  repeat' (first | (simp; done) | (simp [*]; done) | (rename_i h0; simp [Kept.of_pair h0]; done) | split | rfl)
@[simp] theorem State.kept_decideUnit (b : BankId) :
    (s.decideUnit b).kept = s.kept := by
  unfold State.decideUnit
  try dsimp only
  repeat' (first | (simp; done) | (simp [*]; done) | (rename_i h0; simp [Kept.of_pair h0]; done) | split | rfl)
@[simp] theorem State.kept_startClear (o : Op) (b : BankId) :
    (s.startClear o b).kept = s.kept := by
  unfold State.startClear
  try dsimp only
  repeat' (first | (simp; done) | (simp [*]; done) | (rename_i h0; simp [Kept.of_pair h0]; done) | split | rfl)
@[simp] theorem State.kept_startSource (o : Op) (b : BankId) :
    (s.startSource o b).kept = s.kept := by
  unfold State.startSource
  try dsimp only
  repeat' (first | (simp; done) | (simp [*]; done) | (rename_i h0; simp [Kept.of_pair h0]; done) | split | rfl)
@[simp] theorem State.kept_nextUnitStarts (b : BankId) :
    (s.nextUnitStarts b).kept = s.kept := by
  unfold State.nextUnitStarts
  try dsimp only
  repeat' (first | (simp; done) | (simp [*]; done) | (rename_i h0; simp [Kept.of_pair h0]; done) | split | rfl)
@[simp] theorem State.kept_countSince (b : BankId) (o : Op) :
    (s.countSince b o).kept = s.kept := by
  unfold State.countSince
  try dsimp only
  repeat' (first | (simp; done) | (simp [*]; done) | (rename_i h0; simp [Kept.of_pair h0]; done) | split | rfl)
@[simp] theorem State.kept_unitGood (b : BankId) (c : ClearRun) (o : Op) :
    (s.unitGood b c o).kept = s.kept := by
  unfold State.unitGood
  try dsimp only
  repeat' (first | (simp; done) | (simp [*]; done) | (rename_i h0; simp [Kept.of_pair h0]; done) | split | rfl)
@[simp] theorem State.kept_clearFailed (b : BankId) (c : ClearRun) :
    (s.clearFailed b c).kept = s.kept := by
  unfold State.clearFailed
  split
  · rfl
  split
  · rfl
  · split
    · rfl
    · exact State.kept_modKept s b _
@[simp] theorem State.kept_blankUnit (b : BankId) (u : UnitRef) : (s.blankUnit b u).kept.still = s.kept.still := rfl
@[simp] theorem State.kept_openUnit (b : BankId) (u : UnitRef) : (s.openUnit b u).kept.still = s.kept.still :=
  State.still_leaveOpen _ _ s
@[simp] theorem State.kept_countClearFail (b : BankId) :
    (s.countClearFail b).kept = s.kept := by
  unfold State.countClearFail
  try dsimp only
  repeat' (first | (simp; done) | (simp [*]; done) | (rename_i h0; simp [Kept.of_pair h0]; done) | split | rfl)
@[simp] theorem State.kept_closeRegression (b : BankId) (c : ClearRun) :
    (s.closeRegression b c).kept = s.kept := by
  unfold State.closeRegression
  try dsimp only
  repeat' (first | (simp; done) | (simp [*]; done) | (rename_i h0; simp [Kept.of_pair h0]; done) | split | rfl)
@[simp] theorem State.kept_regressionUnit (b : BankId) (c : ClearRun) (ok : Bool) :
    (s.regressionUnit b c ok).kept = s.kept := by
  unfold State.regressionUnit
  try dsimp only
  repeat' (first | (simp; done) | (simp [*]; done) | (rename_i h0; simp [Kept.of_pair h0]; done) | split | rfl)
@[simp] theorem State.kept_endUnit (b : BankId) (c : ClearRun) (ok : Bool) :
    (s.endUnit b c ok).kept.still = s.kept.still := by
  unfold State.endUnit
  try dsimp only
  repeat' (first | (simp; done) | (simp [*]; done) | (rename_i h0; simp [Kept.of_pair h0]; done) | split | rfl)
@[simp] theorem State.kept_startFiring (o : Op) (b : BankId) (k : Nat) :
    (s.startFiring o b k).kept = s.kept := by
  unfold State.startFiring
  try dsimp only
  repeat' (first | (simp; done) | (simp [*]; done) | (rename_i h0; simp [Kept.of_pair h0]; done) | split | rfl)
@[simp] theorem State.kept_endFiring (b : BankId) (c : ClearRun) (ok : Bool) :
    (s.endFiring b c ok).kept = s.kept := by
  unfold State.endFiring
  try dsimp only
  repeat' (first | (simp; done) | (simp [*]; done) | (rename_i h0; simp [Kept.of_pair h0]; done) | split | rfl)
@[simp] theorem State.kept_countFiring (b : BankId) (c : ClearRun) :
    (s.countFiring b c).kept = s.kept := by
  unfold State.countFiring
  try dsimp only
  repeat' (first | (simp; done) | (simp [*]; done) | (rename_i h0; simp [Kept.of_pair h0]; done) | split | rfl)
@[simp] theorem State.kept_runWpStep (b : BankId) (e : Nat × WpStep) :
    (s.runWpStep b e).kept = s.kept := by
  unfold State.runWpStep
  try dsimp only
  repeat' (first | (simp; done) | (simp [*]; done) | (rename_i h0; simp [Kept.of_pair h0]; done) | split | rfl)
@[simp] theorem State.kept_runWpSteps (b : BankId) : (s.runWpSteps b).kept = s.kept := by
  unfold State.runWpSteps
  rw [State.kept_forEach _ _ (fun t e => State.kept_runWpStep t b e), State.kept_modBank]
@[simp] theorem State.kept_plinthGoesOn :
    s.plinthGoesOn.kept = s.kept := by
  unfold State.plinthGoesOn
  try dsimp only
  repeat' (first | (simp; done) | (simp [*]; done) | (rename_i h0; simp [Kept.of_pair h0]; done) | split | rfl)
/-- WP# is sampled, and what waited for it goes on. -/
@[simp] theorem State.kept_sampleWp :
    s.sampleWp.kept = ({ s with pins := { s.pins with wp := s.pins.wpPin } } : State).kept := by
  unfold State.sampleWp
  dsimp only
  split
  · rw [State.kept_finishRegression, State.kept_tryRaise, State.kept_forEach _ _ (fun t b => State.kept_runWpSteps t b),
      State.kept_plinthGoesOn]
  · rw [State.kept_finishRegression]
@[simp] theorem State.kept_reachPartner (a : BitVec 32) (rx : List Byte) :
    (s.reachPartner a rx).1.kept = s.kept := by
  unfold State.reachPartner
  try dsimp only
  repeat' (first | (simp; done) | (simp [*]; done) | (rename_i h0; simp [Kept.of_pair h0]; done) | split | rfl)
@[simp] theorem State.kept_partnerEnds (o : Op) (ap : AnnexId × PartnerId) (r : Byte) :
    (s.partnerEnds o ap r).kept = s.kept := by
  unfold State.partnerEnds
  try dsimp only
  repeat' (first | (simp; done) | (simp [*]; done) | (rename_i h0; simp [Kept.of_pair h0]; done) | split | rfl)
@[simp] theorem State.kept_sendWrite (o : Op) (ap : AnnexId × PartnerId) (erasing : Bool) (sent : List Byte) (rx : List Byte) :
    (s.sendWrite o ap erasing sent rx).kept = s.kept := by
  unfold State.sendWrite
  try dsimp only
  repeat' (first | (simp; done) | (simp [*]; done) | (rename_i h0; simp [Kept.of_pair h0]; done) | split | rfl)
@[simp] theorem State.kept_programNext (id : Nat) (ap : AnnexId × PartnerId) (rx : List Byte) :
    (s.programNext id ap rx).kept = s.kept := by
  unfold State.programNext
  try dsimp only
  repeat' (first | (simp; done) | (simp [*]; done) | (rename_i h0; simp [Kept.of_pair h0]; done) | split | rfl)
@[simp] theorem State.kept_holdAtGate (o : Op) :
    (s.holdAtGate o).kept = s.kept := by
  unfold State.holdAtGate
  try dsimp only
  repeat' (first | (simp; done) | (simp [*]; done) | (rename_i h0; simp [Kept.of_pair h0]; done) | split | rfl)
@[simp] theorem State.kept_eraseUnit (o : Op) (ap : AnnexId × PartnerId) (rx : List Byte) :
    (s.eraseUnit o ap rx).kept = s.kept := by
  unfold State.eraseUnit
  try dsimp only
  repeat' (first | (simp; done) | (simp [*]; done) | (rename_i h0; simp [Kept.of_pair h0]; done) | split | rfl)
@[simp] theorem State.kept_eraseNext (id : Nat) (ap : AnnexId × PartnerId) (rx : List Byte) :
    (s.eraseNext id ap rx).kept = s.kept := by
  unfold State.eraseNext
  try dsimp only
  repeat' (first | (simp; done) | (simp [*]; done) | (rename_i h0; simp [Kept.of_pair h0]; done) | split | rfl)
@[simp] theorem State.kept_takePages (o : Op) (n : Nat) (s : State) : (s.takePages o n).kept = s.kept := by
  induction n generalizing s with
  | zero => rfl
  | succ n ih => unfold State.takePages; rw [ih, State.kept_takeYard]
@[simp] theorem State.kept_layWindow (o : Op) (ap : Option (AnnexId × PartnerId)) (rx : List Byte) :
    (s.layWindow o ap rx).kept = s.kept := by
  unfold State.layWindow
  try dsimp only
  repeat' (first | (simp; done) | (simp [*]; done) | (rename_i h0; simp [Kept.of_pair h0]; done) | split | rfl)
@[simp] theorem State.kept_windowLay (o : Op) (rx : List Byte) :
    (s.windowLay o rx).kept = s.kept := by
  unfold State.windowLay
  split
  · rename_i h0; simpa using Kept.of_pair h0
  · rename_i h0
    have h1 := Kept.of_pair h0
    simp only [State.kept_reachPartner] at h1
    dsimp only
    repeat' split
    all_goals simp [h1]
@[simp] theorem State.kept_windowClear (o : Op) (rx : List Byte) :
    (s.windowClear o rx).kept = s.kept := by
  unfold State.windowClear
  split
  · rename_i h0; simpa using Kept.of_pair h0
  · rename_i h0
    have h1 := Kept.of_pair h0
    simp only [State.kept_reachPartner] at h1
    dsimp only
    repeat' split
    all_goals simp [h1]
@[simp] theorem State.kept_stopsWith (id : Nat) (r : Byte) :
    (s.stopsWith id r).kept = s.kept := by
  unfold State.stopsWith
  try dsimp only
  repeat' (first | (simp; done) | (simp [*]; done) | (rename_i h0; simp [Kept.of_pair h0]; done) | split | rfl)
@[simp] theorem State.kept_readWindowStone (o : Op) (r : ReadRun) (rx : List Byte) :
    (s.readWindowStone o r rx).1.kept = s.kept := by
  unfold State.readWindowStone
  try dsimp only
  repeat' (first | (simp; done) | (simp [*]; done) | (rename_i h0; simp [Kept.of_pair h0]; done) | split | rfl)
@[simp] theorem State.kept_windowStep (id : Nat) (rx : List Byte) :
    (s.windowStep id rx).1.kept = s.kept := by
  unfold State.windowStep
  try dsimp only
  repeat' (first | (simp; done) | (simp [*]; done) | (rename_i h0; simp [Kept.of_pair h0]; done) | split | rfl)
@[simp] theorem State.kept_readPauses (id : Nat) :
    (s.readPauses id).kept = s.kept := by
  unfold State.readPauses
  try dsimp only
  repeat' (first | (simp; done) | (simp [*]; done) | (rename_i h0; simp [Kept.of_pair h0]; done) | split | rfl)
@[simp] theorem State.kept_windowReads (id : Nat) (n : Nat) (s : State) (rx : List Byte) : (s.windowReads id rx n).kept = s.kept := by
  induction n generalizing s rx with
  | zero => unfold State.windowReads; simp
  | succ n ih =>
    unfold State.windowReads
    split
    · rename_i h0; rw [ih, Kept.of_pair h0, State.kept_windowStep]
    · rename_i h0; rw [State.kept_readPauses, Kept.of_pair h0, State.kept_windowStep]
@[simp] theorem State.kept_aheadOver (id : Nat) :
    (s.aheadOver id).kept = s.kept := by
  unfold State.aheadOver
  try dsimp only
  repeat' (first | (simp; done) | (simp [*]; done) | (rename_i h0; simp [Kept.of_pair h0]; done) | split | rfl)
@[simp] theorem State.kept_startAhead (id : Nat) (flips : Flips) :
    (s.startAhead id flips).kept = s.kept := by
  unfold State.startAhead
  try dsimp only
  repeat' (first | (simp; done) | (simp [*]; done) | (rename_i h0; simp [Kept.of_pair h0]; done) | split | rfl)
@[simp] theorem State.kept_writeChunk (o : Op) (flips : Flips) (rx : List Byte) :
    (s.writeChunk o flips rx).kept = s.kept := by
  unfold State.writeChunk
  try dsimp only
  repeat' (first | (simp; done) | (simp [*]; done) | (rename_i h0; simp [Kept.of_pair h0]; done) | split | rfl)
@[simp] theorem State.kept_layChunk (o : Op) (flips : Flips) :
    (s.layChunk o flips).kept = s.kept := by
  unfold State.layChunk
  try dsimp only
  repeat' (first | (simp; done) | (simp [*]; done) | (rename_i h0; simp [Kept.of_pair h0]; done) | split | rfl)
@[simp] theorem State.kept_chunkStaged (o : Op) (flips : Flips) :
    (s.chunkStaged o flips).kept = s.kept := by
  unfold State.chunkStaged
  try dsimp only
  repeat' (first | (simp; done) | (simp [*]; done) | (rename_i h0; simp [Kept.of_pair h0]; done) | split | rfl)
@[simp] theorem State.kept_stagingOver (id : Nat) :
    (s.stagingOver id).kept = s.kept := by
  unfold State.stagingOver
  try dsimp only
  repeat' (first | (simp; done) | (simp [*]; done) | (rename_i h0; simp [Kept.of_pair h0]; done) | split | rfl)
@[simp] theorem State.kept_stagingEnds : s.stagingEnds.kept = s.kept := by
  unfold State.stagingEnds
  exact State.kept_forEach _ _ (fun t (o : Op) => by rw [State.kept_aheadOver, State.kept_stagingOver]) s
@[simp] theorem State.kept_stageWindow (id : Nat) (rx : List Byte) :
    (s.stageWindow id rx).kept = s.kept := by
  unfold State.stageWindow
  try dsimp only
  repeat' (first | (simp; done) | (simp [*]; done) | (rename_i h0; simp [Kept.of_pair h0]; done) | split | rfl)
@[simp] theorem State.kept_stageChunk (o : Op) (flips : Flips) (rx : List Byte) :
    (s.stageChunk o flips rx).kept = s.kept := by
  unfold State.stageChunk
  try dsimp only
  repeat' (first | (simp; done) | (simp [*]; done) | (rename_i h0; simp [Kept.of_pair h0]; done) | split | rfl)
@[simp] theorem State.kept_goAhead (o : Op) (h : Ahead) (flips : Flips) (rx : List Byte) :
    (s.goAhead o h flips rx).kept = s.kept := by
  unfold State.goAhead
  try dsimp only
  repeat' (first | (simp; done) | (simp [*]; done) | (rename_i h0; simp [Kept.of_pair h0]; done) | split | rfl)
@[simp] theorem State.kept_takeSecond (o : Op) :
    (s.takeSecond o).kept = s.kept := by
  unfold State.takeSecond
  try dsimp only
  repeat' (first | (simp; done) | (simp [*]; done) | (rename_i h0; simp [Kept.of_pair h0]; done) | split | rfl)
@[simp] theorem State.kept_startChunk (o : Op) (flips : Flips) (rx : List Byte) :
    (s.startChunk o flips rx).kept = s.kept := by
  unfold State.startChunk
  split
  · simp
  split
  · simp
  split
  · rename_i h0; have h1 := Kept.of_pair h0; rw [State.kept_reachPartner] at h1; simp [h1]
  · rename_i h0
    have h1 := Kept.of_pair h0
    rw [State.kept_reachPartner] at h1
    split
    · simp [h1]
    · split <;> simp [h1]
@[simp] theorem State.kept_dispatchChunk (o : Op) (flips : Flips) (rx : List Byte) :
    (s.dispatchChunk o flips rx).kept = s.kept := by
  unfold State.dispatchChunk
  try dsimp only
  repeat' (first | (simp; done) | (simp [*]; done) | (rename_i h0; simp [Kept.of_pair h0]; done) | split | rfl)
@[simp] theorem State.kept_resumeHaul (o : Op) (flips : Flips) (rx : List Byte) :
    (s.resumeHaul o flips rx).kept = s.kept := by
  unfold State.resumeHaul
  try dsimp only
  repeat' (first | (simp; done) | (simp [*]; done) | (rename_i h0; simp [Kept.of_pair h0]; done) | split | rfl)
@[simp] theorem State.kept_resumeHeld (o : Op) (flips : Flips) (rx : List Byte) :
    (s.resumeHeld o flips rx).kept = s.kept := by
  unfold State.resumeHeld
  try dsimp only
  repeat' (first | (simp; done) | (simp [*]; done) | (rename_i h0; simp [Kept.of_pair h0]; done) | split | rfl)
@[simp] theorem State.kept_pageConfirmed (o : Op) (ap : AnnexId × PartnerId) (rx : List Byte) :
    (s.pageConfirmed o ap rx).kept = s.kept := by
  unfold State.pageConfirmed
  try dsimp only
  repeat' (first | (simp; done) | (simp [*]; done) | (rename_i h0; simp [Kept.of_pair h0]; done) | split | rfl)
@[simp] theorem State.kept_eraseConfirmed (o : Op) (ap : AnnexId × PartnerId) (rx : List Byte) :
    (s.eraseConfirmed o ap rx).kept = s.kept := by
  unfold State.eraseConfirmed
  try dsimp only
  repeat' (first | (simp; done) | (simp [*]; done) | (rename_i h0; simp [Kept.of_pair h0]; done) | split | rfl)
@[simp] theorem State.kept_yieldOp (a : AnnexId) (o : Op) :
    (s.yieldOp a o).kept = s.kept := by
  unfold State.yieldOp
  try dsimp only
  repeat' (first | (simp; done) | (simp [*]; done) | (rename_i h0; simp [Kept.of_pair h0]; done) | split | rfl)

/-! ### Machine/Gallery.lean -/

@[simp] theorem State.kept_startFetchOp (o : Op) (flips : Flips) (rx : List Byte) :
    (s.startFetchOp o flips rx).kept = s.kept := by
  unfold State.startFetchOp
  try dsimp only
  repeat' (first | (simp; done) | (simp [*]; done) | (rename_i h0; simp [Kept.of_pair h0]; done) | split | rfl)
@[simp] theorem State.kept_startRead (o : Op) (b : BankId) (flips : Flips) :
    (s.startRead o b flips).kept = s.kept := by
  unfold State.startRead
  try dsimp only
  repeat' (first | (simp; done) | (simp [*]; done) | (rename_i h0; simp [Kept.of_pair h0]; done) | split | rfl)
@[simp] theorem State.kept_kilnNothing (o : Op) (b : BankId) :
    (s.kilnNothing o b).kept = s.kept := by
  unfold State.kilnNothing
  try dsimp only
  repeat' (first | (simp; done) | (simp [*]; done) | (rename_i h0; simp [Kept.of_pair h0]; done) | split | rfl)
@[simp] theorem State.kept_beginSwap (o : Op) (b : BankId) :
    (s.beginSwap o b).kept = s.kept := by
  unfold State.beginSwap
  try dsimp only
  repeat' (first | (simp; done) | (simp [*]; done) | (rename_i h0; simp [Kept.of_pair h0]; done) | split | rfl)
@[simp] theorem State.kept_startKiln (o : Op) (b : BankId) (act : Act) (flips : Flips) :
    (s.startKiln o b act flips).kept = s.kept := by
  unfold State.startKiln
  dsimp only
  generalize hx : (if (o.state == OpState.queued) = true then s.passAll o true [o.addr] else (s, 1, false)) = g
  have hk : g.1.kept = s.kept := by rw [← hx]; split <;> simp
  split
  · simp [hk]
  · split
    all_goals first | (split <;> simp [hk]; done) | (simp [hk]; done)
@[simp] theorem State.kept_startStep (o : Op) (act : Act) (flips : Flips) (rx : List Byte) :
    (s.startStep o act flips rx).kept = s.kept := by
  unfold State.startStep
  try dsimp only
  repeat' (first | (simp; done) | (simp [*]; done) | (rename_i h0; simp [Kept.of_pair h0]; done) | split | rfl)
@[simp] theorem State.kept_wakeGal (g : GalId) :
    (s.wakeGal g).kept = s.kept := by
  unfold State.wakeGal
  try dsimp only
  repeat' (first | (simp; done) | (simp [*]; done) | (rename_i h0; simp [Kept.of_pair h0]; done) | split | rfl)
@[simp] theorem State.kept_charge (g : GalId) (i : SubId) (v : SvcId) (c : Nat) :
    (s.charge g i v c).kept = s.kept := by
  unfold State.charge
  try dsimp only
  repeat' (first | (simp; done) | (simp [*]; done) | (rename_i h0; simp [Kept.of_pair h0]; done) | split | rfl)
@[simp] theorem State.kept_passOthers (g : GalId) (id : Nat) :
    (s.passOthers g id).kept = s.kept := by
  unfold State.passOthers
  try dsimp only
  repeat' (first | (simp; done) | (simp [*]; done) | (rename_i h0; simp [Kept.of_pair h0]; done) | split | rfl)
@[simp] theorem State.kept_countDispatch (g : GalId) (o : Op) :
    (s.countDispatch g o).kept = s.kept := by
  unfold State.countDispatch
  try dsimp only
  repeat' (first | (simp; done) | (simp [*]; done) | (rename_i h0; simp [Kept.of_pair h0]; done) | split | rfl)
@[simp] theorem State.kept_dispatchOp (g : GalId) (o : Op) (counts : Bool) :
    (s.dispatchOp g o counts).kept = s.kept := by
  unfold State.dispatchOp
  try dsimp only
  repeat' (first | (simp; done) | (simp [*]; done) | (rename_i h0; simp [Kept.of_pair h0]; done) | split | rfl)
@[simp] theorem State.kept_dispatchStep (g : GalId) (o : Op) (counts : Bool) (flips : Flips) (rx : List Byte) :
    (s.dispatchStep g o counts flips rx).kept = s.kept := by
  unfold State.dispatchStep
  try dsimp only
  repeat' (first | (simp; done) | (simp [*]; done) | (rename_i h0; simp [Kept.of_pair h0]; done) | split | rfl)
@[simp] theorem State.kept_dispatchProbed (g : GalId) (o : Op) (counts : Bool) (flips : Flips) (rx : List Byte) :
    (s.dispatchProbed g o counts flips rx).kept = s.kept := by
  unfold State.dispatchProbed
  try dsimp only
  repeat' (first | (simp; done) | (simp [*]; done) | (rename_i h0; simp [Kept.of_pair h0]; done) | split | rfl)
@[simp] theorem State.kept_dispatchPick (g : GalId) (e : Op × Bool) (flips : Flips) (rx : List Byte) :
    (s.dispatchPick g e flips rx).kept = s.kept := by
  unfold State.dispatchPick
  try dsimp only
  repeat' (first | (simp; done) | (simp [*]; done) | (rename_i h0; simp [Kept.of_pair h0]; done) | split | rfl)
@[simp] theorem State.kept_fetchRequests (g : GalId) :
    (s.fetchRequests g).kept = s.kept := by
  unfold State.fetchRequests
  refine State.kept_forEach _ _ (fun t o => ?_) s
  split <;> simp
@[simp] theorem State.kept_endFetch (o : Op) :
    (s.endFetch o).kept = s.kept := by
  unfold State.endFetch
  try dsimp only
  repeat' (first | (simp; done) | (simp [*]; done) | (rename_i h0; simp [Kept.of_pair h0]; done) | split | rfl)
@[simp] theorem State.kept_fetchOver (id : Nat) :
    (s.fetchOver id).kept = s.kept := by
  unfold State.fetchOver
  try dsimp only
  repeat' (first | (simp; done) | (simp [*]; done) | (rename_i h0; simp [Kept.of_pair h0]; done) | split | rfl)
@[simp] theorem State.kept_takesTurn (q : AnnexId × PartnerId) :
    (s.takesTurn q).kept = s.kept := by
  unfold State.takesTurn
  try dsimp only
  repeat' (first | (simp; done) | (simp [*]; done) | (rename_i h0; simp [Kept.of_pair h0]; done) | split | rfl)
@[simp] theorem State.kept_fetchWindow (o : Op) (n : Nat) (rx : List Byte) :
    (s.fetchWindow o n rx).kept = s.kept := by
  unfold State.fetchWindow
  try dsimp only
  repeat' (first | (simp; done) | (simp [*]; done) | (rename_i h0; simp [Kept.of_pair h0]; done) | split | rfl)

/-! ### Machine/House.lean -/

@[simp] theorem State.kept_dutySubmit (op : Byte) (addr : BitVec 32) (count : Nat) (kind : MoveKind) :
    (s.dutySubmit op addr count kind).1.kept = s.kept := by
  unfold State.dutySubmit
  try dsimp only
  repeat' (first | (simp; done) | (simp [*]; done) | (rename_i h0; simp [Kept.of_pair h0]; done) | split | rfl)
@[simp] theorem State.kept_noteOverdue :
    s.noteOverdue.kept = s.kept := by
  unfold State.noteOverdue
  refine State.kept_forEach _ _ (fun t b => ?_) s
  split <;> simp
@[simp] theorem State.kept_passOver :
    s.passOver.kept = s.kept := by
  unfold State.passOver
  try dsimp only
  repeat' (first | (simp; done) | (simp [*]; done) | (rename_i h0; simp [Kept.of_pair h0]; done) | split | rfl)

/-! ### Machine/Pulses.lean -/

@[simp] theorem State.kept_closeAllGates :
    s.closeAllGates.kept = s.kept := by
  unfold State.closeAllGates
  try dsimp only
  repeat' (first | (simp; done) | (simp [*]; done) | (rename_i h0; simp [Kept.of_pair h0]; done) | split | rfl)
@[simp] theorem State.kept_runPumps :
    s.runPumps.kept = s.kept := by
  unfold State.runPumps
  try dsimp only
  repeat' (first | (simp; done) | (simp [*]; done) | (rename_i h0; simp [Kept.of_pair h0]; done) | split | rfl)
@[simp] theorem State.kept_tracePump (old new : Pump) :
    (s.tracePump old new).kept = s.kept := by
  unfold State.tracePump
  try dsimp only
  repeat' (first | (simp; done) | (simp [*]; done) | (rename_i h0; simp [Kept.of_pair h0]; done) | split | rfl)
@[simp] theorem State.kept_adaptPump (g : GalId) (clearPump low : Bool) :
    (s.adaptPump g clearPump low).kept = s.kept := by
  unfold State.adaptPump
  try dsimp only
  repeat' (first | (simp; done) | (simp [*]; done) | (rename_i h0; simp [Kept.of_pair h0]; done) | split | rfl)
@[simp] theorem State.kept_adaptPumps (reglow : BitVec 8) :
    (s.adaptPumps reglow).kept = s.kept := by
  unfold State.adaptPumps
  refine State.kept_forEach _ _ (fun t g => ?_) s
  rw [State.kept_adaptPump, State.kept_adaptPump]
@[simp] theorem State.kept_countBrown :
    s.countBrown.kept = s.kept := by
  unfold State.countBrown
  split
  · rfl
  · rw [State.kept_cause, State.kept_modPower, State.kept_forEach _ _ (fun t n => State.kept_addTrace t _ _ _ _)]
@[simp] theorem State.kept_bankGoesOn (b : BankId) :
    (s.bankGoesOn b).kept = s.kept := by
  unfold State.bankGoesOn
  try dsimp only
  repeat' (first | (simp; done) | (simp [*]; done) | (rename_i h0; simp [Kept.of_pair h0]; done) | split | rfl)
@[simp] theorem State.kept_startPulses (f : Nat) :
    (s.startPulses f).kept = s.kept := by
  unfold State.startPulses
  try dsimp only
  repeat' (first | (simp; done) | (simp [*]; done) | (rename_i h0; simp [Kept.of_pair h0]; done) | split | rfl)

/-! ### Machine/Reply.lean -/

@[simp] theorem State.kept_feedMore (p : PortId) (data : List Byte) (feed : Feed) :
    (s.feedMore p data feed).kept = s.kept := by
  unfold State.feedMore
  try dsimp only
  repeat' (first | (simp; done) | (simp [*]; done) | (rename_i h0; simp [Kept.of_pair h0]; done) | split | rfl)
@[simp] theorem State.kept_pickRecord (p : PortId) (peek : Bool) (done : List Nat) :
    (s.pickRecord p peek done).kept = s.kept := by
  unfold State.pickRecord
  try dsimp only
  repeat' (first | (simp; done) | (simp [*]; done) | (rename_i h0; simp [Kept.of_pair h0]; done) | split | rfl)
@[simp] theorem State.kept_pull (p : PortId) :
    (s.pull p).kept = s.kept := by
  unfold State.pull
  try dsimp only
  repeat' (first | (simp; done) | (simp [*]; done) | (rename_i h0; simp [Kept.of_pair h0]; done) | split | rfl)
@[simp] theorem State.kept_partDone (p : PortId) :
    (s.partDone p).kept = s.kept := by
  unfold State.partDone
  try dsimp only
  repeat' (first | (simp; done) | (simp [*]; done) | (rename_i h0; simp [Kept.of_pair h0]; done) | split | rfl)
@[simp] theorem State.kept_emit (p : PortId) :
    (s.emit p).kept = s.kept := by
  unfold State.emit
  try dsimp only
  repeat' (first | (simp; done) | (simp [*]; done) | (rename_i h0; simp [Kept.of_pair h0]; done) | split | rfl)
@[simp] theorem State.kept_fetchLate (p : PortId) :
    (s.fetchLate p).kept = s.kept := by
  unfold State.fetchLate
  try dsimp only
  repeat' (first | (simp; done) | (simp [*]; done) | (rename_i h0; simp [Kept.of_pair h0]; done) | split | rfl)
@[simp] theorem State.kept_fixStatus (p : PortId) :
    (s.fixStatus p).kept = s.kept := by
  unfold State.fixStatus
  try dsimp only
  repeat' (first | (simp; done) | (simp [*]; done) | (rename_i h0; simp [Kept.of_pair h0]; done) | split | rfl)
@[simp] theorem State.kept_drive (p : PortId) :
    (s.drive p).kept = s.kept := by
  unfold State.drive
  try dsimp only
  repeat' (first | (simp; done) | (simp [*]; done) | (rename_i h0; simp [Kept.of_pair h0]; done) | split | rfl)
@[simp] theorem State.kept_clock (p : PortId) (dq0 : Bool) : (s.clock p dq0).kept = s.kept := by
  unfold State.clock
  dsimp only
  split
  · rw [State.kept_modPort _ _ _ rfl rfl]
  split
  · rfl
  split <;> simp

/-! ### Machine/Pace.lean -/

@[simp] theorem State.kept_closeEdge (n : Nat) :
    (s.closeEdge n).kept = s.kept := by
  unfold State.closeEdge
  have h := State.kept_forEach allGals State.wakeGal (fun t g => State.kept_wakeGal t g) s
  rw [← h]; rfl
@[simp] theorem State.kept_recordGuard :
    s.recordGuard.kept = s.kept := by
  unfold State.recordGuard
  split
  · rfl
  · dsimp only
    have h := State.kept_forEach allGals (fun t (g : GalId) => if s.pace.guardGals.getLsbD g.val then t.addTrace tGuard none 0 (BitVec.ofNat 16 g.val) else t) (fun t g => by split <;> simp) s
    rw [← h]; rfl
@[simp] theorem State.kept_portTokensMove :
    s.portTokensMove.kept = s.kept := by
  simp only [State.kept, State.portTokensMove]
  rw [lows_map _ _ (by simp) (by simp)]
@[simp] theorem State.kept_checkReservation :
    s.checkReservation.kept = s.kept := by
  unfold State.checkReservation
  try dsimp only
  repeat' (first | (simp; done) | (simp [*]; done) | (rename_i h0; simp [Kept.of_pair h0]; done) | split | rfl)
@[simp] theorem State.kept_annexEdge (inp : EdgeIn) :
    (s.annexEdge inp).kept = s.kept := by
  unfold State.annexEdge
  try dsimp only
  repeat' (first | (simp; done) | (simp [*]; done) | (rename_i h0; simp [Kept.of_pair h0]; done) | split | rfl)
@[simp] theorem State.kept_heldMeets (p : PortId) :
    (s.heldMeets p).kept = s.kept := by
  unfold State.heldMeets
  try dsimp only
  repeat' (first | (simp; done) | (simp [*]; done) | (rename_i h0; simp [Kept.of_pair h0]; done) | split | rfl)

/-! ### Machine/Life.lean -/

@[simp] theorem State.kept_loadGate (g : GateId) (i : GateImage) :
    (s.loadGate g i).kept = s.kept := by
  unfold State.loadGate
  try dsimp only
  repeat' (first | (simp; done) | (simp [*]; done) | (rename_i h0; simp [Kept.of_pair h0]; done) | split | rfl)
@[simp] theorem State.kept_raised (id : Nat) (level : BitVec 2) :
    (s.raised id level).kept = s.kept := by
  unfold State.raised
  try dsimp only
  repeat' (first | (simp; done) | (simp [*]; done) | (rename_i h0; simp [Kept.of_pair h0]; done) | split | rfl)
@[simp] theorem State.kept_regressionBegins :
    s.regressionBegins.kept = s.kept := by
  unfold State.regressionBegins
  try dsimp only
  repeat' (first | (simp; done) | (simp [*]; done) | (rename_i h0; simp [Kept.of_pair h0]; done) | split | rfl)
@[simp] theorem State.kept_openAgain :
    s.openAgain.kept = s.kept := by
  unfold State.openAgain
  dsimp only
  split
  · rw [State.kept_cause, State.kept_forEach _ _ (fun t g => State.kept_loadGate t g _), State.kept_bumpEpochs, State.kept_modLife]
  · rw [State.kept_complete, State.kept_modOp, State.kept_cause, State.kept_forEach _ _ (fun t g => State.kept_loadGate t g _),
      State.kept_bumpEpochs, State.kept_modLife]
@[simp] theorem State.kept_bootSense (inp : BootIn) :
    (s.bootSense inp).kept = s.kept := by
  simp only [State.kept, State.bootSense]
  rw [lows_mapFinIdx _ _ (by simp) (by simp)]
@[simp] theorem State.kept_bootJournal :
    s.bootJournal.kept = s.kept := by
  unfold State.bootJournal
  try dsimp only
  repeat' (first | (simp; done) | (simp [*]; done) | (rename_i h0; simp [Kept.of_pair h0]; done) | split | rfl)
@[simp] theorem State.kept_noteCopy (second : Bool) :
    (s.noteCopy second).kept = s.kept := by
  unfold State.noteCopy
  try dsimp only
  repeat' (first | (simp; done) | (simp [*]; done) | (rename_i h0; simp [Kept.of_pair h0]; done) | split | rfl)
@[simp] theorem State.kept_setConfig (c : CfgRec) :
    (s.setConfig c).kept = s.kept := by
  simp only [State.kept, State.setConfig]
  rw [lows_mapFinIdx _ _ (by simp) (by simp)]
@[simp] theorem State.kept_bootConfig :
    s.bootConfig.kept = s.kept := by
  unfold State.bootConfig
  try dsimp only
  repeat' (first | (simp; done) | (simp [*]; done) | (rename_i h0; simp [Kept.of_pair h0]; done) | split | rfl)
@[simp] theorem State.kept_bootBank (b : Fin 64) :
    (s.bootBank b).kept = s.kept := by
  unfold State.bootBank
  try dsimp only
  repeat' (first | (simp; done) | (simp [*]; done) | (rename_i h0; simp [Kept.of_pair h0]; done) | split | rfl)
@[simp] theorem State.kept_bootGate (g : GateId) :
    (s.bootGate g).kept = s.kept := by
  unfold State.bootGate
  try dsimp only
  repeat' (first | (simp; done) | (simp [*]; done) | (rename_i h0; simp [Kept.of_pair h0]; done) | split | rfl)
@[simp] theorem State.kept_bootTidy (b : Fin 64) :
    (s.bootTidy b).kept = s.kept := by
  unfold State.bootTidy
  try dsimp only
  repeat' (first | (simp; done) | (simp [*]; done) | (rename_i h0; simp [Kept.of_pair h0]; done) | split | rfl)
@[simp] theorem State.kept_bootRest :
    s.bootRest.kept = s.kept := by
  unfold State.bootRest
  rw [State.kept_modBoot, State.kept_forEach _ _ (fun t b => State.kept_bootTidy t b), State.kept_forEach _ _ (fun t b => State.kept_bootGate t b), State.kept_forEach _ _ (fun t b => State.kept_bootBank t b), State.kept_bootConfig]
@[simp] theorem State.kept_afterJournal :
    s.afterJournal.kept = s.kept := by
  unfold State.afterJournal
  try dsimp only
  repeat' (first | (simp; done) | (simp [*]; done) | (rename_i h0; simp [Kept.of_pair h0]; done) | split | rfl)
@[simp] theorem State.kept_startRepair :
    s.startRepair.kept = s.kept := by
  unfold State.startRepair
  try dsimp only
  repeat' (first | (simp; done) | (simp [*]; done) | (rename_i h0; simp [Kept.of_pair h0]; done) | split | rfl)
@[simp] theorem State.kept_recordActs (j : JWrite) :
    (s.recordActs j).kept = s.kept := by
  unfold State.recordActs
  try dsimp only
  repeat' (first | (simp; done) | (simp [*]; done) | (rename_i h0; simp [Kept.of_pair h0]; done) | split | rfl)

end Sys2Proof.Machine
end

