-- ==== Sys2Proof/Laws/Memory.lean ====
section
/-! SUPPORT. The array's cells: every operation on them keeps the canonical form, a read after a write finds what was
written, and a write leaves every other cell alone. -/
namespace Sys2Proof.Machine

/-! ### Sparse tables -/

/-- Every key of a table lies above `k`. -/
def Sparse.above {α : Type} (k : Nat) (l : List (Nat × α)) : Prop := ∀ e ∈ l, k < e.1

theorem Sparse.rising_cons {α : Type} (e : Nat × α) (l : List (Nat × α)) :
    Sparse.rising (e :: l) = true ↔ Sparse.above e.1 l ∧ Sparse.rising l = true := by
  induction l generalizing e with
  | nil => simp [Sparse.rising, Sparse.above]
  | cons f r ih =>
    obtain ⟨j, v⟩ := e
    obtain ⟨k, w⟩ := f
    simp only [Sparse.rising, Bool.and_eq_true, decide_eq_true_eq]
    rw [ih (k, w)]
    simp only [Sparse.above, List.mem_cons]
    constructor
    · rintro ⟨h, h1, h2⟩
      refine ⟨?_, h1, h2⟩
      rintro e (rfl | he)
      · exact h
      · exact lt_trans h (h1 e he)
    · rintro ⟨h, h1, h2⟩
      exact ⟨h (k, w) (Or.inl rfl), h1, h2⟩

theorem Sparse.mem_insert {α : Type} (k : Nat) (v : α) (l : List (Nat × α)) (e : Nat × α) :
    e ∈ Sparse.insert k v l ↔ e = (k, v) ∨ e ∈ l := by
  induction l with
  | nil => simp [Sparse.insert]
  | cons f r ih =>
    obtain ⟨j, w⟩ := f
    by_cases h : k < j
    · simp [Sparse.insert, h]
    · simp [Sparse.insert, h, ih]; tauto

theorem Sparse.rising_insert {α : Type} (k : Nat) (v : α) (l : List (Nat × α)) (h : Sparse.rising l = true)
    (hk : ∀ e ∈ l, e.1 ≠ k) : Sparse.rising (Sparse.insert k v l) = true := by
  induction l with
  | nil => rfl
  | cons f r ih =>
    obtain ⟨j, w⟩ := f
    rw [Sparse.rising_cons] at h
    by_cases hj : k < j
    · simp only [Sparse.insert, hj, if_true]
      rw [Sparse.rising_cons, Sparse.rising_cons]
      refine ⟨?_, h⟩
      intro e he
      rcases List.mem_cons.1 he with rfl | he
      · exact hj
      · exact lt_trans hj (h.1 e he)
    · simp only [Sparse.insert, hj, if_false]
      rw [Sparse.rising_cons]
      refine ⟨?_, ih h.2 (fun e he => hk e (List.mem_cons_of_mem _ he))⟩
      intro e he
      rcases (Sparse.mem_insert k v r e).1 he with rfl | he
      · have := hk (j, w) List.mem_cons_self
        simp only at this ⊢
        omega
      · exact h.1 e he

theorem Sparse.rising_filter {α : Type} (q : Nat × α → Bool) (l : List (Nat × α)) (h : Sparse.rising l = true) :
    Sparse.rising (l.filter q) = true := by
  induction l with
  | nil => rfl
  | cons f r ih =>
    rw [Sparse.rising_cons] at h
    by_cases hq : q f = true
    · rw [List.filter_cons_of_pos hq, Sparse.rising_cons]
      exact ⟨fun e he => h.1 e (List.mem_of_mem_filter he), ih h.2⟩
    · rw [List.filter_cons_of_neg hq]
      exact ih h.2

theorem Sparse.get_insert {α : Type} (d : Nat → α) (k : Nat) (v : α) (l : List (Nat × α)) (hk : ∀ e ∈ l, e.1 ≠ k) (j : Nat) :
    Sparse.get d (Sparse.insert k v l) j = if j = k then v else Sparse.get d l j := by
  induction l with
  | nil => simp [Sparse.insert, Sparse.get]
  | cons f r ih =>
    obtain ⟨i, w⟩ := f
    by_cases hj : k < i
    · simp [Sparse.insert, hj, Sparse.get]
    · have hne : i ≠ k := hk (i, w) List.mem_cons_self
      simp only [Sparse.insert, hj, if_false, Sparse.get]
      rw [ih (fun e he => hk e (List.mem_cons_of_mem _ he))]
      by_cases h1 : j = i
      · subst h1; simp [hne]
      · simp [h1]

theorem Sparse.get_filter {α : Type} (d : Nat → α) (q : Nat → Bool) (l : List (Nat × α)) (j : Nat) :
    Sparse.get d (l.filter (fun e => q e.1)) j = if q j then Sparse.get d l j else d j := by
  induction l with
  | nil => simp [Sparse.get]
  | cons f r ih =>
    obtain ⟨i, w⟩ := f
    by_cases hq : q i = true
    · rw [List.filter_cons_of_pos (by simpa using hq)]
      simp only [Sparse.get, ih]
      by_cases h1 : j = i
      · subst h1; simp [hq]
      · simp [h1]
    · rw [List.filter_cons_of_neg (by simpa using hq), ih]
      by_cases h1 : j = i
      · subst h1; simp [hq]
      · simp [Sparse.get, h1]

/-- A table written at one key. -/
theorem Sparse.get_put {α : Type} [DecidableEq α] (d : Nat → α) (l : List (Nat × α)) (k : Nat) (v : α) (j : Nat) :
    Sparse.get d (Sparse.put d l k v) j = if j = k then v else Sparse.get d l j := by
  have hf := Sparse.get_filter d (fun i => decide (i ≠ k)) l j
  have hk : ∀ e ∈ l.filter (fun e => decide (e.1 ≠ k)), e.1 ≠ k := by
    intro e he
    simpa using (List.mem_filter.1 he).2
  unfold Sparse.put
  simp only
  split
  · next h =>
    rw [hf]
    by_cases h1 : j = k
    · subst h1; simp [h]
    · simp [h1]
  · rw [Sparse.get_insert d k v _ hk, hf]
    by_cases h1 : j = k
    · simp [h1]
    · simp [h1]

theorem Sparse.wf_put {α : Type} [DecidableEq α] (d : Nat → α) (l : List (Nat × α)) (k : Nat) (v : α)
    (h : Sparse.wf d l = true) : Sparse.wf d (Sparse.put d l k v) = true := by
  simp only [Sparse.wf, Bool.and_eq_true, List.all_eq_true, decide_eq_true_eq] at h ⊢
  have hr := Sparse.rising_filter (fun e => decide (e.1 ≠ k)) l h.1
  have ha : ∀ e ∈ l.filter (fun e => decide (e.1 ≠ k)), e.2 ≠ d e.1 := fun e he => h.2 e (List.mem_of_mem_filter he)
  unfold Sparse.put
  simp only
  split
  · exact ⟨hr, ha⟩
  · next hv =>
    refine ⟨Sparse.rising_insert k v _ hr ?_, ?_⟩
    · intro e he
      simpa using (List.mem_filter.1 he).2
    · intro e he
      rcases (Sparse.mem_insert k v _ e).1 he with rfl | he
      · exact hv
      · exact ha e he

theorem Sparse.wf_filter {α : Type} [DecidableEq α] (d : Nat → α) (q : Nat × α → Bool) (l : List (Nat × α))
    (h : Sparse.wf d l = true) : Sparse.wf d (l.filter q) = true := by
  simp only [Sparse.wf, Bool.and_eq_true, List.all_eq_true, decide_eq_true_eq] at h ⊢
  exact ⟨Sparse.rising_filter q l h.1, fun e he => h.2 e (List.mem_of_mem_filter he)⟩

/-! ### Cells -/

theorem Memory.wf_write (m : List Host.Cell) (a : Nat) (v : BitVec 8) (h : Memory.wf m = true) :
    Memory.wf (Memory.write m a v) = true := Sparse.wf_put Memory.blank m a v h

theorem Memory.read_write (m : List Host.Cell) (a : Nat) (v : BitVec 8) (b : Nat) :
    Memory.read (Memory.write m a v) b = if b = a then v else Memory.read m b := Sparse.get_put Memory.blank m a v b

theorem wf_writeBytes (bs : List Byte) (m : List Host.Cell) (a : Nat) (h : Memory.wf m = true) :
    Memory.wf (writeBytes m a bs) = true := by
  induction bs generalizing m a with
  | nil => exact h
  | cons b r ih => exact ih _ _ (Memory.wf_write m a b h)

theorem read_writeBytes (bs : List Byte) (m : List Host.Cell) (a j : Nat) :
    Memory.read (writeBytes m a bs) j = if h : a ≤ j ∧ j - a < bs.length then bs[j - a]'h.2 else Memory.read m j := by
  induction bs generalizing m a with
  | nil => simp [writeBytes]
  | cons b r ih =>
    simp only [writeBytes, ih, Memory.read_write, List.length_cons]
    by_cases h0 : j = a
    · subst h0; simp
    · by_cases h1 : a + 1 ≤ j ∧ j - (a + 1) < r.length
      · have h2 : a ≤ j ∧ j - a < r.length + 1 := by omega
        rw [dif_pos h1, dif_pos h2]
        have : j - a = (j - (a + 1)) + 1 := by omega
        simp [this]
      · have h2 : ¬ (a ≤ j ∧ j - a < r.length + 1) := by omega
        rw [dif_neg h1, dif_neg h2, if_neg h0]

@[simp] theorem length_cellBytes (c : BitVec 75) : (cellBytes c).length = 10 := rfl

theorem wf_writeCells (m : List Host.Cell) (n : Nat) (c : BitVec 75) (h : Memory.wf m = true) :
    Memory.wf (writeCells m n c) = true := wf_writeBytes _ m _ h

/-- Writing a stone leaves the cells of every other stone alone. -/
theorem read_writeCells_of_ne (m : List Host.Cell) (n : Nat) (c : BitVec 75) (a : Nat) (h : a / 10 ≠ n) :
    Memory.read (writeCells m n c) a = Memory.read m a := by
  rw [writeCells, read_writeBytes, dif_neg]
  rw [length_cellBytes]
  omega

theorem readCells_congr (m m' : List Host.Cell) (n : Nat) (h : ∀ a, a / 10 = n → Memory.read m a = Memory.read m' a) :
    readCells m n = readCells m' n := by
  unfold readCells
  simp only
  rw [h (10 * n + 9) (by omega), h (10 * n + 8) (by omega), h (10 * n + 0) (by omega), h (10 * n + 1) (by omega),
    h (10 * n + 2) (by omega), h (10 * n + 3) (by omega), h (10 * n + 4) (by omega), h (10 * n + 5) (by omega),
    h (10 * n + 6) (by omega), h (10 * n + 7) (by omega)]

theorem readCells_writeCells_of_ne (m : List Host.Cell) (n k : Nat) (c : BitVec 75) (h : k ≠ n) :
    readCells (writeCells m n c) k = readCells m k :=
  readCells_congr _ _ _ (fun a ha => read_writeCells_of_ne m n c a (by omega))

theorem read_writeCells (m : List Host.Cell) (n : Nat) (c : BitVec 75) (k : Nat) (hk : k < 10) :
    Memory.read (writeCells m n c) (10 * n + k) = (cellBytes c)[k]'hk := by
  rw [writeCells, read_writeBytes, dif_pos ⟨by omega, by rw [length_cellBytes]; omega⟩]
  congr 1
  omega

/-- A stone reads as it was written. -/
theorem readCells_writeCells (m : List Host.Cell) (n : Nat) (c : BitVec 75) : readCells (writeCells m n c) n = c := by
  unfold readCells
  simp only [read_writeCells m n c _ (by decide : (0 : Nat) < 10), read_writeCells m n c _ (by decide : (1 : Nat) < 10),
    read_writeCells m n c _ (by decide : (2 : Nat) < 10), read_writeCells m n c _ (by decide : (3 : Nat) < 10),
    read_writeCells m n c _ (by decide : (4 : Nat) < 10), read_writeCells m n c _ (by decide : (5 : Nat) < 10),
    read_writeCells m n c _ (by decide : (6 : Nat) < 10), read_writeCells m n c _ (by decide : (7 : Nat) < 10),
    read_writeCells m n c _ (by decide : (8 : Nat) < 10), read_writeCells m n c _ (by decide : (9 : Nat) < 10)]
  simp only [cellBytes, rawBytes, be64, be32, cellsData, cellsEcc, cellsMark, List.cons_append, List.nil_append,
    List.getElem_cons_zero, List.getElem_cons_succ]
  apply BitVec.eq_of_getLsbD_eq
  intro i hi
  simp only [BitVec.getLsbD_append, BitVec.getLsbD_extractLsb', BitVec.getLsbD_zero]
  repeat' split
  all_goals try simp only [decide_true, Bool.true_and, *]
  all_goals first
    | (congr 1; omega)
    | (rw [decide_eq_true (by omega), Bool.true_and]; congr 1; omega)
    | (rw [decide_eq_true (by omega), decide_eq_true (by omega), Bool.true_and, Bool.true_and]; congr 1; omega)
    | (rw [decide_eq_true (by omega), decide_eq_true (by omega), decide_eq_true (by omega), Bool.true_and, Bool.true_and,
        Bool.true_and]; congr 1; omega)

/-! ### Clearing -/

theorem wf_blankStones (m : List Host.Cell) (lo hi : Nat) (h : Memory.wf m = true) : Memory.wf (blankStones m lo hi) = true :=
  Sparse.wf_filter Memory.blank _ m h

theorem read_blankStones (m : List Host.Cell) (lo hi a : Nat) :
    Memory.read (blankStones m lo hi) a = if lo ≤ a / 10 ∧ a / 10 < hi then Memory.blank a else Memory.read m a := by
  have h := Sparse.get_filter Memory.blank (fun i => !(decide (10 * lo ≤ i) && decide (i < 10 * hi))) m a
  unfold Memory.read blankStones Sparse.wipe
  rw [h]
  by_cases hc : lo ≤ a / 10 ∧ a / 10 < hi
  · have : 10 * lo ≤ a ∧ a < 10 * hi := by omega
    simp [hc, this.1, this.2]
  · have : a < 10 * lo ∨ 10 * hi ≤ a := by omega
    rw [if_neg hc, if_pos]
    rcases this with h | h
    · simp [h]
    · simp [h]

/-- A stone whose cells are as cleared reads as cleared (R269). -/
theorem readCells_blank (m : List Host.Cell) (n : Nat) (h : ∀ a, a / 10 = n → Memory.read m a = Memory.blank a) :
    readCells m n = cellsBlank := by
  have hb : ∀ k, k < 9 → Memory.read m (10 * n + k) = 0xFF := by
    intro k hk
    rw [h _ (by omega), Memory.blank, if_neg (by omega)]
  have h9 : Memory.read m (10 * n + 9) = 0x07 := by
    rw [h _ (by omega), Memory.blank, if_pos (by omega)]
  unfold readCells
  simp only [h9, hb 0 (by omega), hb 1 (by omega), hb 2 (by omega), hb 3 (by omega), hb 4 (by omega), hb 5 (by omega),
    hb 6 (by omega), hb 7 (by omega), hb 8 (by omega)]
  decide

/-- The stones of a cleared range read as cleared, every other stone as before. -/
theorem readCells_blankStones (m : List Host.Cell) (lo hi n : Nat) :
    readCells (blankStones m lo hi) n = if lo ≤ n ∧ n < hi then cellsBlank else readCells m n := by
  split
  · next h =>
    apply readCells_blank
    intro a ha
    rw [read_blankStones, if_pos (by omega)]
  · next h =>
    apply readCells_congr
    intro a ha
    rw [read_blankStones, if_neg (by omega)]

/-! ### What is left open -/

/-- What work on cells does to a state: cells, the marks of the blank check and the free values used change, the cells stay
canonical, and stones that `on` does not name keep their cells. -/
structure OnlyCells (s t : State) (on : Nat → Prop) : Prop where
  eq   : t = { s with mem := t.mem, touched := t.touched, freeCtr := t.freeCtr }
  wf   : Memory.wf s.mem = true → Memory.wf t.mem = true
  read : ∀ a, ¬ on (a / 10) → Memory.read t.mem a = Memory.read s.mem a

theorem OnlyCells.refl (s : State) (p : Nat → Prop) : OnlyCells s s p := ⟨rfl, id, fun _ _ => rfl⟩

theorem OnlyCells.trans {s t u : State} {p : Nat → Prop} (h : OnlyCells s t p) (g : OnlyCells t u p) : OnlyCells s u p where
  eq := by rw [g.eq, h.eq]
  wf := fun x => g.wf (h.wf x)
  read := fun a ha => (g.read a ha).trans (h.read a ha)

theorem OnlyCells.mono {s t : State} {p q : Nat → Prop} (h : OnlyCells s t p) (hpq : ∀ n, p n → q n) : OnlyCells s t q :=
  ⟨h.eq, h.wf, fun a ha => h.read a (fun hp => ha (hpq _ hp))⟩

theorem OnlyCells.write (s : State) (n : Nat) (c : BitVec 75) (k : Nat) (l : List Nat) (p : Nat → Prop) (hn : p n) :
    OnlyCells s { s with mem := writeCells s.mem n c, freeCtr := k, touched := l } p where
  eq := rfl
  wf := wf_writeCells s.mem n c
  read := fun a ha => read_writeCells_of_ne s.mem n c a (by rintro rfl; exact ha hn)

theorem leavePartly_cells (l : List (Nat × BitVec 75)) (s : State) :
    OnlyCells s (s.leavePartly l) (fun n => ∃ e ∈ l, e.1 = n) := by
  induction l generalizing s with
  | nil => exact OnlyCells.refl s _
  | cons e r ih =>
    obtain ⟨n, c⟩ := e
    refine OnlyCells.trans (OnlyCells.write s n _ _ _ _ ⟨(n, c), List.mem_cons_self, rfl⟩) ((ih _).mono ?_)
    rintro k ⟨e, he, rfl⟩
    exact ⟨e, List.mem_cons_of_mem _ he, rfl⟩

theorem leaveOpen_cells (count lo : Nat) (s : State) :
    OnlyCells s (s.leaveOpen lo count) (fun n => lo ≤ n ∧ n < lo + count) := by
  induction count generalizing lo s with
  | zero => exact OnlyCells.refl s _
  | succ k ih =>
    refine OnlyCells.trans (OnlyCells.write s lo _ _ _ _ ⟨le_refl lo, by omega⟩) ((ih _ _).mono ?_)
    intro n hn
    omega

theorem openUnit_cells (s : State) (b : BankId) (u : UnitRef) :
    OnlyCells s (s.openUnit b u) (fun n => (u.range b).1 ≤ n ∧ n < (u.range b).2) := by
  refine (leaveOpen_cells _ _ s).mono ?_
  intro n hn
  omega

theorem foldl_writeCells_cells {α : Type} (l : List α) (f : α → Nat × BitVec 75) (m : List Host.Cell) :
    (Memory.wf m = true → Memory.wf (l.foldl (fun m x => writeCells m (f x).1 (f x).2) m) = true)
    ∧ ∀ a, (∀ x ∈ l, (f x).1 ≠ a / 10) → Memory.read (l.foldl (fun m x => writeCells m (f x).1 (f x).2) m) a = Memory.read m a := by
  induction l generalizing m with
  | nil => exact ⟨id, fun _ _ => rfl⟩
  | cons x r ih =>
    refine ⟨fun h => (ih _).1 (wf_writeCells m _ _ h), ?_⟩
    intro a ha
    rw [List.foldl_cons, (ih _).2 a (fun y hy => ha y (List.mem_cons_of_mem _ hy)),
      read_writeCells_of_ne m _ _ a (ha x List.mem_cons_self).symm]

/-- A lay that ends changes the cells of its targets alone (R301, R629). -/
theorem settleLay_cells (s : State) (l : LayRun) : OnlyCells s (s.settleLay l) (fun n => ∃ e ∈ l.targets, e.1 = n) := by
  unfold State.settleLay
  split
  · exact OnlyCells.refl s _
  · dsimp only
    have hz : ∀ x ∈ l.targets.zip (List.range l.targets.length), x.1 ∈ l.targets := fun x hx => (List.of_mem_zip hx).1
    refine OnlyCells.trans (t := { s with mem := ((l.targets.zip (List.range l.targets.length)).filter
      (fun x => l.verified.getLsbD x.2)).foldl (fun m x => writeCells m x.1.1 x.1.2) s.mem }) ⟨rfl, ?_, ?_⟩
      ((leavePartly_cells _ _).mono ?_)
    · exact (foldl_writeCells_cells _ (fun x : (Nat × BitVec 75) × Nat => x.1) s.mem).1
    · intro a ha
      refine (foldl_writeCells_cells _ (fun x : (Nat × BitVec 75) × Nat => x.1) s.mem).2 a ?_
      intro x hx hne
      exact ha ⟨x.1, hz x (List.mem_of_mem_filter hx), hne⟩
    · rintro n ⟨e, he, rfl⟩
      obtain ⟨x, hx, rfl⟩ := List.mem_map.1 he
      exact ⟨x.1, hz x (List.mem_of_mem_filter hx), rfl⟩

/-- A clear that ends blanks the cells of its unit alone (R309). -/
theorem blankUnit_cells (s : State) (b : BankId) (u : UnitRef) :
    OnlyCells s (s.blankUnit b u) (fun n => (u.range b).1 ≤ n ∧ n < (u.range b).2) where
  eq := rfl
  wf := wf_blankStones s.mem _ _
  read := fun a ha => by
    show Memory.read (blankStones s.mem (u.range b).1 (u.range b).2) a = _
    rw [read_blankStones, if_neg ha]

/-- What a reset cuts off on a bank changes the cells of what the bank works on alone (R554). -/
theorem cutBank_cells (s : State) (b : BankId) :
    OnlyCells s (s.cutBank b) (fun n =>
      (∃ l, (s.bank b).lay = some l ∧ ¬ (l.pulses = 0 ∧ l.pulse.isNone = true) ∧ ∃ e ∈ l.targets, e.1 = n)
      ∨ ∃ c, (s.bank b).clear = some c ∧ (c.held || c.boundary) = false ∧ (c.unit.range b).1 ≤ n ∧ n < (c.unit.range b).2) := by
  have hl : OnlyCells s (match (s.bank b).lay with
      | some l => if l.pulses = 0 ∧ l.pulse.isNone then s else s.leavePartly l.targets
      | none => s) (fun n =>
      (∃ l, (s.bank b).lay = some l ∧ ¬ (l.pulses = 0 ∧ l.pulse.isNone = true) ∧ ∃ e ∈ l.targets, e.1 = n)
      ∨ ∃ c, (s.bank b).clear = some c ∧ (c.held || c.boundary) = false ∧ (c.unit.range b).1 ≤ n ∧ n < (c.unit.range b).2) := by
    split
    · next l hl =>
      split
      · exact OnlyCells.refl s _
      · next hp =>
        refine (leavePartly_cells _ _).mono ?_
        exact fun n hn => Or.inl ⟨l, hl, hp, hn⟩
    · exact OnlyCells.refl s _
  unfold State.cutBank
  dsimp only
  split
  · next c hc =>
    split
    · exact hl
    · next hp =>
      refine OnlyCells.trans hl ((leaveOpen_cells _ _ _).mono ?_)
      intro n hn
      exact Or.inr ⟨c, hc, by simpa using hp, by omega, by omega⟩
  · exact hl

/-- What bank `b` works on when a reset comes. -/
def State.cutOn (s : State) (b : BankId) (n : Nat) : Prop :=
  (∃ l, (s.bank b).lay = some l ∧ ¬ (l.pulses = 0 ∧ l.pulse.isNone = true) ∧ ∃ e ∈ l.targets, e.1 = n)
  ∨ ∃ c, (s.bank b).clear = some c ∧ (c.held || c.boundary) = false ∧ (c.unit.range b).1 ≤ n ∧ n < (c.unit.range b).2

theorem cutBanks_cells (l : List BankId) (s : State) :
    OnlyCells s (forEach l State.cutBank s) (fun n => ∃ b, s.cutOn b n) := by
  have key : ∀ (l : List BankId) (t : State), OnlyCells s t (fun n => ∃ b, s.cutOn b n) →
      OnlyCells s (forEach l State.cutBank t) (fun n => ∃ b, s.cutOn b n) := by
    intro l
    induction l with
    | nil => exact fun t h => h
    | cons b r ih =>
      intro t h
      refine ih _ (h.trans ((cutBank_cells t b).mono ?_))
      have hb : t.bank b = s.bank b := by rw [h.eq]; rfl
      intro n hn
      exact ⟨b, by simpa only [State.cutOn, hb] using hn⟩
  exact key l s (OnlyCells.refl s _)

end Sys2Proof.Machine
end

