-- ==== Sys2Proof/Laws/RegWrites.lean ====
section
/-! SUPPORT. What a REGWR of one taken entry comes to, and which register each number names. -/
namespace Sys2Proof.Machine

theorem State.received_ignoresWrite (s : State) (tx : Tx) (op : Byte) (r : BitVec 12) :
    (s.received tx op).ignoresWrite r = s.ignoresWrite r := rfl

theorem State.received_fullWrite (s : State) (tx : Tx) (op : Byte) : (s.received tx op).fullWrite tx.port = s.fullWrite tx.port := by
  unfold State.fullWrite
  rw [State.received_port_self, Port.track_dflt]
  rfl

/-- A REGWR of one entry that may be written: REGWRITES rises, the register does what its chapter says on the taking edge,
what acts at the rise is left for it, and the status byte has RDY. -/
theorem State.regWrite1_afterWrite (s : State) (tx : Tx) (r : BitVec 12) (v : Word) (h : s.mayWrite tx r = true) :
    s.regWrite1 tx r.toNat v = s.afterWrite tx (fun t =>
      let u := t.writeNow tx.port (s.fullWrite tx.port) (regOf r) v
      if (regOf r).atRise then u.leaves tx.port (.regAct r v) else u) := by
  simp only [State.mayWrite, State.takes, Bool.and_eq_true, Bool.not_eq_true'] at h
  obtain ⟨⟨⟨h1, h2⟩, h3⟩, h4⟩ := h
  have hr : (BitVec.ofNat 16 r.toNat).extractLsb' 0 12 = r := by
    apply BitVec.eq_of_toNat_eq
    simp only [BitVec.extractLsb'_toNat, BitVec.toNat_ofNat]
    have := r.isLt
    omega
  have hz : (BitVec.ofNat 16 r.toNat).extractLsb' 12 4 = 0#4 := by
    apply BitVec.eq_of_toNat_eq
    simp only [BitVec.extractLsb'_toNat, BitVec.toNat_ofNat]
    have := r.isLt
    rw [Nat.shiftRight_eq_div_pow]
    show r.toNat % 65536 / 4096 % 16 = 0
    omega
  have ht : (s.received tx 0x61).takeEntry tx.port r v =
      ((let u := ((s.received tx 0x61).modGlob (fun g => { g with regwrites := g.regwrites + 1 })).writeNow tx.port
          (s.fullWrite tx.port) (regOf r) v
        if (regOf r).atRise then u.leaves tx.port (.regAct r v) else u), .taken) := by
    simp only [State.takeEntry, State.received_ignoresWrite, State.received_fullWrite, h3, h4, Bool.false_eq_true, if_false,
      Bool.not_true]
    rfl
  simp only [State.regWrite1, State.regWrite, State.begin_listens s tx 0x61 false h1 (by decide)]
  rw [if_neg (by decide), show BitVec.toNat (1 : Byte) = 1 from rfl]
  simp only [List.take_succ_cons, List.take_zero, State.takeEntries, hr, hz, ht, State.inTime_received, h2, List.length_cons,
    List.length_nil, State.afterWrite]
  rfl

end Sys2Proof.Machine
end

