-- ==== Sys2Proof/WellFormed.lean ====
section
/-! DEFINITION. Which commands are well formed: operands within what the spec lets a sender or a sensor bring. -/
namespace Sys2Proof

/-- Flipped cells name stones of the transfer. -/
def flipsOk (n : Nat) (f : Flips) : Bool := f.all (fun e => decide (e.1 < n))

/-- The payload of a packet is still to come, or is `n` stones (R195). -/
def payloadOk (n : Nat) (l : Option (List Word)) : Bool := match l with
  | some w => w.length == n
  | none => true

/-- VCC as VCC_SENSE.MV can hold it, and a temperature of 8 bits (R548, R549). -/
def sensedOk (mv : Nat) (temp : Int) : Bool := decide (mv < 65536) && decide (-128 ≤ temp ∧ temp ≤ 127)

/-- Stones in the payload of a ledger LAY (R195). -/
def layPayload (count : BitVec 16) : Nat := if 1 ≤ count.toNat ∧ count.toNat ≤ 64 then count.toNat else 0

/-- A command is well formed.
Log entry 7 (DESIGN CHOICE). -/
def Instr.wf : Instr → Bool
  | .paceEdge _ inp => sensedOk inp.mv inp.temp
  | .boot inp => sensedOk inp.mv inp.temp
  | .lay _ _ count payload _ => payload.length == count.toNat
  | .ledgerLay _ pkt payload _ => payloadOk (layPayload pkt.count) payload
  | .haul _ _ payload _ => payloadOk 1 payload
  | .regwr _ count entries => decide (entries.length ≤ count.toNat)
  | .dispatch _ flips _ => flipsOk 8192 flips
  | .floor _ flips _ => flipsOk 8192 flips
  | _ => true

end Sys2Proof
end

