-- ==== Sys2Proof/Tests/Slice0.lean ====
section
/-! SUPPORT. Tests on fixed values: ill-formed commands are refused, worked examples of the spec come out as it prints them,
and every statement with hypotheses has states and operands that meet them, clause by clause (the theorems `witness_…`). -/
namespace Sys2Proof.Tests
-- one theorem after the other: closed goals are evaluated by the kernel, which each would otherwise wait for in a thread
set_option Elab.async false
open Sys2Proof Sys2Proof.Machine

/-! ### Small states -/

/-- A port whose CS# is low and whose period of 100,000 ps is declared. -/
def lowPort (n : PortId) : Port :=
  { Port.reset n with csLow := true, period := 100000, declared := true, periodNow := 100000, declaredNow := true }

/-- Port 0 holds pace, boot has ended, S00 is privileged, every gate is enabled, and the last pace edge crossed a tick. -/
def awake : State :=
  { State.reset with
    ports := State.reset.ports.set 0 (lowPort 0)
    pace := { Pace.reset with holder := some 0, qualified := true, crossed := 1 }
    boot := { Boot.reset with step := 0, cycles := 1 }
    life := { Life.reset with priv := 1 }
    gates := Vector.replicate 66 { Gate.reset with en := true, epoch := 1 } }

/-- As `awake`, with port 1 low too. -/
def two : State := { awake with ports := awake.ports.set 1 (lowPort 1) }

/-- As `awake`, in the boot step given. -/
def atStep (k : BitVec 3) : State := { awake with boot := { Boot.reset with step := k, cycles := 1 } }

def tx0 : Tx := { port := 0, compl := true, waited := 2, drift := [] }

def edgeIn (mv : Nat) : EdgeIn := {
  mv := mv, temp := 25, reglow := 0, selLow := 0, anxSck := 0, anxRds := 0, anxDq := 0, dq0 := false }

def bootIn (mv : Nat) : BootIn := { chipid := 0, bands := Vector.replicate 4 0, mv := mv, temp := 25 }

/-- A packet of subscriber S00 with a good CRC. -/
def pkt (op flags seq : Byte) (addr : BitVec 32) (count : BitVec 16) : Packet :=
  let k : Packet :=
    { alien := none, flags := flags, sub := 0, seq := seq, addr := addr, count := count, after := 0xFF, wait := 0xFF, signal := 0xFF, zero := 0, crc := 0 }
  { k with crc := crc16 (packetBytes k op) }

/-- An operation of S00 in ledger slot `k`, QUEUED, as its packet came. -/
def qop (op : Byte) (k : Fin 256) (id : Nat) (addr : BitVec 32) (count : BitVec 16) : Op :=
  { awake.opOf { op := op, pk := pkt op 0 1 addr count, port := some 0, payload := [], src := 0, badSrc := false, kind := .scrub } k with
    id := id, state := .queued, fresh := false }

def withOps (s : State) (l : List Op) : State := { s with ledger := { s.ledger with ops := l, nextId := 9 } }

/-! ### Ill-formed commands are refused -/

theorem smoke_paceEdge : Instr.wf (.paceEdge 0 (edgeIn 65536)) = false ∧ Instr.wf (.paceEdge 0 { edgeIn 3300 with temp := 128 }) = false := by
  decide
theorem smoke_boot : Instr.wf (.boot (bootIn 65536)) = false ∧ Instr.wf (.boot { bootIn 3300 with temp := -129 }) = false := by decide
theorem smoke_lay : Instr.wf (.lay tx0 0 1 [] 0) = false := by decide
theorem smoke_ledgerLay : Instr.wf (.ledgerLay tx0 (pkt opLay 0 1 0 1) (some []) 0) = false := by decide +kernel
theorem smoke_haul : Instr.wf (.haul tx0 (pkt opHaul 0 1 0 1) (some []) 0) = false := by decide +kernel
theorem smoke_regwr : Instr.wf (.regwr tx0 0 [(0, 0)]) = false := by decide
theorem smoke_dispatch : Instr.wf (.dispatch 0 [(8192, 0)] []) = false ∧ Instr.wf (.floor 0 [(8192, 0)] []) = false := by decide

/-! ### Values that the spec prints -/

/-- 05, CRC of the ASCII digits 1 to 9. -/
theorem test_crc_digits : crc16 [0x31, 0x32, 0x33, 0x34, 0x35, 0x36, 0x37, 0x38, 0x39] = 0x29B1 := by decide +kernel
/-- 05, the worked packet and its receipt. -/
theorem test_crc_packet : crc16 [0x01, 0x00, 0x02, 0x18, 0x0A, 0x34, 0x02, 0x00, 0x00, 0x40, 0x17, 0xFF, 0xFF, 0x00] = 0xC7A6
    ∧ crc16 [0x00, 0x00, 0x2B, 0x00, 0x00, 0x00] = 0x2741 := by decide +kernel
/-- 10, the increments of Table 10.6. -/
theorem test_vinc : vinc 512 48 = 2731 ∧ vinc 512 16 = 8192 := by decide +kernel
/-- 12, the journal as shipped: copy A at GEN 1 is the newer, both copies valid. -/
theorem test_journal_shipment : Plinth.shipment.jA.valid = true ∧ Plinth.shipment.jB.valid = true
    ∧ Plinth.shipment.newer = some false := by decide +kernel
/-- 07, a laid stone of zeros reads back; a cleared stone is unlaid and reads 1s. -/
theorem test_stone : (readStone (cellsOf 0)).laid = true ∧ (readStone (cellsOf 0)).data = 0
    ∧ (readStone cellsBlank).laid = false ∧ (readStone cellsBlank).data = 0xFFFFFFFFFFFFFFFF := by decide +kernel
/-- 10, three packets of Table 10.5: green, yellow and red, with what each leaves in the buckets. -/
theorem test_meter :
    let u := fun (tc tp : Nat) => { Sub.reset 0 with cir := 0x80000, cbs := 4096, pir := 0x100000, pbs := 8192, tc := tc * 65536, tp := tp * 65536 }
    let left := fun (v : Sub) => (v.tc / 65536, v.tp / 65536)
    (u 4096 8192).colourOf 512 = some .green ∧ left ((u 4096 8192).charged 512) = (3584, 7680)
    ∧ (u 128 4352).colourOf 512 = some .yellow ∧ left ((u 128 4352).charged 512) = (128, 3840)
    ∧ (u 272 32).colourOf 512 = none ∧ left ((u 272 32).charged 512) = (272, 32) := by decide +kernel

/-! ### Witnesses: the step, reset, invariants -/

theorem witness_MemoryStaysCanonical : Memory.wf awake.mem = true ∧ step awake = .next awake := by
  exact ⟨by decide +kernel, rfl⟩
theorem witness_StepTakesOneCommand : ∃ t, step { awake with pending := [.status tx0, .ident tx0] } = .next t := ⟨_, rfl⟩
theorem witness_CellsChangeOnlyHere : mayChangeCells (.status tx0) = false ∧ ∃ t, exec (.status tx0) awake = .next t :=
  ⟨rfl, _, rfl⟩
theorem witness_TimeMovesOnPaceEdges : movesTime (.status tx0) = false ∧ ∃ t, exec (.status tx0) awake = .next t :=
  ⟨rfl, _, rfl⟩
theorem witness_HolderStaysLow : awake.holderLow = true ∧ ∃ t, step { awake with pending := [.csRise 1 {
  late := 0, cuts := [] }] } = .next t :=
  ⟨by decide +kernel, _, rfl⟩
theorem witness_LedgerStaysWellFormed : (withOps awake [qop opSignal 0 5 0 0, qop opFetch 1 6 0 1]).ledgerOk = true
    ∧ ∃ t, step { withOps awake [qop opSignal 0 5 0 0, qop opFetch 1 6 0 1] with pending := [.signalComplete 0] } = .next t :=
  ⟨by decide +kernel, _, rfl⟩
theorem witness_QuietBlockStandsStill : State.reset.quiet = true ∧ isOutside .standstill = false ∧ isPinMove .wpLow = true := by
  decide +kernel

/-! ### Witnesses: resets, supply, pace -/

theorem witness_ResetsRebuildTheBlock : 1000 ≤ 1000 ∧ 99 < 100 ∧ 100 ≤ 100 ∧ 999 < 1000 := by decide
theorem witness_ResetKeepsOtherCells : (∃ t, exec (.powerOnReset false) awake = .next t)
    ∧ ∀ b : BankId, awake.worksOn b (0 / 10) = false := ⟨⟨_, rfl⟩, by decide +kernel⟩

/-- Bank 3 lays two stones of operation 5, its first pulse running: an open gate. -/
def laying : State :=
  { (withOps awake [{ qop opLay 0 5 0x06000000 2 with state := .running, work := .onBank, payload := [0, 1], tokens := 15 }]) with
    banks := awake.banks.set 3 { Bank.reset with
      state := .laying
      lay := some { op := 5, targets := [(16384, cellsOf 0), (16385, cellsOf 1)], verified := 0, relaid := false, denied := false,
                    held := false, copy := false, time := 10000000, blank := 0, pulses := 1,
                    pulse := some { elapsed := 10000000, width := 10000000, height := 8 }, stretch := 100 } } }

theorem witness_TripsCloseGates : awake.openBanks = [] ∧ laying.openBanks ≠ [] ∧ (laying.bank 3).gateOpen = true
    ∧ awake.power.detector = false ∧ { awake with power := { awake.power with detector := true } }.power.detector = true
    ∧ awake.pace.holder.isSome = true := by decide +kernel
theorem witness_PinsMove : (awake.port 0).low = true ∧ awake.pace.holder = some 0 ∧ awake.pace.sync = 0 ∧ (edgeIn 3630).mv ≤ 3630
    ∧ (0 : PortId).val / 2 = (0 : Fin 5).val ∧ ¬ (2 : PortId).val / 2 = (0 : Fin 5).val := by decide +kernel
theorem witness_FallTakesPace : State.reset.pace.policy = false ∧ State.reset.pace.holder = none
    ∧ ((6 : BitVec 8).getLsbD (1 : PortId).val && !(State.reset.port 1).csLow && !(State.reset.port 1).waitRise) = true
    ∧ (∀ q : PortId, q < 1 → (State.reset.port q).low = false
        ∧ ((6 : BitVec 8).getLsbD q.val && !(State.reset.port q).csLow && !(State.reset.port q).waitRise) = false)
    ∧ (State.reset.port 1).low = false ∧ ((6 : BitVec 8).getLsbD (3 : PortId).val && !(State.reset.port 3).csLow) = false
    ∧ awake.pace.holder = some 0 := by decide +kernel
theorem witness_RiseHandsPaceOver : two.pace.policy = false ∧ two.pace.holder = some 0
    ∧ ((1 : BitVec 8).getLsbD (0 : PortId).val && (two.port 0).csLow) = true
    ∧ (∀ p : PortId, ((1 : BitVec 8).getLsbD p.val && (two.port p).csLow) = true →
        (two.port p).atRise = [] ∧ (two.port p).upload = none ∧ (two.port p).chainFrame = false ∧ (two.port p).waitRise = false)
    ∧ (two.port 1).low = true
    ∧ (1 : BitVec 8).getLsbD (1 : PortId).val = false
    ∧ (∀ q : PortId, q < 1 → (two.port q).low = true → (1 : BitVec 8).getLsbD q.val = true)
    ∧ (∀ n : PortId, (awake.port n).low = true → (1 : BitVec 8).getLsbD n.val = true) := by decide +kernel
/-- Port 0 has a command phase behind it; or none, off plain mode, one short of SILENCE_LIMIT, or two. -/
theorem witness_RiseHandsPaceOver_phases :
    (two.modPort 0 (fun p => { p with txOp := some 0x60, armed := true })).pace.holder = some 0
    ∧ (two.port 0).txOp = none ∧ (two.port 0).plain = true
    ∧ (let s := two.modPort 0 (fun p => { p with mode := 1, plain := false, silenceLimit := 3, silent := 1 })
       (s.port 0).plain = false ∧ (s.port 0).trial = false ∧ (s.port 0).silent.toNat + 1 < (s.port 0).silenceLimit.toNat)
    ∧ (let s := two.modPort 0 (fun p => { p with mode := 1, plain := false, silenceLimit := 3, silent := 2 })
       (s.port 0).silent.toNat + 1 = (s.port 0).silenceLimit.toNat) := by decide +kernel
theorem witness_SynchronisingEdges :
    let s := { awake with pace := { awake.pace with sync := 1 } }
    (s.port 0).low = true ∧ s.pace.holder = some 0 ∧ 0 < s.pace.sync
    ∧ (let s := { two with pace := { awake.pace with oldPacer := some 1, oldSync := 1 } }
       (s.port 1).low = true ∧ s.pace.holder ≠ some 1 ∧ s.pace.oldPacer = some 1 ∧ 0 < s.pace.oldSync) := by decide +kernel
theorem witness_PaceEdgesAdvanceTime : (awake.port 0).low = true ∧ awake.pace.holder = some 0 ∧ awake.pace.sync = 0
    ∧ (edgeIn 3630).mv ≤ 3630 ∧ 3630 < (edgeIn 3631).mv ∧ awake.pace.devtime.toNat + (awake.port 0).edgePs < 2 ^ 64
    ∧ (awake.port 1).low = false ∧ (two.pace.holder ≠ some 1 ∧ two.pace.oldPacer ≠ some 1) := by decide +kernel

/-- Bank 4 clears a block for operation 6; its pulse has just passed its width. -/
def clearing : State :=
  { (withOps awake [{ qop opClear 1 6 0x08000000 1 with state := .running, work := .onBank, tokens := 20 }]) with
    banks := awake.banks.set 4 { Bank.reset with
      state := .clearing
      clear := some { op := 6, purpose := .operation, unit := .block 0, lblock := 0, held := false, verified := false, time := 0,
                      pulses := 1, pulse := some { elapsed := 4000000000, width := 4000000000, height := 0 }, stretch := 100, boundary := false,
                      serving := false, fireTime := 0, stage := 0, inClear := false, tokens := 0 } } }

theorem witness_PulsesAndPumpsEnd :
    laying.pace.qualified = true ∧ laying.power.brown = false ∧ (laying.bank 3).lay.isSome = true
    ∧ (laying.bank 3).lay.bind (·.pulse) = some ⟨10000000, 10000000, 8⟩
    ∧ (clearing.bank 4).lay = none ∧ (clearing.bank 4).clear.bind (·.pulse) = some ⟨4000000000, 4000000000, 0⟩
    ∧ (clearing.bank 4).clear.map (·.purpose) = some .operation
    ∧ (let s := laying.modBank 3 (fun k => { k with lay := k.lay.map (fun l => { l with pulse := some ⟨9999999, 10000000, 8⟩ }) })
       (s.bank 3).lay.bind (·.pulse) = some ⟨9999999, 10000000, 8⟩)
    ∧ (let s := awake.modGal 0 (fun g => { g with
        lpump := { g.lpump with running := true }, cpump := { g.cpump with running := true } })
       (s.gal 0).lpump.running = true ∧ (s.gal 0).lpump.override = false ∧ (s.gal 0).cpump.running = true
       ∧ (s.gal 0).cpump.override = false ∧ s.pace.holder.isSome = true) := by decide +kernel

/-! ### Witnesses: transactions -/

/-- A stone of bank 0, the first, laid as 0x0123. -/
def laidMem : List Host.Cell := writeCells [] 0 (cellsOf 0x0123)

/-- As `two`, with S01 privileged too. -/
def both : State := { two with life := { Life.reset with priv := 3 } }
/-- Port 1 has fetched from address 0: it is at bit `bits` of a reply whose data so far is `data`. -/
def fetchRun (raw : Bool) (index : Nat) : FetchRun :=
  { raw := raw, first := 0, addr := BitVec.ofNat 32 (8 * index), index := index, passed := false, ready := 0, rowAt := 0, flips := [], rx := [] }
def fetching (s : State) (raw : Bool) (data : List Byte) (bits : Nat) : State :=
  s.modPort 1 (fun p => { p with
    txOp := some 0x1B, cycle := 20, fetch := some (fetchRun raw (data.length / 8)), fetchBank := some 0, reading := true,
    reply := { silent := false, status := 0x40, data := data, feed := .stones, bits := bits, shown := [] } })

theorem witness_FetchDrivesStones : awake.takes tx0 = true ∧ awake.region (stoneAddr 7) = .main ∧ regionOf (stoneAddr 7) = .main
    ∧ awake.stoneMeets 0 .main false (stoneAddr 7) = .ready
    ∧ awake.region (stoneAddr 0xC0004000) = .unmapped
    ∧ awake.region 0xC0000000 = .marks ∧ awake.stoneMeets 0 .marks false 0xC0000000 = .ready
    ∧ awake.region 0xC0010000 = .info ∧ awake.stoneMeets 0 .info false 0xC0010000 = .ready := by decide +kernel
theorem witness_FetchDrivesStones_next :
    (let s := fetching both false (be64 5) 72
     s.owesNext 1 = true ∧ (s.port 1).reply.feed = .stones ∧ (s.port 1).fetch = some (fetchRun false 1) ∧ (s.port 1).hold = none
     ∧ (windowOf (fetchRun false 1).addr).isSome = false ∧ s.ripe (fetchRun false 1) = true
     ∧ s.stoneMeets 1 (regionOf (fetchRun false 1).first) false (fetchRun false 1).addr = .ready)
    ∧ (let s := fetching both false (be64 5) 71
       s.sendsLast 1 = true ∧ (s.port 1).reply.data ≠ []) := by decide +kernel
/-- Slot 0 of bank 0 is in KILN. -/
def inKiln : State := awake.modBank 0 (fun k => { k with kept := k.kept.setSlot 0 0 .kiln })

theorem witness_RawFetchDrivesCells : awake.takes tx0 = true ∧ awake.rawMeets (paddrBank 0) (stoneAddr 0) = .ready
    ∧ awake.rawOpen (paddrBank 0) 0 = false ∧ inKiln.takes tx0 = true ∧ inKiln.rawMeets (paddrBank 0) (stoneAddr 0) = .ready
    ∧ inKiln.rawOpen (paddrBank 0) 0 = true
    ∧ (let s := fetching both true [] 8
       s.owesNext 1 = true ∧ (s.port 1).fetch = some (fetchRun true 0) ∧ s.ripe (fetchRun true 0) = true
       ∧ s.rawMeets (paddrBank (fetchRun true 0).first) (fetchRun true 0).addr = .ready)
    ∧ (let s := { awake with life := { awake.life with level := 1 } }
       s.takes tx0 = true ∧ s.isOpen = false) := by decide +kernel

def holdAt (after : Bool) (ticks : Nat) : Hold := { afterStatus := after, ticks := ticks, limit := 3 }
/-- Port 1's fetch of block 0 is held; its bank serves. -/
def holding (after : Bool) (ticks : Nat) : State :=
  (fetching both false [] 0).modPort 1 (fun p => { p with hold := some (holdAt after ticks) })
/-- The same, its bank clearing another block. -/
def busyBank0 (s : State) : State :=
  { s with banks := s.banks.set 0 { clearing.bank 4 with clear := (clearing.bank 4).clear.map (fun c => { c with lblock := 9 }) } }
/-- Port 0 in 1S+S with a HOLD_LIMIT. -/
def patient : State := awake.modPort 0 (fun p => { p with mode := 8, plain := false, holdLimitNow := 3 })

theorem witness_HeldFetchesEnd :
    ((busyBank0 patient).takes tx0 = true ∧ (busyBank0 patient).stoneMeets 0 .main false (stoneAddr 0) = .waits
     ∧ ((busyBank0 patient).port 0).holds? = true ∧ (busyBank0 awake).takes tx0 = true
     ∧ (busyBank0 awake).stoneMeets 0 .main false (stoneAddr 0) = .waits ∧ ((busyBank0 awake).port 0).holds? = false)
    ∧ ((holding true 2).pace.holder.isSome = true ∧ ((holding true 2).port 1).hold = some (holdAt true 2)
       ∧ ((holding true 2).port 1).fetch = some (fetchRun false 0) ∧ (holding true 2).holdOver (holdAt true 2) = false
       ∧ (fetchRun false 0).source.bank (fetchRun false 0).addr = some 0
       ∧ (holding true 2).fetchMeetsNext 1 (fetchRun false 0) = .ready
       ∧ (holding false 2).fetchMeetsNext 1 (fetchRun false 0) = .ready)
    ∧ ((busyBank0 (holding true 3)).fetchMeetsNext 1 (fetchRun false 0) = .waits ∧ (holding true 4).holdOver (holdAt true 4) = true
       ∧ (holdAt true 3).limit.toNat ≤ (holdAt true 3).ticks ∧ (holdAt false 3).limit.toNat ≤ (holdAt false 3).ticks
       ∧ (busyBank0 (holding false 3)).fetchMeetsNext 1 (fetchRun false 0) = .waits
       ∧ (holdAt true 2).ticks < (holdAt true 2).limit.toNat) := by decide +kernel

/-- As `awake`, with port 0 armed. -/
def armed : State := awake.modPort 0 (fun p => { p with armed := true })
def ones (n : Nat) : List Word := List.replicate n 1

theorem witness_DirectOperationsCommit : armed.takes tx0 = true ∧ armed.directOk 0 opLay 0 64 = true
    ∧ armed.directOk 0 opLay 0x1F8 1 = true
    ∧ (ones 64).length = (64 : Byte).toNat ∧ withinRow 0 64 = true ∧ withinRow 0x1F8 1 = true ∧ (0x1F8 : BitVec 32) &&& 7 = 0
    ∧ armed.directOk 0 opClear 0x10000 1 = true ∧ (0x10000 : BitVec 32) &&& 0xFFFF = 0 := by decide +kernel
theorem witness_DirectFootingCommits : armed.directOk 0 opClearFoot 0x1000 1 = true ∧ (0x1000 : BitVec 32) &&& 0xFFF = 0
    ∧ regionOf 0x1000 = .main ∧ isFooting (bankIx (addrBank 0x1000)) (addrBlock 0x1000) = true := by decide +kernel
theorem witness_UnarmedIsNotCarriedOut : awake.takes tx0 = true ∧ (awake.port 0).armed = false
    ∧ (ones 1).length = (1 : Byte).toNat ∧ withinRow 0x1F8 (1 : Byte).toNat = true
    ∧ (ones 64).length = (64 : Byte).toNat ∧ withinRow 0 (64 : Byte).toNat = true := by decide +kernel
theorem witness_SuspendAndResume : clearing.takes tx0 = true ∧ clearing.suspendable 0x08000000 = true
    ∧ 4 = bankIx (addrBank 0x08000000) ∧ (clearing.bank 4).state = .clearing
    ∧ (let s := clearing.modBank 4 (fun k => { k with state := .suspended })
       s.takes tx0 = true ∧ (s.bank 4).isSuspended = true)
    ∧ (let s := clearing.modBank 4 (fun k => { k with run := 1024 })
       (s.bank 4).minrun.toNat ≤ (s.bank 4).run) := by decide +kernel
theorem witness_ReadingTransactions : awake.listens tx0 = true ∧ awake.takes tx0 = true ∧ awake.drives 0 = true
    ∧ 64 ≤ (awake.port 0).lenNow.toNat - (if (awake.port 0).txMode.extractLsb' 0 3 = 7 then 16 else 8)
    ∧ (awake.received tx0 0x60).badSelection 0x001 = false := by decide +kernel
theorem witness_RegrdOfBadNumber : awake.takes tx0 = true ∧ (0x1001 : BitVec 16).extractLsb' 12 4 ≠ 0 := by decide +kernel

def entry : BitVec 12 × Word := (0x081, 1)
theorem witness_RegwrTakesEntries : awake.takes tx0 = true ∧ [entry].length = (1 : Byte).toNat
    ∧ (List.replicate 16 entry).length = (16 : Byte).toNat
    ∧ (atStep 7).ignoresWrite 0x081 = true ∧ awake.ignoresWrite 0x081 = false ∧ (awake.fullWrite 1 || openWrite 1 0x011) = false
    ∧ (awake.fullWrite 0 || openWrite 0 0x011) = true ∧ regOf 0xFFF = .unimplemented := by decide +kernel
theorem witness_RegwrRefusesBadForm : awake.takes tx0 = true ∧ (0 : Byte).toNat < 1 ∧ 16 < (17 : Byte).toNat
    ∧ [entry].length + 1 + ([] : List (BitVec 16 × Word)).length = (2 : Byte).toNat
    ∧ (0x1081 : BitVec 16).extractLsb' 12 4 ≠ 0 := by decide +kernel

/-- A FETCH record of one staged stone, for S00. -/
def recorded : State :=
  let s := withOps awake [{ qop opFetch 2 7 0 1 with
    state := .complete, result := rDone, units := 1, yard := some 3, fetched := [0x0123] }]
  { s with ledger := { s.ledger with yard := [{ slot := 3, owner := 7, data := [] }], nextDone := 1 } }

theorem witness_CollectDrivesRecords : recorded.takes tx0 = true ∧ recorded.booting = false
    ∧ (match oldest (recorded.collectable 0 []) with | some o => decide (o.id = 7 ∧ o.block.length ≤ 64) | none => false) = true := by
  decide +kernel
theorem witness_CollectOfBadMode : awake.takes tx0 = true ∧ (1 : BitVec 7) ≠ 0 := by decide +kernel
theorem witness_SoftResetIsPrivileged : awake.takes tx0 = true ∧ awake.privileged (awake.port 0).dflt.toFin = true
    ∧ (two.takes { tx0 with port := 1 } = true ∧ two.privileged (two.port 1).dflt.toFin = false)
    ∧ (0x0E : Byte) ≠ 0x0F := by decide +kernel
theorem witness_UnknownOpcodes : awake.hears 0 = true ∧ tx0.compl = true ∧ knownOpcode 0x00 = false ∧ knownOpcode 0xFF = false := by
  decide +kernel

/-- Port 0 on trial in mode 4D, and after a good SWEEP. -/
def onTrial : State := awake.modPort 0 (fun p => { p with trial := true, trialMode := 2 })
def sweptTrial : State := onTrial.modPort 0 (fun p => { p with swept := true })
/-- Codes 4 to 7 pass on every lane; on none. -/
def passAll : Vector (BitVec 32) 8 := Vector.replicate 8 0xF0
def passNone : Vector (BitVec 32) 8 := Vector.replicate 8 0

theorem witness_Training : awake.takes tx0 = true
    ∧ (let permitted := fun (k : BitVec 4) => k ∈ validCodes ∧ (0x0007 : BitVec 16).getLsbD k.toNat = true
        ∧ permits (if (awake.port 0).declared then (awake.port 0).period.toNat else 20000) (awake.bandOf 0 0) k = true
       permitted 2 ∧ ∀ k, permitted k → codeRank k ≤ codeRank 2)
    ∧ onTrial.takesOnTrial tx0 = true ∧ (∀ k ∈ trialLanes (onTrial.port 0).trialMode, (tapFor passAll[k.val]).isSome = true)
    ∧ (∃ k ∈ trialLanes (onTrial.port 0).trialMode, tapFor passNone[k.val] = none)
    ∧ sweptTrial.takesOnTrial tx0 = true ∧ (sweptTrial.port 0).swept = true := by decide +kernel

def chained : State := awake.modPort 0 (fun p => { p with chainFrame := true, chainEn := true })
def seg (action : Byte) : ChainSeg :=
  { magic := 0xC4, target := 0x80, action := action, regnum := 0x0081, value := 1, pad := 0,
    crc := crc16 ([0xC4, 0x80, action] ++ be16 0x0081 ++ be64 1 ++ [0]) }

theorem witness_ChainFrames : (chained.port 0).low = true ∧ (chained.port 0).chainFrame = true ∧ (chained.port 0).atRise = []
    ∧ (4096 = (chained.port 0).lenNow.toNat ∧ (seg 2).action.toNat ≤ 2 ∧ (seg 2).target.getLsbD 7 = true
       ∧ (seg 2).target.extractLsb' 3 4 = 0 ∧ (seg 2).regnum.extractLsb' 12 4 = 0) := by decide +kernel

/-! ### Witnesses: packets -/

/-- Sealed, as after a LEVEL_RAISE to 1. -/
def sealed : State := { awake with life := { awake.life with level := 1 } }
def haulWord : Word := 0x0000010000000000
def accepts (s : State) (op : Byte) (pk : Packet) (payload : Option (List Word × BitVec 16)) : Bool :=
  payloadGood op pk payload && s.framed tx0 op pk && s.admits 0 (askOf 0 op pk [])
def paid (l : List Word) : Option (List Word × BitVec 16) := some (l, crc16 (l.flatMap be64))

theorem witness_PacketsAreQueued_array : accepts awake opFetch (pkt opFetch 0 1 0 64) none = true
    ∧ accepts awake opFetch (pkt opFetch 3 0xFF 0x1F8 1) none = true
    ∧ accepts awake opLay (pkt opLay 0 2 0 2) (paid (ones 2)) = true
    ∧ accepts awake opLay (pkt opLay 0 2 0x1F8 1) (paid (ones 1)) = true
    ∧ accepts awake opClear (pkt opClear 0 3 0x02000000 512) none = true
    ∧ accepts awake opClearFoot (pkt opClearFoot 0 4 0x1000 15) none = true
    ∧ accepts awake opHaul (pkt opHaul 0 5 0 1) (paid [haulWord]) = true := by decide +kernel
theorem witness_PacketsAreQueued_rest : accepts awake opKiln (pkt opKiln 0 6 0x02000000 543) none = true
    ∧ accepts awake opRepoint (pkt opRepoint 0 7 0x02010000 1) none = true
    ∧ accepts awake opSignal (pkt opSignal 0 8 0 0) none = true
    ∧ accepts awake opFence (pkt opFence 0 9 0 0) none = true
    ∧ accepts awake opSuspend (pkt opSuspend 0 10 0x02000000 0) none = true
    ∧ accepts awake opResume (pkt opResume 0 11 0x02000000 0) none = true
    ∧ opRepoint ≠ opCancel ∧ opRepoint ≠ opLevelRaise ∧ opRepoint ≠ opRegress := by decide +kernel
theorem witness_PacketsAreQueued_shape (k : Packet) : packetOf (.repoint tx0 k) = some (tx0, opRepoint, k, none) := rfl
theorem witness_PacketsAreQueued_openShape (k : Packet) : packetOf (.ledgerLay tx0 k none 0) = some (tx0, opLay, k, none) := rfl
theorem witness_PacketsAreQueued_open : payloadStones opLay (pkt opLay 0 2 0 2) ≠ 0 ∧ awake.framed tx0 opLay (pkt opLay 0 2 0 2) = true
    ∧ awake.admits 0 (askOf 0 opLay (pkt opLay 0 2 0 2) []) = true ∧ awake.ledgerOk = true
    ∧ payloadStones opHaul (pkt opHaul 0 5 0 1) ≠ 0 := by decide +kernel

/-- S00 has a FETCH queued, with sequence 1. -/
def queuedFetch : State :=
  (withOps awake [qop opFetch 0 5 0x02000000 1]).modSub 0 (fun u => { u with last := 1, dedup := [{ seq := 1, op := 5, result := none }] })

theorem witness_CancelCompletes : queuedFetch.ledgerOk = true ∧ accepts queuedFetch opCancel (pkt opCancel 0 2 1 0) none = true
    ∧ (match ((queuedFetch.received tx0 0x7E).modSub 0 (fun u => u.remember 2 queuedFetch.ledger.nextId)).cancelTarget 1 with
      | some x => decide (x.id = 5 ∧ x.state = .queued ∧ x.opcode ≠ opRegress ∧ x.opcode ≠ opLevelRaise ∧ x.opcode ≠ opCancel)
      | none => false) = true := by decide +kernel
theorem witness_LevelPacketsStart : awake.ledgerOk = true
    ∧ accepts awake opLevelRaise (pkt opLevelRaise 0 2 0x5345414C 1) none = true
    ∧ accepts awake opLevelRaise (pkt opLevelRaise 0 2 0x424F554E 2) none = true
    ∧ awake.journalFree = true
    ∧ (pkt opLevelRaise 0 2 0x5345414C 1).after = 0xFF ∧ (pkt opLevelRaise 0 2 0x5345414C 1).wait = 0xFF
    ∧ (∀ o ∈ awake.ledger.ops, o.opcode ≠ opLevelRaise ∧ (o.opcode = opFence → o.state = .complete))
    ∧ accepts sealed opRegress (pkt opRegress 0 2 0x52454752 0) none = true := by decide +kernel

/-! ### Witnesses: register writes -/

theorem witness_DeclaringAPeriod : awake.mayWrite tx0 (BitVec.ofNat 12 (0x103 + 0x20 * (7 : PortId).val)) = true
    ∧ ((0 : Word).extractLsb' 0 32 = 0) ∧ ((4999 : Word).extractLsb' 0 32).toNat ≤ 4999
    ∧ ¬ ((5000 : Word).extractLsb' 0 32).toNat ≤ 4999 := by decide +kernel
theorem witness_PortRegisters : awake.mayWrite tx0 0x008 = true ∧ awake.mayWrite tx0 (BitVec.ofNat 12 (0x101 + 0x20 * 7)) = true
    ∧ awake.mayWrite tx0 (BitVec.ofNat 12 (0x102 + 0x20 * 7)) = true ∧ awake.mayWrite tx0 (BitVec.ofNat 12 (0x113 + 0x20 * 7)) = true
    ∧ awake.mayWrite tx0 (BitVec.ofNat 12 (0x106 + 0x20 * 7)) = true
    ∧ ((0 : Word).getLsbD 0 = false ∧ awake.pace.holder.isSome = true)
    ∧ (1 : Word).getLsbD 1 = (awake.port 7).booten ∧ (2 : Word).getLsbD 1 ≠ (awake.port 7).booten := by decide +kernel
theorem witness_LedgerRegisters : awake.mayWrite tx0 (BitVec.ofNat 12 (0x306 + 8 * 31)) = true
    ∧ awake.mayWrite tx0 0x08A = true ∧ awake.fullWrite 0 = true
    ∧ (two.mayWrite { tx0 with port := 1 } 0x08A = true ∧ two.fullWrite 1 = false)
    ∧ awake.mayWrite tx0 0x081 = true ∧ awake.mayWrite tx0 0x082 = true ∧ awake.mayWrite tx0 0x084 = true
    ∧ awake.opOfSlot ((0 : Word).extractLsb' 0 8).toFin = none
    ∧ (queuedFetch.opOfSlot ((0 : Word).extractLsb' 0 8).toFin).isSome = true := by decide +kernel
theorem witness_SchedulingRegisters : awake.mayWrite tx0 (BitVec.ofNat 12 (0x300 + 8 * 31)) = true
    ∧ awake.mayWrite tx0 (BitVec.ofNat 12 (0x301 + 8 * 31)) = true ∧ awake.mayWrite tx0 (BitVec.ofNat 12 (0x304 + 8 * 31)) = true
    ∧ awake.mayWrite tx0 0x480 = true ∧ awake.mayWrite tx0 0x04C = true ∧ awake.mayWrite tx0 0x041 = true
    ∧ awake.mayWrite tx0 0x042 = true ∧ awake.mayWrite tx0 0xE40 = true := by decide +kernel
theorem witness_LoopRegisters : awake.mayWrite tx0 0x732 = true ∧ awake.mayWrite tx0 0x733 = true
    ∧ awake.mayWrite tx0 (BitVec.ofNat 12 (0x603 + 4 * 63)) = true ∧ awake.mayWrite tx0 (BitVec.ofNat 12 (0x048 + 3)) = true
    ∧ awake.mayWrite tx0 (BitVec.ofNat 12 (0x054 + 3)) = true ∧ awake.mayWrite tx0 (BitVec.ofNat 12 (0x050 + 3)) = true
    ∧ 2 ≤ ((0x2020 : Word).extractLsb' 12 4).toNat ∧ ((0x8080 : Word).extractLsb' 12 4).toNat ≤ 8
    ∧ 2 ≤ ((0x2020 : Word).extractLsb' 4 4).toNat ∧ ((0x8080 : Word).extractLsb' 4 4).toNat ≤ 8 := by decide +kernel

/-- Gate 0 disabled, its regions as given from number 0 on. -/
def gated (regs : List Word) : State :=
  awake.modGate 0 (fun g => { g with en := false, regions := Vector.ofFn (fun i => regs.getD i.val 0) })
/-- SIZE 12 at block 0 of bank 0, enabled; SIZE 25 over the bank; SIZE 11. -/
def regionA : Word := 0x601
def regionB : Word := 0xC81
def regionBad : Word := 0x581

theorem witness_GateRegisters :
    let bad := fun (s : State) (i : Fin 8) => regEn (s.gate 0).regions[i.val] = true ∧ regWellFormed 0 (s.gate 0).regions[i.val] = false
    let clash := fun (s : State) (i j : Fin 8) => i < j ∧ regEn (s.gate 0).regions[i.val] = true ∧ regEn (s.gate 0).regions[j.val] = true
      ∧ regOverlap (s.gate 0).regions[i.val] (s.gate 0).regions[j.val] = true
    (gated [regionA]).mayWrite tx0 (BitVec.ofNat 12 (0x800 + 0x10 * (0 : GateId).val)) = true ∧ ((gated [regionA]).gate 0).en = false
    ∧ (2 : Word).getLsbD 3 = false ∧ ((∀ i, ¬ bad (gated [regionA]) i) ∧ ∀ i j, ¬ clash (gated [regionA]) i j)
    ∧ (bad (gated [0, regionBad]) 1 ∧ ∀ j, j < 1 → ¬ bad (gated [0, regionBad]) j)
    ∧ ((∀ k, ¬ bad (gated [0, regionA, regionB]) k) ∧ clash (gated [0, regionA, regionB]) 1 2
       ∧ ∀ k l, k < 1 ∨ (k = 1 ∧ l < 2) → ¬ clash (gated [0, regionA, regionB]) k l)
    ∧ awake.mayWrite tx0 (BitVec.ofNat 12 (0x800 + 0x10 * (65 : GateId).val)) = true ∧ (awake.gate 65).en = true := by decide +kernel
theorem witness_LevelRegisters : awake.mayWrite tx0 0x011 = true ∧ awake.mayWrite tx0 0x710 = true ∧ awake.mayWrite tx0 0x720 = true
    ∧ awake.isOpen = true ∧ sealed.isOpen = false ∧ awake.pins.wp = true ∧ (0x10001 : Word).extractLsb' 0 32 ≠ 0 := by decide +kernel

/-- Partner 0 of annex 0 maps 64 KiB from 0x80000000, enabled, ready, and large enough; partner 1 is off, from 0x80010000. -/
def partnered : State :=
  { awake with annex := awake.annex.set 0 { Annex.reset with
      en := true
      partners := Vector.ofFn (fun i => if i.val = 0 then { Partner.reset with en := true, base := 0, state := 2, effsize := 16, page := 8 }
        else if i.val = 1 then { Partner.reset with base := 1 } else Partner.reset) } }

theorem witness_AnnexRegisters : partnered.mayWrite tx0 (BitVec.ofNat 12 (0x202 + 0x20 * (1 : AnnexId).val)) = true
    ∧ partnered.mayWrite tx0 (BitVec.ofNat 12 (0x208 + 0x20 * (0 : AnnexId).val + (1 : PartnerId).val)) = true
    ∧ (partnered.partner 0 1).en = false ∧ (partnered.partner 0 2).en = false
    ∧ partnered.mayWrite tx0 (BitVec.ofNat 12 (0x203 + 0x20 * (0 : AnnexId).val)) = true
    ∧ partnered.mayWrite tx0 (BitVec.ofNat 12 (0x200 + 0x20 * (0 : AnnexId).val)) = true
    ∧ partnered.mayWrite tx0 (BitVec.ofNat 12 (0x214 + 0x20 * (0 : AnnexId).val + (3 : PartnerId).val)) = true
    ∧ (1 : Word).getLsbD 0 = true ∧ (1 : Word).getLsbD 3 = false := by decide +kernel
theorem witness_RegisterActsAtRise : (two.modPort 1 (fun p => { p with txOp := some 0x61, atRise := [.regAct 0x048 0x1010] })).endsWith 1
    (.regAct 0x048 0x1010) = true := by decide +kernel

/-! ### Witnesses: work on pace edges -/

theorem witness_SignalAndFenceComplete :
    (let o := qop opSignal 0 5 0 0
     let s := withOps awake [o]
     s.ledgerOk = true ∧ s.onTime orderEvents = true ∧ s.opOfSlot 0 = some o ∧ o.state = .queued ∧ o.fresh = false ∧ s.linksOk o = true)
    ∧ (let o := qop opFence 1 5 0 0
       let s := withOps awake [o]
       s.ledgerOk = true ∧ s.opOfSlot 1 = some o ∧ s.linksOk o = true ∧ s.earlierDone o = true) := by decide +kernel

/-- A REGRESS at level SEALED, nothing else in the ledger: drained. -/
def regressOp5 : Op := qop opRegress 0 5 0x52454752 0
def draining5 (wp : Bool) : State :=
  { withOps sealed [regressOp5] with life := { sealed.life with phase := 1 }, pins := { Pins.reset with wp := wp } }
/-- Regression pending, its clears running. -/
def regressing (m : List Host.Cell) : State :=
  { withOps sealed [{ regressOp5 with state := .running, work := .lifecycle }] with
    life := { sealed.life with phase := 2, regPending := true }, mem := m }
def journalWrite (p : JPurpose) : JWrite :=
  { copy := true, w0 := recordWord0 kLevelSet 1 2, w1 := recordWord1 (recordWord0 kLevelSet 1 2) 0, purpose := p }
def writing (s : State) (p : JPurpose) : State := { s with plinth := { s.plinth with jwrite := some (journalWrite p) } }
def copying (second : Bool) : State :=
  { awake with plinth := { awake.plinth with queue := [.config CfgRec.shipment, .config CfgRec.shipment], begun := true, second := second } }

theorem witness_LifeCycleRuns : (draining5 false).pace.holder.isSome = true ∧ (draining5 false).regressOp = some regressOp5
    ∧ (draining5 true).regressOp = some regressOp5
    ∧ (draining5 true).draining = true ∧ (draining5 true).drained regressOp5 = true ∧ (draining5 true).plinth.jwrite = none
    ∧ (draining5 false).pins.wp = false ∧ (draining5 true).levelNow = 1
    ∧ (let s := regressing laidMem
       s.life.regPending = true ∧ s.booting = false ∧ s.life.phase = 2 ∧ s.life.stuck = false ∧ s.regressionRuns 0 = false
       ∧ s.regressionRuns 3 = false ∧ s.nextUnit 0 s.life.cursor[0] = some 0
       ∧ s.blankRange (unitRange 0).1 (unitRange 0).2 = false ∧ (s.bank (posBank 0)).state = .idle ∧ s.fits s.tokClear = true)
    ∧ (regressing []).blankRange (unitRange 0).1 (unitRange 0).2 = true
    ∧ (regressing laidMem).nextUnit 3 0 = some 1632
    ∧ (writing awake (.raise 5)).plinth.jwrite = some (journalWrite (.raise 5)) ∧ (writing awake (.raise 5)).plinthRuns = true
    ∧ (writing awake (.raise 5)).life.regPending = false
    ∧ (writing (draining5 true) .begin).plinthRuns = true ∧ (writing (regressing []) .done).plinthRuns = true
    ∧ (copying false).plinthRuns = true ∧ (copying true).plinth.begun = true ∧ (copying true).life.regPending = false := by decide +kernel

def layOp (k : Fin 256) (n : Nat) : Op := { qop opLay k 5 0x06000000 (BitVec.ofNat 16 n) with payload := ones n }
def floorOp : Op := { qop opRepoint 4 5 0x06000000 1 with sub := 31, kind := .scrub, floorTicks := 0x4000 }

theorem witness_DispatchStarts :
    (let o := qop opFetch 0 5 0x06000000 1
     let s := withOps awake [o]
     s.onTime (orderGallery 3) = true ∧ s.ledger.ops = [o] ∧ o.state = .queued ∧ o.gal = 3 ∧ o.house = false ∧ s.eligible o = true
     ∧ (s.gal 3).busy = false ∧ regionOf o.addr = .main ∧ (s.bank (bankIx (addrBank o.addr))).state = .idle
     ∧ s.life.regPending = false ∧ o.isDirect = false ∧ o.fetched = [] ∧ o.result = 0xFF ∧ 1 ≤ o.count.toNat
     ∧ s.gatesPass o false [o.addr] = true)
    ∧ (let o := layOp 0 64
       let s := withOps awake [o]
       o.gal = 3 ∧ s.eligible o = true ∧ o.units = 0 ∧ o.payload ≠ [] ∧ s.gatesPass o true (stonesFrom o.addr o.payload.length) = true)
    ∧ (let s := withOps awake [floorOp]
       floorOp.gal = 3 ∧ floorOp.house = true ∧ s.eligible floorOp = true ∧ (s.gal 3).busy = false ∧ s.power.reserved = none
       ∧ 0 < s.upkeep.floorwait.toNat ∧ s.upkeep.floorwait.toNat ≤ floorOp.floorTicks) := by decide +kernel

/-- TOKENWAIT 1024, a clear that holds 55 of the 60 mA, and a LAY short for as many ticks. -/
def shortOp : Op := { layOp 0 1 with short := 1024, shortAt := some 0 }
def shortOf : State := withOps awake [{ qop opClear 1 6 0x08000000 1 with state := .running, work := .onBank, tokens := 55 }, shortOp]
/-- Bank 3 holds a clear of block 0 suspended; a LAY of S00 names that block. -/
def unsettledS : State :=
  { withOps awake [{ qop opClear 1 6 0x06000000 1 with state := .suspended, work := .onBank }, layOp 0 1] with
    banks := awake.banks.set 3 { Bank.reset with
      state := .suspended
      clear := (clearing.bank 4).clear.map (fun c => { c with pulse := none }) } }

theorem witness_ReservationAndUnsettled : shortOf.ledgerOk = true ∧ shortOf.tokenWait ≠ 0 ∧ shortOf.power.reserved = none
    ∧ shortOp ∈ shortOf.ledger.ops ∧ shortOf.qualifies shortOp = true
    ∧ shortOf.onTime orderReserve = true
    ∧ (∀ x ∈ shortOf.ledger.ops, x.id ≠ shortOp.id → shortOf.qualifies x = true →
        (let age := fun (y : Op) => shortOf.since (y.shortAt.getD shortOf.pace.devtime)
         age x < age shortOp ∨ (age x = age shortOp ∧ shortOp.tieRank < x.tieRank)))
    ∧ awake.onTime orderReserve = true ∧ (∀ x ∈ awake.ledger.ops, awake.qualifies x = false)
    ∧ placeOf .sample = some orderSample ∧ State.reset.onTime orderSample = false
    ∧ ({ awake with pace := { awake.pace with stage := orderReserve } } : State).onTime orderHouse = false
    ∧ unsettledS.ledgerOk = true ∧ unsettledS.onTime orderEnds = true ∧ unsettledS.opOfRef (.slot 0) = some (layOp 0 1)
    ∧ unsettledS.laysUnsettled (layOp 0 1) = true := by decide +kernel

/-- The lay of `laying`, its last pulse over, with `v` verified after `t` ps. -/
def laidRun (v : BitVec 64) (t : Nat) : LayRun :=
  { op := 5, targets := [(16384, cellsOf 0), (16385, cellsOf 1)], verified := v, relaid := false, denied := false, held := false,
    copy := false, time := t, blank := 0, pulses := 2, pulse := none, stretch := 100 }
def laid (v : BitVec 64) (t : Nat) : State := laying.modBank 3 (fun k => { k with lay := some (laidRun v t) })
def layOp5 : Op := { qop opLay 0 5 0x06000000 2 with state := .running, work := .onBank, payload := [0, 1], tokens := 15 }

theorem witness_LayEndLeavesTargets : (laid 3 0).ledgerOk = true ∧ Memory.wf (laid 3 0).mem = true ∧ (laid 3 0).onTime orderEnds = true
    ∧ ((laid 3 0).bank 3).lay = some (laidRun 3 0) ∧ ((laid 3 0).bank 3).state ≠ .nestlay ∧ 0 < (laidRun 3 0).pulses
    ∧ (laid 3 0).op? 5 = some layOp5 ∧ layOp5.opcode = opLay ∧ ((laidRun 3 0).targets.map (·.1)).Nodup
    ∧ (∀ i, i < (laidRun 3 0).targets.length → (laidRun 3 0).verified.getLsbD i = true)
    ∧ (1 < (laidRun 1 73300000).targets.length ∧ ¬ (laidRun 1 73300000).verified.getLsbD 1 = true)
    ∧ (laidRun 1 73300000).maxPs ≤ (laidRun 1 73300000).time := by decide +kernel

def clearOp6 : Op := { qop opClear 1 6 0x08000000 1 with state := .running, work := .onBank, tokens := 20 }
def clearRun6 (ok : Bool) (t : Nat) : ClearRun :=
  { op := 6, purpose := .operation, unit := .block 0, lblock := 0, held := false, verified := ok, time := t, pulses := 1, pulse := none,
    stretch := 100, boundary := false, serving := false, fireTime := 0, stage := 0, inClear := false, tokens := 0 }
def cleared (ok : Bool) (t : Nat) : State := clearing.modBank 4 (fun k => { k with clear := some (clearRun6 ok t) })
def kilnOp6 : Op := { qop opKiln 1 6 0x08000000 520 with state := .running, work := .onBank, tokens := 20 }
def fireRun (inClear : Bool) : ClearRun :=
  { clearRun6 inClear 0 with purpose := .firing, unit := .block 520, lblock := 520, inClear := inClear, fireTime := 350000000000 }
def firing (inClear : Bool) : State :=
  withOps (clearing.modBank 4 (fun k => { k with state := .firing, clear := some (fireRun inClear) })) [kilnOp6]

theorem witness_ClearEndLeavesBlank : (cleared true 0).ledgerOk = true ∧ (cleared true 0).onTime orderEnds = true
    ∧ (firing true).onTime orderEnds = true ∧ (firing true).pace.qualified = true ∧ (firing true).power.brown = false
    ∧ ({ firing false with pace := { (firing false).pace with qualified := false } } : State).onTime orderEnds = true ∧ ((cleared true 0).bank 4).clear = some (clearRun6 true 0)
    ∧ ((cleared true 0).bank 4).state = .clearing ∧ (cleared true 0).op? 6 = some clearOp6
    ∧ countsUnit clearOp6 (.block 0) = true ∧ clearOp6.marked = false ∧ (clearOp6.units + 1).toNat = clearOp6.count.toNat
    ∧ (clearRun6 false 160000000000).maxPs ≤ (clearRun6 false 160000000000).time
    ∧ ((firing false).bank 4).clear = some (fireRun false) ∧ ((firing false).bank 4).state = .firing
    ∧ stagePs (fireRun false).stage ≤ (fireRun false).fireTime
    ∧ (firing true).ledgerOk = true ∧ ((firing true).bank 4).clear = some (fireRun true) ∧ (firing true).op? 6 = some kilnOp6
    ∧ (firing true).pins.wp = true ∧ ((firing true).bank 4).kept.gap.isSome = true ∧ ((firing true).wearOf 4 520).2 + 1 < 100000 := by
  decide +kernel

/-- A FETCH of two stones that has read `n`, its next one ready and past its gate. -/
def run7 : ReadRun := { ready := 0, gated := true, cold := false, flips := [] }
def fetchOp7 (n : Nat) : Op :=
  { qop opFetch 2 7 0 2 with state := .running, work := .fetching run7, yard := some 3, fetched := ones n, units := BitVec.ofNat 32 n }
def reading (n : Nat) : State :=
  { withOps awake [fetchOp7 n] with
    mem := laidMem, ledger := { (withOps awake [fetchOp7 n]).ledger with yard := [{ slot := 3, owner := 7, data := [] }] } }
def blockRead7 (n : Nat) : BlockRead := { next := n, ready := 0, fixes := 0, bad := 0, flips := [] }
def scrubOp7 (n : Nat) : Op := { qop opRepoint 2 7 0x08000000 1 with state := .running, work := .reading (blockRead7 n), kind := .scrub }
def scrubbing (n : Nat) : State := withOps awake [scrubOp7 n]

theorem witness_ReadEnds :
    ((reading 1).op? 7 = some (fetchOp7 1) ∧ (fetchOp7 1).result = 0xFF ∧ (fetchOp7 1).marked = false
     ∧ (fetchOp7 1).fetched.length < (fetchOp7 1).count.toNat ∧ (reading 1).life.regPending = false
     ∧ ((reading 1).bank (bankMet (fetchOp7 1).nextStone)).state = .idle ∧ (reading 1).stonesDue run7.ready 1 = 1)
    ∧ ((reading 2).ledgerOk = true ∧ (reading 2).onTime orderEnds = true ∧ (reading 2).opOfSlot 2 = some (fetchOp7 2)
       ∧ (fetchOp7 2).bankOf = some 0 ∧ (fetchOp7 2).sub ≠ 31 ∧ (fetchOp7 2).count.toNat ≤ (fetchOp7 2).fetched.length
       ∧ (reading 1).opOfSlot 2 = some (fetchOp7 1))
    ∧ ((scrubbing 5).op? 7 = some (scrubOp7 5) ∧ (scrubbing 5).stonesDue 0 (8192 - 5) ≠ 0)
    ∧ ((scrubbing 8192).ledgerOk = true ∧ (scrubbing 8192).onTime orderEnds = true
       ∧ (scrubbing 8192).opOfSlot 2 = some (scrubOp7 8192) ∧ (scrubOp7 8192).bankOf = some 4
       ∧ (scrubOp7 8192).count.toNat = (scrubOp7 8192).index + 1 ∧ 0 < (scrubbing 8192).upkeep.fixmax.toNat) := by decide +kernel

def suspendedEntryS (r : Bool) : State :=
  clearing.modBank 4 (fun k => { k with state := .suspending, suspPs := 16000000, resumeDue := r, clear := some (clearRun6 false 0) })
def deferredS : State := clearing.modBank 4 (fun k => { k with deferred := true, run := 1024 })
def quietS (st : BankState) : State := clearing.modBank 4 (fun k => { k with state := st, quiet := 16, clear := some (clearRun6 false 0) })

theorem witness_SuspensionsEnd : ((suspendedEntryS false).bank 4).state = .suspending ∧ 16000000 ≤ ((suspendedEntryS false).bank 4).suspPs
    ∧ ((suspendedEntryS false).bank 4).resumeDue = false ∧ ((suspendedEntryS true).bank 4).resumeDue = true
    ∧ (clearing.bank 4).state ≠ .suspending ∧ (deferredS.bank 4).state = .clearing ∧ (deferredS.bank 4).deferred = true
    ∧ (deferredS.bank 4).minrun.toNat ≤ (deferredS.bank 4).run ∧ (deferredS.bank 4).clear.isSome = true
    ∧ (clearing.bank 4).run < (clearing.bank 4).minrun.toNat
    ∧ ((quietS .suspended).bank 4).isSuspended = true ∧ ((quietS .suspending).bank 4).isSuspended = true
    ∧ ((quietS .suspended).bank 4).hostsusp = false
    ∧ ((quietS .suspended).bank 4).resumewait.toNat ≤ ((quietS .suspended).bank 4).quiet
    ∧ (quietS .suspended).directFetchOn 4 = false ∧ (quietS .suspended).ledgerFetchOn 4 = false
    ∧ (quietS .suspending).directFetchOn 4 = false ∧ (quietS .suspending).ledgerFetchOn 4 = false := by decide +kernel

/-- One FETCH that waits for event 1, for as many ticks as STAND_CTRL has. -/
def standsStill : State :=
  let s := withOps awake [{ qop opFetch 0 5 0 1 with wait := 1 }]
  { s with ledger := { s.ledger with standCount := 0x10000 } }
def oldRecord : Op := { qop opFetch 2 7 0 1 with state := .complete, result := rDone, units := 1, age := 0x1000000 }
def sampling : State := { awake with power := { awake.power with sampleCount := 1024 } }

theorem witness_WatchesAct : standsStill.pace.holder.isSome = true ∧ 0 < standsStill.ledger.standLimit.toNat
    ∧ standsStill.ledger.standLimit.toNat ≤ standsStill.ledger.standCount.toNat ∧ standsStill.standing = true
    ∧ awake.standing = false
    ∧ (let s := withOps awake [oldRecord]
       s.ledgerOk = true ∧ s.opOfSlot 2 = some oldRecord ∧ oldRecord.state = .complete ∧ (∀ p : PortId, oldRecord.id ∉ (s.port p).reply.shown)
       ∧ 0 < s.ledger.lapseLimit.toNat ∧ s.ledger.lapseLimit.toNat ≤ oldRecord.age)
    ∧ (let o := { oldRecord with age := 0xFFFFFF }
       let s := withOps awake [o]
       s.opOfSlot 2 = some o ∧ o.age < s.ledger.lapseLimit.toNat)
    ∧ (let s := (withOps awake [oldRecord]).modPort 3 (fun p => { p with reply := { p.reply with shown := [7] } })
       s.opOfSlot 2 = some oldRecord ∧ oldRecord.id ∈ (s.port 3).reply.shown) ∧ sampling.onTime orderSample = true
    ∧ 0 < sampling.power.sampleInt.toNat ∧ sampling.power.sampleInt.toNat ≤ sampling.power.sampleCount
    ∧ sampling.power.sampleFreeze = false ∧ sampling.pace.crossed ≠ 0 := by decide +kernel

/-- Every bank but 4 closed, with the changes that a duty needs on bank 4. -/
def keeping (f : Bank → Bank) : State :=
  { awake with boot := { awake.boot with closed := ~~~ (0x10 : BitVec 64) }, banks := awake.banks.set 4 (f Bank.reset) }
def tidyS : State := keeping (fun k => { k with kept := { BankRec.shipment with tidy := [520], slots := [(520, .kiln)] } })
def hotS (wp : Bool) : State :=
  { keeping (fun k => { k with wear := [(520, 20000, 0)] }) with pins := { Pins.reset with wp := wp } }
def slideS : State :=
  { keeping (fun k => { k with since := 64 }) with glob := { awake.glob with mapmode := 0x10 } }
def scrubS : State := { keeping id with upkeep := { awake.upkeep with scrubTicks := 0x10000 } }
def reloc5 : Reloc := { block := 5, skip := [1], op := none, tried := false }
def relocS : State := keeping (fun k => { k with relocs := [reloc5] })

theorem witness_HouseDuties : tidyS.onTime orderHouse = true ∧ (hotS true).onTime orderHouse = true ∧ (hotS false).onTime orderHouse = true
    ∧ tidyS.houseReady = true ∧ tidyS.tidyDue = some (4, 520) ∧ tidyS.houseAdmits opKiln 520 = true
    ∧ (hotS true).dutiesOpen = true ∧ (hotS true).kilnDue = some (4, 520) ∧ (hotS true).pins.wp = true
    ∧ (hotS true).houseAdmits opKiln 520 = true
    ∧ (hotS false).dutiesOpen = true ∧ (hotS false).kilnDue = some (4, 520) ∧ (hotS false).upkeep.passedOver = false := by
  decide +kernel
theorem witness_HouseDuties_moves : slideS.onTime orderHouse = true ∧ scrubS.onTime orderHouse = true
    ∧ relocS.onTime orderHouse = true ∧ slideS.dutiesOpen = true ∧ slideS.kilnDue = none ∧ slideS.slideDue = some 4
    ∧ (slideS.bank (bankIx 4)).kept.slideBlock (bankIx 4) = some 511 ∧ slideS.houseAdmits opRepoint 1 = true
    ∧ scrubS.dutiesOpen = true ∧ scrubS.scrubDue = true ∧ scrubS.kilnDue = none ∧ scrubS.slideDue = none
    ∧ scrubS.scrubAt = some (4, 0) ∧ scrubS.houseAdmits opRepoint 1 = true
    ∧ relocS.dueReloc 4 = some reloc5 ∧ relocS.houseAdmits opRepoint 1 = true := by decide +kernel

/-- A LAY of one stone that partner 0 of annex 0 has been sent, and the partner busy with it. -/
def windowLay : Op :=
  { qop opLay 0 5 0x80000000 1 with state := .running, work := .partner, payload := ones 1 }
def busyPartner (ff ticks : Nat) : State :=
  (withOps partnered [windowLay]).modPartner 0 0 (fun q => { q with
    owner := some 5, inFlight := true, ffPolls := ff, sentTicks := ticks })
def strobeFetch : Op := { qop opFetch 0 5 0x80000000 1 with state := .running, work := .fetching run7 }
def strobed : State := (withOps partnered [strobeFetch]).modPartner 0 0 (fun q => { q with mode := 4, userds := true })

theorem witness_PartnerEvents :
    (let s := busyPartner 1 16384
     s.ledgerOk = true ∧ s.onTime orderEnds = true ∧ (s.anx 0).turn ≤ (0 : PartnerId).val ∧ (s.partner 0 0).owner = some 5 ∧ s.op? 5 = some windowLay
     ∧ (s.partner 0 0).inFlight = true ∧ s.pace.crossed ≠ 0 ∧ (s.partner 0 0).polled = false
     ∧ (s.partner 0 0).typTicks ≤ (s.partner 0 0).sentTicks ∧ (s.anx 0).yielded = false
     ∧ 1 ≤ (s.partner 0 0).ffPolls ∧ windowLay.windowAddr.bind s.partnerAt = some (0, 0)
     ∧ (s.partner 0 0).erasing = false ∧ windowLay.opcode = opLay ∧ windowLay.result = 0xFF ∧ windowLay.index = 0
     ∧ windowLay.position = 0 ∧ (windowLay.pageBytes (s.partner 0 0)).length = 8 * windowLay.payload.length
     ∧ 0 < (s.anx 0).progLimit ∧ (s.anx 0).progLimit ≤ (s.partner 0 0).sentTicks)
    ∧ (strobed.partner 0 0).byStrobe = true ∧ strobed.ledgerOk = true ∧ strobeFetch.state = .running ∧ strobeFetch.isDirect = false
    ∧ strobed.partnerAt strobeFetch.addr = some (0, 0) ∧ (strobed.partner 0 0).inside strobeFetch.addr = true
    ∧ (strobed.partner 0 0).owner = none ∧ ([] : List Byte).length < 8
    ∧ strobed.onTime orderEnds = true ∧ strobed.life.regPending = false ∧ (strobed.anx 0).turn ≤ 4 + (0 : PartnerId).val
    ∧ (strobed.anx 0).manual = false ∧ strobeFetch.fetched = [] ∧ 1 ≤ strobeFetch.count.toNat
    ∧ strobed.gatesPass strobeFetch false [strobeFetch.addr] = true
    ∧ partnered.onTime orderEnds = true ∧ (partnered.anx 0).unsensed[(0 : PartnerId).val] = 0 ∧ (partnered.anx 0).stream = none
    ∧ (partnered.anx 0).en = true ∧ (partnered.anx 0).yielded = false ∧ (partnered.partner 0 0).en = true
    ∧ ((partnered.modAnx 0 (fun x => { x with selIn := 0xE, manual := true })).anx 0).selIn.getLsbD (0 : PartnerId).val = false
    ∧ partnered.annexRunning 0 = false ∧ (busyPartner 1 0).annexRunning 0 = true := by decide +kernel

/-- Boot that waits to write journal copy B anew. -/
def repairing (wp : Bool) : State :=
  { atStep 2 with plinth := { Plinth.shipment with jB := { Plinth.shipment.jB with broken := true } }, pins := { Pins.reset with wp := wp } }

theorem witness_BootRuns : (atStep 1).pace.holder.isSome = true ∧ (atStep 1).boot.step = 1 ∧ (atStep 1).boot.cycles ≠ 0
    ∧ (bootIn 3630).mv ≤ 3630 ∧ 3630 < (bootIn 3631).mv ∧ (atStep 1).plinth.jA.valid = true ∧ (atStep 1).plinth.jB.valid = true
    ∧ (atStep 1).boot.closed = 0 ∧ (atStep 1).plinth.config.newest = some (CfgRec.shipment, false)
    ∧ (atStep 1).plinth.banks[63].newest = some (BankRec.shipment, false)
    ∧ (atStep 1).plinth.images[65].newest = some (GateImage.shipment, false)
    ∧ (repairing true).boot.step = 2 ∧ (repairing true).plinth.jwrite = none ∧ (repairing true).plinthRuns = true
    ∧ (repairing true).plinth.newer = some false ∧ (repairing false).pins.wp = false
    ∧ (atStep 7).boot.step = 7 ∧ (atStep 7).life.regPending = false
    ∧ (let s := { atStep 7 with life := { awake.life with regPending := true } }
       s.boot.step = 7 ∧ s.life.regPending = true) := by decide +kernel

theorem witness_StoneReads : (readStone (7 <<< 72)).laid = false ∧ (readStone (3 <<< 72)).laid = false
    ∧ (1 <<< 72 : BitVec 75) ∈ ([0, 1 <<< 72, 1 <<< 73, 1 <<< 74] : List (BitVec 75)) ∧ (0 : Fin 72) ≠ 71 := by decide +kernel

end Sys2Proof.Tests
end

section
/-! PROOFS. R26: without a pace holder no command phase completes, no row of work on a pace edge takes place and no register
is written; with no CS# low either, no CS# rises and no SCK edge counts. What is left are the commands from outside. -/
namespace Sys2Proof.Machine

section
variable {s : State}

/-! ### No port holds pace -/

theorem State.onEdge_of_no_holder (h : s.pace.holder = none) (t : State) : s.onEdge t = .next s := by
  simp [State.onEdge, h]

theorem State.onStep_of_no_holder (h : s.pace.holder = none) (k : Nat) (t : State) : s.onStep k t = .next s := by
  simp [State.onStep, h]

theorem State.hears_of_no_holder (h : s.pace.holder = none) (p : PortId) : s.hears p = false := by
  simp [State.hears, h]

theorem State.begin_of_no_holder (h : s.pace.holder = none) (tx : Tx) (op : Byte) (inTrial : Bool) :
    s.begin tx op inTrial = (s, false) := by
  simp [State.begin, State.hears_of_no_holder h]

theorem State.run2_of_no_holder (h : s.pace.holder = none) (tx : Tx) (op : Byte) (inTrial : Bool) (body : State → State) :
    s.run2 tx op inTrial body = s := by
  simp [State.run2, State.begin_of_no_holder h]

theorem State.regWrite_of_no_holder (h : s.pace.holder = none) (tx : Tx) (count : Byte) (entries : List (BitVec 16 × Word)) :
    s.regWrite tx count entries = s := by
  simp [State.regWrite, State.begin_of_no_holder h]

theorem State.regWrite1_of_no_holder (h : s.pace.holder = none) (tx : Tx) (r : Nat) (v : Word) : s.regWrite1 tx r v = s :=
  State.regWrite_of_no_holder h tx _ _

theorem State.ledgerCommand_of_no_holder (h : s.pace.holder = none) (tx : Tx) (op : Byte) (pk : Packet)
    (payload : Option (List Word × BitVec 16)) : s.ledgerCommand tx op pk payload = s := by
  simp [State.ledgerCommand, h]

theorem execPace_of_no_holder (h : s.pace.holder = none) (tx : Tx) : execPace tx s = .next s := by
  simp [execPace, State.begin_of_no_holder h]

theorem execSoftReset_of_no_holder (h : s.pace.holder = none) (tx : Tx) (second : Byte) :
    execSoftReset tx second s = .next s := by
  simp [execSoftReset, State.begin_of_no_holder h]

theorem execUnknownOpcode_of_no_holder (h : s.pace.holder = none) (tx : Tx) (op : Byte) :
    execUnknownOpcode tx op s = .next s := by
  simp [execUnknownOpcode, State.begin_of_no_holder h]

theorem execBoot_of_no_holder (h : s.pace.holder = none) (inp : BootIn) : execBoot inp s = .next s := by
  simp [execBoot, h]

/-! ### No CS# is low -/

theorem State.quiet_iff : s.quiet = true ↔ (∀ p : PortId, (s.port p).csLow = false) ∧ s.pace.holder = none := by
  simp [State.quiet, State.port, Fin.forall_iff]

theorem Port.low_of_cs_high {p : Port} (h : p.csLow = false) : p.low = false := by
  simp [Port.low, h]

theorem State.chainSegment_of_cs_high {n : PortId} (h : (s.port n).csLow = false) (action : Byte) (edges : Nat) (g : ChainSeg) :
    s.chainSegment n action edges g = s := by
  simp [State.chainSegment, Port.low_of_cs_high h]

theorem execPaceEdge_of_cs_high {p : PortId} (h : (s.port p).csLow = false) (inp : EdgeIn) :
    execPaceEdge p inp s = .next s := by
  simp [execPaceEdge, Port.low_of_cs_high h]

/-- Only a port whose CS# is low can see it rise. -/
theorem execCsRise_of_quiet (hcs : ∀ p : PortId, (s.port p).csLow = false) (h : s.pace.holder = none) (rises : BitVec 8)
    (rise : Rise) : execCsRise rises rise s = .next s := by
  simp [execCsRise, hcs, h]

/-! ### Every command -/

/-- R26 over the commands that are work of a pace edge or of a transaction. -/
theorem exec_of_quiet (c : Instr) (hq : s.quiet = true) (hc : isOutside c = false) : exec c s = .next s := by
  obtain ⟨hcs, h⟩ := State.quiet_iff.mp hq
  cases c with
  | powerOnReset | resetPin | brownOutTrip | stallGuardTrip | wpHigh | wpLow | supplyGroupLoss | supplyGroupReturn | csFall =>
    cases hc
  | csRise rises rise => exact execCsRise_of_quiet hcs h rises rise
  | paceEdge p inp => exact execPaceEdge_of_cs_high (hcs p) inp
  | chainNop p | chainRegwr p | chainExit p => exact congrArg _ (State.chainSegment_of_cs_high (hcs p) _ _ _)
  | pace tx => exact execPace_of_no_holder h tx
  | softReset tx second => exact execSoftReset_of_no_holder h tx second
  | unknownOpcode tx op => exact execUnknownOpcode_of_no_holder h tx op
  | boot inp => exact execBoot_of_no_holder h inp
  | fetch | rawFetch | arm | lay | clearBlock | clearFooting | suspend | resume | regrd | status | ident | sfdp | collect | peek
  | propose | sweep | confirm | revert =>
    exact congrArg _ (State.run2_of_no_holder h _ _ _ _)
  | regwr tx count entries => exact congrArg _ (State.regWrite_of_no_holder h tx count entries)
  | declarePeriod | pacePolicy | waits | len | chainModeEnable | booten | subscriberMask | quota | forget | eventSet | eventClr
  | ledgerSel | empty | mapmode | plumbWrite | tampWrite | kilnAt | fixmax | meterBurstWrite | fill | clearmax | tokenwait
  | pumpWrite | peakclr | minclr | gateEnable | gateDisable | save | privWrite | lock | hide | div | partnerEnable | gpioWrite
  | manualOn | manualOff | annexEnable | annexDisable | reclaim | fencedClear =>
    exact congrArg _ (State.regWrite1_of_no_holder h _ _ _)
  | ledgerFetch | ledgerLay | ledgerClear | ledgerClearFoot | haul | kiln | repoint | signal | fence | cancel | ledgerSuspend
  | ledgerResume | levelRaise | regress =>
    exact congrArg _ (State.ledgerCommand_of_no_holder h _ _ _ _)
  | brownOutRelease | pulseEnd | pumpReady | heldFetchServed | holdExpired | regressBegin | regressionClear | journalWriteDone
  | plinthCopyDone | suspendedEntry | deferredGrant | autoResume | standstill | lapse | journalRepair | bootEnd | manualon =>
    exact State.onEdge_of_no_holder h _
  | signalComplete | fenceComplete | dispatch | floor | reservation | blockUnsettled | layEnd | relocation | clearUnitEnd
  | firingStageEnd | repointReadEnd | fetchComplete | sample | kilnDuty | slideDuty | scrubDuty | tidyKiln | poll
  | partnerTimeout | rdsEdgeMissing | modf =>
    exact State.onStep_of_no_holder h _ _

end

/-! ### Pins that move -/

/-- `t` is `s` but for the levels of WP# and of the supplies and for what the ports drive. -/
def State.PinsAlone (s t : State) : Prop :=
  t = { s with pins := t.pins, ports := t.ports }
  ∧ t.pins = { s.pins with wpPin := t.pins.wpPin, supply := t.pins.supply }
  ∧ ∀ p : PortId, t.port p = { s.port p with reply := (t.port p).reply, cell := (t.port p).cell, level := (t.port p).level }

/-- R526: a supply that fails ends what the two ports of its group drove, and moves nothing else of any port. -/
theorem execSupplyGroupLoss_pinsAlone (s : State) (grp : Fin 5) : Gives (execSupplyGroupLoss grp s) s.PinsAlone := by
  refine ⟨_, rfl, rfl, rfl, fun p => ?_⟩
  simp only [State.port, Vector.getElem_mapFinIdx]
  split
  · rfl
  · rfl

theorem exec_pinsAlone (c : Instr) (s : State) (hc : isPinMove c = true) : Gives (exec c s) s.PinsAlone := by
  cases c with
  | wpHigh | wpLow | supplyGroupReturn => exact ⟨_, rfl, rfl, rfl, fun _ => rfl⟩
  | supplyGroupLoss grp => exact execSupplyGroupLoss_pinsAlone s grp
  | _ => cases hc

/-- Settles O10: each command but those from outside needs a port that holds pace or one whose CS# is low. -/
theorem quietBlockStandsStill : Obligations.QuietBlockStandsStill :=
  ⟨fun c _ hq hc => exec_of_quiet c hq hc, fun c s _ hc => exec_pinsAlone c s hc⟩

end Sys2Proof.Machine
end

section
/-! PROOFS. R40 to R43: the write of HnPERIOD as a REGWR of one entry, on the edge that takes it and at the CS# rise. -/
namespace Sys2Proof.Machine

/-- `State.regWrite1_afterWrite` for a register that a row of the opcode table names by its number. -/
theorem State.regWrite1_ofNat (s : State) (tx : Tx) (k : Nat) (hk : k < 4096) (v : Word)
    (h : s.mayWrite tx (BitVec.ofNat 12 k) = true) :
    s.regWrite1 tx k v = s.afterWrite tx (fun t =>
      let u := t.writeNow tx.port (s.fullWrite tx.port) (regOf (BitVec.ofNat 12 k)) v
      if (regOf (BitVec.ofNat 12 k)).atRise then u.leaves tx.port (.regAct (BitVec.ofNat 12 k) v) else u) := by
  have hn : (BitVec.ofNat 12 k).toNat = k := by rw [BitVec.toNat_ofNat, Nat.mod_eq_of_lt hk]
  rw [← State.regWrite1_afterWrite s tx _ v h, hn]

theorem regOf_period : ∀ n : PortId, regOf (BitVec.ofNat 12 (0x103 + 0x20 * n.val)) = .period n := by decide +kernel

/-- R40 to R42, with the bound as R42 gives it. -/
theorem State.writePeriod_eq (s : State) (n : PortId) (v : Word) : s.writePeriod n v =
    if v.extractLsb' 0 32 = 0 then s.modPort n (fun p => { p with period := 0, declared := false })
    else if (v.extractLsb' 0 32).toNat ≤ 4999 then s.modPace (fun c => { c with badperiod := true })
    else s.modPort n (fun p => { p with period := v.extractLsb' 0 32, declared := true }) := by
  simp only [State.writePeriod, fieldOf, Nat.lt_succ_iff (n := 4999)]

theorem State.modPort_id (s : State) (n : PortId) : s.modPort n (fun p => p) = s := by
  simp [State.modPort, State.port]

/-- R43: what the rise does to the period that pace edges have. -/
theorem State.modPort_risePeriod (s : State) (n : PortId) (v : Word) : s.modPort n (fun p => p.risePeriod v) =
    if v.extractLsb' 0 32 = 0 then s.modPort n (fun p => { p with periodNow := 0, declaredNow := false })
    else if (v.extractLsb' 0 32).toNat ≤ 4999 then s
    else s.modPort n (fun p => { p with periodNow := v.extractLsb' 0 32, declaredNow := true }) := by
  simp only [Port.risePeriod, fieldOf, Nat.lt_succ_iff (n := 4999)]
  split
  · rfl
  · split
    · exact s.modPort_id n
    · rfl

theorem exec_declarePeriod (s : State) (tx : Tx) (n : PortId) (v : Word)
    (h : s.mayWrite tx (BitVec.ofNat 12 (0x103 + 0x20 * n.val)) = true) :
    exec (.declarePeriod tx n v) s = .next (s.afterWrite tx (fun t =>
      (t.writePeriod n v).leaves tx.port (.regAct (BitVec.ofNat 12 (0x103 + 0x20 * n.val)) v))) := by
  have hw := s.regWrite1_ofNat tx (0x103 + 0x20 * n.val) (by omega) v h
  rw [regOf_period] at hw
  exact congrArg _ hw

theorem State.riseAct_period (u : State) (m n : PortId) (v : Word) :
    u.riseAct m (.regAct (BitVec.ofNat 12 (0x103 + 0x20 * n.val)) v) = u.modPort n (fun p => p.risePeriod v) := by
  simp only [State.riseAct, regOf_period, State.writeAtRise]

/-- Settles O39: HnPERIOD is written as R40 to R42 say, and left for the rise, where R43 puts it into force. -/
theorem declaringAPeriod : Obligations.DeclaringAPeriod := by
  constructor
  · intro s tx n v h
    simpa only [State.writePeriod_eq] using exec_declarePeriod s tx n v h
  · intro u m n v
    exact (u.riseAct_period m n v).trans (u.modPort_risePeriod n v)

end Sys2Proof.Machine
end

section
/-! PROOFS. R90: the command phase of an opcode outside Table 05.1 is one change of its port, and the transaction ends there. -/
namespace Sys2Proof.Machine

/-- R148: a failed transaction moves SILENT alone. -/
theorem Port.fail_eq (p : Port) : p.fail = { p with silent := p.fail.silent } := by
  unfold Port.fail
  split
  · rfl
  · rfl

@[simp] theorem Port.fail_reply (p : Port) : p.fail.reply = p.reply := by rw [Port.fail_eq]
@[simp] theorem Port.fail_badop (p : Port) : p.fail.badop = p.badop := by rw [Port.fail_eq]
@[simp] theorem Port.fail_lastop (p : Port) : p.fail.lastop = p.lastop := by rw [Port.fail_eq]

/-- What an unknown opcode leaves of a port: nothing driven, BADOP, and one more failed transaction (R148). -/
def Port.badOpcode (p : Port) : Port := Port.fail { p with reply := Reply.none, badop := true }

/-- What the whole command phase of unknown opcode `op` leaves of its port; a trial ends as abandoned at the rise (R130). -/
def Port.turnAway (tx : Tx) (op : Byte) (p : Port) : Port :=
  let q := Port.badOpcode
    (Port.track { p with cycle := tx.waited, cell := none, level := 0xFF, txOp := some op, lastop := op } tx.drift)
  if p.trial then { q with atRise := q.atRise ++ [.trialEnd 6] } else q

@[simp] theorem Port.turnAway_reply (tx : Tx) (op : Byte) (p : Port) : (p.turnAway tx op).reply = Reply.none := by
  simp [Port.turnAway, Port.badOpcode, apply_ite Port.reply]

@[simp] theorem Port.turnAway_badop (tx : Tx) (op : Byte) (p : Port) : (p.turnAway tx op).badop = true := by
  simp [Port.turnAway, Port.badOpcode, apply_ite Port.badop]

@[simp] theorem Port.turnAway_lastop (tx : Tx) (op : Byte) (p : Port) : (p.turnAway tx op).lastop = op := by
  simp [Port.turnAway, Port.badOpcode, apply_ite Port.lastop]

/-- A choice between two changes of a port, made on the port itself, is one change of it. -/
theorem State.modPort_ite (s : State) (p : PortId) (c : Port → Bool) (f g : Port → Port) :
    (if c (s.port p) then s.modPort p f else s.modPort p g) = s.modPort p (fun x => if c x then f x else g x) := by
  cases hc : c (s.port p) with
  | false => simp [State.modPort, hc]
  | true => simp [State.modPort, hc]

/-- The command phase of an unknown opcode, whose complement is right where it is asked for, ends the transaction. -/
theorem State.commandPhase_unknown (s : State) (p : PortId) (op : Byte) (compl : Bool) (drift : List DriftSample)
    (hd : ((s.port p).ddr && !compl) = false) (ho : knownOpcode op = false) : s.commandPhase p op compl drift =
      (s.modPort p (fun x => Port.badOpcode (Port.track { x with txOp := some op, lastop := op } drift)), false) := by
  simp only [State.commandPhase, hd, ho, Bool.not_false, Bool.false_eq_true, if_false, if_true, State.hush,
    State.modPort_modPort, Port.badOpcode]

/-- On trial or not, a port that hears an unknown opcode turns it away. -/
theorem State.begin_unknown (s : State) (tx : Tx) (op : Byte) (inTrial : Bool) (h : s.hears tx.port = true)
    (hc : (s.port tx.port).ddr = true → tx.compl = true) (ho : knownOpcode op = false) :
    s.begin tx op inTrial = (s.modPort tx.port (Port.turnAway tx op), false) := by
  have hd : (((s.modPort tx.port (fun x => { x with cycle := tx.waited, cell := none, level := 0xFF })).port tx.port).ddr
      && !tx.compl) = false := by
    rw [State.modPort_port_self, Bool.and_eq_false_imp]
    exact fun hddr => by simp [hc hddr]
  simp only [State.begin, h, State.commandPhase_unknown _ _ _ _ _ hd ho, Bool.not_true, Bool.false_eq_true, if_false,
    State.abandon, State.queueRise, State.modPort_modPort]
  exact congrArg (·, false) (s.modPort_ite tx.port Port.trial _ _)

/-- Settles O33: the port turns the opcode away, and nothing else moves. -/
theorem unknownOpcodes : Obligations.UnknownOpcodes := by
  intro s tx op h hc ho
  have hexec : exec (.unknownOpcode tx op) s = .next (s.modPort tx.port (Port.turnAway tx op)) := by
    simp [exec, execUnknownOpcode, ho, s.begin_unknown tx op false h hc ho]
  refine ⟨_, hexec, ?reply, ?badop, ?lastop, rfl, s.modPort_port_of_ne tx.port _⟩
  case reply => rw [State.modPort_port_self, Port.turnAway_reply]
  case badop => rw [State.modPort_port_self, Port.turnAway_badop]
  case lastop => rw [State.modPort_port_self, Port.turnAway_lastop]

end Sys2Proof.Machine
end

section
/-! PROOFS. R203: what a COLLECT that is taken answers, by its MODE. -/
namespace Sys2Proof.Machine

/-- R203: a COLLECT or PEEK that is taken answers CRCX, or goes on to its record blocks, as its MODE[6:0] decides. -/
theorem State.collect_takes (s : State) (tx : Tx) (peek : Bool) (mode : BitVec 7) (h : s.takes tx = true) :
    s.collect tx peek mode =
      if mode = 0 then (s.received tx 0x7C).replyWith tx.port .ok [] (.records peek [] none)
      else (s.received tx 0x7C).answer tx.port .crcx [] := by
  rw [State.collect, State.run2_takes s tx 0x7C false _ h (by decide), ite_not]

/-- A reserved MODE is turned away with CRCX, whether PEEK is set or not. -/
theorem State.collect_badMode (s : State) (tx : Tx) (peek : Bool) {mode : BitVec 7} (h : s.takes tx = true)
    (hm : mode ≠ 0) : s.collect tx peek mode = (s.received tx 0x7C).answer tx.port .crcx [] := by
  rw [s.collect_takes tx peek mode h, if_neg hm]

/-- Settles O31: COLLECT and PEEK are one operation, which turns a reserved MODE away. -/
theorem collectOfBadMode : Obligations.CollectOfBadMode := by
  intro s tx mode pad h hm
  constructor
  case left => exact congrArg _ (s.collect_badMode tx false h hm)
  case right => exact congrArg _ (s.collect_badMode tx true h hm)

end Sys2Proof.Machine
end

section
/-! PROOFS. R266 to R271: the stone's code. The syndrome and the parity of the cells are linear, a lay leaves both at zero, and
each of the 72 bits has a code position of its own; so one flipped bit names itself, and two pass neither for one nor for
none. -/
namespace Sys2Proof.Machine

/-! ### Parity is linear -/

theorem parityBelow_succ (n : Nat) (f : Nat → Bool) : parityBelow (n + 1) f = (parityBelow n f ^^ f n) := by
  simp [parityBelow, List.range_succ]

theorem parityBelow_congr {n : Nat} {f g : Nat → Bool} (h : ∀ i < n, f i = g i) : parityBelow n f = parityBelow n g := by
  induction n with
  | zero => rfl
  | succ n ih =>
    rw [parityBelow_succ, parityBelow_succ, ih (fun i hi => h i (by omega)), h n (by omega)]

theorem parityBelow_xor (n : Nat) (f g : Nat → Bool) :
    parityBelow n (fun i => f i ^^ g i) = (parityBelow n f ^^ parityBelow n g) := by
  induction n with
  | zero => rfl
  | succ n ih => rw [parityBelow_succ, parityBelow_succ, parityBelow_succ, ih, Bool.xor_assoc, Bool.xor_assoc,
      Bool.xor_left_comm (parityBelow n g)]

theorem parityBelow_getLsbD_xor {w : Nat} (n : Nat) (x y : BitVec w) :
    parityBelow n (x ^^^ y).getLsbD = (parityBelow n x.getLsbD ^^ parityBelow n y.getLsbD) := by
  rw [← parityBelow_xor]
  exact parityBelow_congr fun i _ => BitVec.getLsbD_xor

theorem eccBit_xor (x y : Word) (j : Nat) : eccBit (x ^^^ y) j = (eccBit x j ^^ eccBit y j) := by
  rw [eccBit, eccBit, eccBit, ← parityBelow_xor]
  exact parityBelow_congr fun i _ => by rw [BitVec.getLsbD_xor, Bool.and_xor_distrib_right]

theorem ecc7_xor (x y : Word) : ecc7 (x ^^^ y) = ecc7 x ^^^ ecc7 y := by
  simp only [ecc7, eccBit_xor, ← BitVec.ofBool_xor_ofBool, ← BitVec.xor_append]

/-! ### The parts of a stone's cells -/

theorem cellsData_xor (x y : BitVec 75) : cellsData (x ^^^ y) = cellsData x ^^^ cellsData y := BitVec.extractLsb'_xor

theorem cellsEcc_xor (x y : BitVec 75) : cellsEcc (x ^^^ y) = cellsEcc x ^^^ cellsEcc y := BitVec.extractLsb'_xor

theorem cellsMark_xor (x y : BitVec 75) : cellsMark (x ^^^ y) = cellsMark x ^^^ cellsMark y := BitVec.extractLsb'_xor

@[simp] theorem cellsData_cellsOf (d : Word) : cellsData (cellsOf d) = d := BitVec.extractLsb'_append_eq_right

@[simp] theorem cellsEcc_cellsOf (d : Word) : cellsEcc (cellsOf d) = eccOf d :=
  (BitVec.extractLsb'_append_eq_of_le (by decide : 64 ≤ 64)).trans BitVec.extractLsb'_append_eq_right

@[simp] theorem cellsMark_cellsOf (d : Word) : cellsMark (cellsOf d) = 0#3 :=
  (BitVec.extractLsb'_append_eq_of_le (by decide : 64 ≤ 72)).trans BitVec.extractLsb'_append_eq_left

/-! ### The syndrome and the parity of the cells -/

/-- R268: the syndrome of a stone's cells as read. -/
def cellsSyndrome (c : BitVec 75) : BitVec 7 := ecc7 (cellsData c) ^^^ (cellsEcc c).extractLsb' 0 7

/-- R268: P, the parity of a stone's 72 bits as read. -/
def cellsParity (c : BitVec 75) : Bool := parityBelow 64 (cellsData c).getLsbD ^^ parityBelow 8 (cellsEcc c).getLsbD

theorem bitVec_xor_xor_xor_comm {w : Nat} (a b c d : BitVec w) : a ^^^ b ^^^ (c ^^^ d) = a ^^^ c ^^^ (b ^^^ d) := by
  ac_rfl

theorem cellsSyndrome_xor (x y : BitVec 75) : cellsSyndrome (x ^^^ y) = cellsSyndrome x ^^^ cellsSyndrome y := by
  rw [cellsSyndrome, cellsData_xor, cellsEcc_xor, ecc7_xor, BitVec.extractLsb'_xor, bitVec_xor_xor_xor_comm]
  rfl

theorem cellsParity_xor (x y : BitVec 75) : cellsParity (x ^^^ y) = (cellsParity x ^^ cellsParity y) := by
  rw [cellsParity, cellsData_xor, cellsEcc_xor, parityBelow_getLsbD_xor, parityBelow_getLsbD_xor, cellsParity, cellsParity,
    Bool.xor_assoc, Bool.xor_left_comm (parityBelow 64 (cellsData y).getLsbD), ← Bool.xor_assoc]

/-- R267: the low seven bits of the ECC byte are ECC[6:0]. -/
theorem eccOf_low (d : Word) : (eccOf d).extractLsb' 0 7 = ecc7 d := BitVec.extractLsb'_append_eq_right

theorem getLsbD_eccOf_of_lt (d : Word) {i : Nat} (h : i < 7) : (eccOf d).getLsbD i = (ecc7 d).getLsbD i :=
  BitVec.getLsbD_append.trans (if_pos h)

/-- R267: ECC[7] is the parity of the data and ECC[6:0]. -/
theorem getLsbD_eccOf_seven (d : Word) :
    (eccOf d).getLsbD 7 = (parityBelow 64 d.getLsbD ^^ parityBelow 7 (ecc7 d).getLsbD) :=
  BitVec.getLsbD_append.trans (by simp)

/-- R267: a lay leaves the syndrome zero. -/
@[simp] theorem cellsSyndrome_cellsOf (d : Word) : cellsSyndrome (cellsOf d) = 0#7 := by
  rw [cellsSyndrome, cellsData_cellsOf, cellsEcc_cellsOf, eccOf_low, BitVec.xor_self]

/-- R267: a lay leaves the whole code word with even parity. -/
@[simp] theorem cellsParity_cellsOf (d : Word) : cellsParity (cellsOf d) = false := by
  rw [cellsParity, cellsData_cellsOf, cellsEcc_cellsOf, parityBelow_succ 7, getLsbD_eccOf_seven,
    parityBelow_congr fun i => getLsbD_eccOf_of_lt d]
  cases parityBelow 64 d.getLsbD <;> cases parityBelow 7 (ecc7 d).getLsbD <;> rfl

/-- A bit of the code word is a data bit or an ECC bit. -/
theorem codeBit_eq (c : BitVec 75) (i : Fin 72) :
    c.getLsbD i.val = if i.val < 64 then (cellsData c).getLsbD i.val else (cellsEcc c).getLsbD (i.val - 64) := by
  rw [cellsData, cellsEcc, BitVec.getLsbD_extractLsb', BitVec.getLsbD_extractLsb']
  split
  · next hdata => simp [hdata]
  · next hdata =>
    have hi : i.val - 64 < 8 := by omega
    have hsum : 64 + (i.val - 64) = i.val := by omega
    simp [hi, hsum]

/-! ### The code position of each of the 72 bits -/

/-- The code position of bit `i` of a stone's cells: its own for a data bit, 2^j for ECC[j] with j below 7, 0 for ECC[7]. -/
def codePos (i : Fin 72) : BitVec 7 :=
  BitVec.ofNat 7 (if i.val < 64 then dataPos i.val else if i.val < 71 then 2 ^ (i.val - 64) else 0)

theorem codePos_injective : Function.Injective codePos := by decide +kernel

theorem cellsSyndrome_bit (i : Fin 72) : cellsSyndrome (1 <<< i.val) = codePos i := by decide +kernel +revert

theorem cellsParity_bit (i : Fin 72) : cellsParity (1 <<< i.val) = true := by decide +kernel +revert

theorem cellsData_bit_of_lt (i : Fin 72) (h : i.val < 64) : cellsData (1 <<< i.val) = 1 <<< i.val := by
  decide +revert

theorem cellsData_bit_of_ge (i : Fin 72) (h : ¬ i.val < 64) : cellsData (1 <<< i.val) = 0#64 := by
  decide +revert

theorem getLsbD_bit_self (i : Fin 72) : (1 <<< i.val : BitVec 75).getLsbD i.val = true := by
  decide +revert

theorem cellsMark_bit (i : Fin 72) : cellsMark (1 <<< i.val) = 0#3 := by decide +revert

/-! ### Reading a stone: the mark vote, then Table 07.2 -/

theorem leanOf_not (b : Bool) : leanOf (!b) = if b then -1 else 1 := by cases b <;> rfl

theorem eccDecide_laid (d : Word) (e : Byte) : (eccDecide d e).laid = true := by
  unfold eccDecide
  dsimp only
  repeat' split
  all_goals rfl

theorem readStone_of_laid {c : BitVec 75} (h : markLaid (cellsMark c) = true) :
    readStone c = eccDecide (cellsData c) (cellsEcc c) := if_pos h

theorem readStone_of_unlaid {c : BitVec 75} (h : markLaid (cellsMark c) = false) :
    readStone c = { data := cellsData c, laid := false, fixed := false, bad := false, lean := 0 } :=
  if_neg (by simp [h])

/-- R270: the mark vote alone decides whether a stone reads as laid. -/
theorem readStone_laid (c : BitVec 75) : (readStone c).laid = markLaid (cellsMark c) := by
  cases h : markLaid (cellsMark c) with
  | false => rw [readStone_of_unlaid h]
  | true => rw [readStone_of_laid h, eccDecide_laid]

theorem getLsbD_cellsMark (c : BitVec 75) {k : Nat} (h : k < 3) : (cellsMark c).getLsbD k = c.getLsbD (72 + k) := by
  rw [cellsMark, BitVec.getLsbD_extractLsb', decide_eq_true h, Bool.true_and]

/-- R270: the vote is of two of the three mark bits that read 0. -/
theorem markLaid_cellsMark (c : BitVec 75) : markLaid (cellsMark c) =
    decide (2 ≤ (if c.getLsbD 72 then 0 else 1) + (if c.getLsbD 73 then 0 else 1) + (if c.getLsbD 74 then 0 else 1)) := by
  rw [markLaid, getLsbD_cellsMark c (k := 0) (by decide), getLsbD_cellsMark c (k := 1) (by decide),
    getLsbD_cellsMark c (k := 2) (by decide)]
  cases c.getLsbD 72 <;> cases c.getLsbD 73 <;> cases c.getLsbD 74 <;> rfl

/-! ### Table 07.2, by the syndrome and the parity -/

section
variable {d : Word} {e : Byte}

theorem eccDecide_clean (hs : ecc7 d ^^^ e.extractLsb' 0 7 = 0#7)
    (hp : (parityBelow 64 d.getLsbD ^^ parityBelow 8 e.getLsbD) = false) :
    eccDecide d e = { data := d, laid := true, fixed := false, bad := false, lean := 0 } := by
  simp only [eccDecide, hs, hp]
  rfl

theorem eccDecide_even (hs : ecc7 d ^^^ e.extractLsb' 0 7 ≠ 0#7)
    (hp : (parityBelow 64 d.getLsbD ^^ parityBelow 8 e.getLsbD) = false) :
    eccDecide d e = { data := d, laid := true, fixed := false, bad := true, lean := 0 } := by
  have hn : (ecc7 d ^^^ e.extractLsb' 0 7).toNat ≠ 0 := fun h => hs (BitVec.eq_of_toNat_eq h)
  simp only [eccDecide, hp, hn, if_false, Bool.false_eq_true]

theorem eccDecide_parityBit (hs : ecc7 d ^^^ e.extractLsb' 0 7 = 0#7)
    (hp : (parityBelow 64 d.getLsbD ^^ parityBelow 8 e.getLsbD) = true) :
    eccDecide d e = { data := d, laid := true, fixed := true, bad := false, lean := leanOf (e.getLsbD 7) } := by
  simp only [eccDecide, hs, hp]
  rfl

theorem eccDecide_eccBit (j : Fin 7) (hs : ecc7 d ^^^ e.extractLsb' 0 7 = BitVec.ofNat 7 (2 ^ j.val))
    (hp : (parityBelow 64 d.getLsbD ^^ parityBelow 8 e.getLsbD) = true) :
    eccDecide d e = { data := d, laid := true, fixed := true, bad := false, lean := leanOf (e.getLsbD j.val) } := by
  simp only [eccDecide, hs, hp]
  fin_cases j <;> rfl

/-- No data bit lies at a power of two, and the data bit at a data bit's code position is that bit. -/
theorem bitAtPos_dataPos (i : Fin 64) :
    (BitVec.ofNat 7 (dataPos i.val)).toNat = dataPos i.val ∧ dataPos i.val ∉ [0, 1, 2, 4, 8, 16, 32, 64]
      ∧ bitAtPos (dataPos i.val) = some i.val := by decide +revert

theorem eccDecide_dataBit (i : Fin 64) (hs : ecc7 d ^^^ e.extractLsb' 0 7 = BitVec.ofNat 7 (dataPos i.val))
    (hp : (parityBelow 64 d.getLsbD ^^ parityBelow 8 e.getLsbD) = true) :
    eccDecide d e =
      { data := d ^^^ (1 <<< i.val), laid := true, fixed := true, bad := false, lean := leanOf (d.getLsbD i.val) } := by
  obtain ⟨hsmall, hpow, hpos⟩ := bitAtPos_dataPos i
  simp only [List.mem_cons, List.not_mem_nil, or_false, not_or] at hpow
  simp only [eccDecide, hs, hp, hsmall, hpow, hpos, if_false, if_true, or_self]

end

section
variable {c : BitVec 75} (hl : markLaid (cellsMark c) = true)
include hl

theorem readStone_of_clean (hs : cellsSyndrome c = 0#7) (hp : cellsParity c = false) :
    readStone c = { data := cellsData c, laid := true, fixed := false, bad := false, lean := 0 } :=
  (readStone_of_laid hl).trans (eccDecide_clean hs hp)

theorem readStone_of_even (hs : cellsSyndrome c ≠ 0#7) (hp : cellsParity c = false) :
    readStone c = { data := cellsData c, laid := true, fixed := false, bad := true, lean := 0 } :=
  (readStone_of_laid hl).trans (eccDecide_even hs hp)

/-- Odd parity and the code position of one of the 72 bits: that bit is inverted. -/
theorem readStone_of_odd (i : Fin 72) (hs : cellsSyndrome c = codePos i) (hp : cellsParity c = true) :
    readStone c = { data := cellsData (c ^^^ (1 <<< i.val)), laid := true, fixed := true, bad := false,
                    lean := leanOf (c.getLsbD i.val) } := by
  rw [readStone_of_laid hl, cellsData_xor, codeBit_eq]
  by_cases hdata : i.val < 64
  · rw [codePos, if_pos hdata] at hs
    rw [eccDecide_dataBit ⟨i.val, hdata⟩ hs hp, if_pos hdata, cellsData_bit_of_lt i hdata]
  by_cases hecc : i.val < 71
  · rw [codePos, if_neg hdata, if_pos hecc] at hs
    rw [eccDecide_eccBit ⟨i.val - 64, by omega⟩ hs hp, if_neg hdata, cellsData_bit_of_ge i hdata, BitVec.xor_zero]
  · rw [codePos, if_neg hdata, if_neg hecc] at hs
    have htop : i.val - 64 = 7 := by omega
    rw [eccDecide_parityBit hs hp, if_neg hdata, cellsData_bit_of_ge i hdata, BitVec.xor_zero, htop]

end

/-! ### Cells that hold a code word -/

/-- The cells `c` read as laid, and their 72 bits are those that a lay of data `d` aims at. -/
structure HoldsWord (d : Word) (c : BitVec 75) : Prop where
  laid : markLaid (cellsMark c) = true
  data : cellsData c = d
  ecc  : cellsEcc c = eccOf d

/-- R270: one mark bit that reads 1, or none, leaves the vote as laid; the marks are no part of the code word. -/
theorem markFlip_parts {m : BitVec 75} (hm : m ∈ ([0, 1 <<< 72, 1 <<< 73, 1 <<< 74] : List (BitVec 75))) :
    markLaid (cellsMark m) = true ∧ cellsData m = 0#64 ∧ cellsEcc m = 0#8 := by
  simp only [List.mem_cons, List.not_mem_nil, or_false] at hm
  rcases hm with rfl | rfl | rfl | rfl <;> decide

/-- With one mark bit flipped, or none, a lay's cells still hold its word. -/
theorem holdsWord_cellsOf_xor (d : Word) {m : BitVec 75} (hm : m ∈ ([0, 1 <<< 72, 1 <<< 73, 1 <<< 74] : List (BitVec 75))) :
    HoldsWord d (cellsOf d ^^^ m) := by
  obtain ⟨hmark, hdata, hecc⟩ := markFlip_parts hm
  constructor
  case laid => rw [cellsMark_xor, cellsMark_cellsOf, BitVec.zero_xor, hmark]
  case data => rw [cellsData_xor, cellsData_cellsOf, hdata, BitVec.xor_zero]
  case ecc => rw [cellsEcc_xor, cellsEcc_cellsOf, hecc, BitVec.xor_zero]

namespace HoldsWord
variable {d : Word} {c : BitVec 75} (h : HoldsWord d c)
include h

theorem syndrome_eq : cellsSyndrome c = 0#7 := by
  rw [← cellsSyndrome_cellsOf d, cellsSyndrome, h.data, h.ecc, cellsSyndrome, cellsData_cellsOf, cellsEcc_cellsOf]

theorem parity_eq : cellsParity c = false := by
  rw [← cellsParity_cellsOf d, cellsParity, h.data, h.ecc, cellsParity, cellsData_cellsOf, cellsEcc_cellsOf]

theorem getLsbD_eq (i : Fin 72) : c.getLsbD i.val = (cellsOf d).getLsbD i.val := by
  rw [codeBit_eq, codeBit_eq, h.data, h.ecc, cellsData_cellsOf, cellsEcc_cellsOf]

theorem laid_xor_bit (i : Fin 72) : markLaid (cellsMark (c ^^^ (1 <<< i.val))) = true := by
  rw [cellsMark_xor, cellsMark_bit, BitVec.xor_zero, h.laid]

/-- R268: unflipped, the stone reads back. -/
theorem readStone_eq : readStone c = { data := d, laid := true, fixed := false, bad := false, lean := 0 } := by
  rw [readStone_of_clean h.laid h.syndrome_eq h.parity_eq, h.data]

/-- R268: one flipped bit is found by its code position and corrected. -/
theorem readStone_xor_bit (i : Fin 72) : readStone (c ^^^ (1 <<< i.val)) =
    { data := d, laid := true, fixed := true, bad := false, lean := if (cellsOf d).getLsbD i.val then -1 else 1 } := by
  have hs : cellsSyndrome (c ^^^ (1 <<< i.val)) = codePos i := by
    rw [cellsSyndrome_xor, h.syndrome_eq, cellsSyndrome_bit, BitVec.zero_xor]
  have hp : cellsParity (c ^^^ (1 <<< i.val)) = true := by
    rw [cellsParity_xor, h.parity_eq, cellsParity_bit, Bool.false_xor]
  have hback : c ^^^ (1 <<< i.val) ^^^ (1 <<< i.val) = c := by
    rw [BitVec.xor_assoc, BitVec.xor_self, BitVec.xor_zero]
  have hread : (c ^^^ (1 <<< i.val)).getLsbD i.val = !(cellsOf d).getLsbD i.val := by
    rw [BitVec.getLsbD_xor, getLsbD_bit_self, h.getLsbD_eq, Bool.xor_true]
  rw [readStone_of_odd (h.laid_xor_bit i) i hs hp, hback, h.data, hread, leanOf_not]

/-- R268: two flipped bits leave the parity even, and the syndrome is not 0, as their code positions differ. -/
theorem readStone_xor_bits {i j : Fin 72} (hij : i ≠ j) : readStone (c ^^^ (1 <<< i.val) ^^^ (1 <<< j.val)) =
    { data := cellsData (cellsOf d ^^^ (1 <<< i.val) ^^^ (1 <<< j.val)), laid := true, fixed := false, bad := true,
      lean := 0 } := by
  have hl : markLaid (cellsMark (c ^^^ (1 <<< i.val) ^^^ (1 <<< j.val))) = true := by
    rw [cellsMark_xor, cellsMark_bit, BitVec.xor_zero, h.laid_xor_bit i]
  have hs : cellsSyndrome (c ^^^ (1 <<< i.val) ^^^ (1 <<< j.val)) ≠ 0#7 := by
    rw [cellsSyndrome_xor, cellsSyndrome_xor, h.syndrome_eq, cellsSyndrome_bit, cellsSyndrome_bit, BitVec.zero_xor]
    exact fun h0 => hij (codePos_injective (BitVec.xor_eq_zero_iff.1 h0))
  have hp : cellsParity (c ^^^ (1 <<< i.val) ^^^ (1 <<< j.val)) = false := by
    rw [cellsParity_xor, cellsParity_xor, h.parity_eq, cellsParity_bit, cellsParity_bit]
    rfl
  rw [readStone_of_even hl hs hp]
  simp only [cellsData_xor, h.data, cellsData_cellsOf]

end HoldsWord

/-- Settles O60: the mark vote decides whether a stone reads as laid, and the code of a laid one corrects one flipped bit
and detects two. -/
theorem stoneReads : Obligations.StoneReads := by
  refine ⟨?vote, ?unlaid, ?code⟩
  case vote =>
    intro c
    rw [readStone_laid, markLaid_cellsMark]
  case unlaid =>
    intro c h
    rw [readStone_laid] at h
    exact readStone_of_unlaid h
  case code =>
    intro d m hm
    have h := holdsWord_cellsOf_xor d hm
    exact ⟨h.readStone_eq, h.readStone_xor_bit, fun i j hij => h.readStone_xor_bits hij⟩

end Sys2Proof.Machine
end

section
/-! PROOFS. R574, R575, R577: a REGRD or REGWR of bad form is turned away with CRCX. -/
namespace Sys2Proof.Machine

/-- Settles O27: a REGRD that is taken looks at bits [15:12] of its number before it reads a register. -/
theorem regrdOfBadNumber : Obligations.RegrdOfBadNumber := by
  intro s tx n h hn
  have hexec : exec (.regrd tx n) s = execRegrd tx n s := rfl
  rw [hexec, execRegrd, s.run2_takes tx 0x60 false _ h (by decide), if_pos hn]

/-- R575, R579, R582: what a REGWR that is received in time does, by its COUNT and by the entries sent. -/
theorem State.regWrite_takes (s : State) (tx : Tx) (count : Byte) (entries : List (BitVec 16 × Word))
    (h : s.takes tx = true) :
    s.regWrite tx count entries =
      if count.toNat < 1 ∨ 16 < count.toNat then (s.received tx 0x61).answer tx.port .crcx []
      else
        let t := (s.received tx 0x61).takeEntries tx.port (entries.take count.toNat)
        if entries.length < count.toNat then t.1.hush tx.port
        else t.1.answer tx.port (if t.2.2 then .crcx else if t.2.1 then .deny else .ok) [] := by
  obtain ⟨hlisten, htime⟩ := Bool.and_eq_true_iff.1 h
  simp only [State.regWrite, State.begin_listens s tx 0x61 false hlisten (by decide), State.inTime_received, htime,
    Bool.not_true, Bool.false_eq_true, if_false]

/-- A number of 12 bits is one that R577 lets through. -/
theorem extractLsb'_setWidth_high (r : BitVec 12) : (BitVec.setWidth 16 r).extractLsb' 12 4 = 0 := by
  apply BitVec.eq_of_getLsbD_eq
  simp

theorem extractLsb'_setWidth_low (r : BitVec 12) : (BitVec.setWidth 16 r).extractLsb' 0 12 = r := by
  rw [BitVec.extractLsb'_setWidth_of_le (by decide), BitVec.extractLsb'_eq_self]

/-- An entry for a register that exists is taken on the state that the entries before it leave. -/
theorem State.takeEntries_cons (s : State) (p : PortId) (r : BitVec 12) (v : Word) (l : List (BitVec 16 × Word)) :
    s.takeEntries p ((BitVec.setWidth 16 r, v) :: l) =
      let a := s.takeEntry p r v
      let b := a.1.takeEntries p l
      (b.1, a.2 == .refused || b.2.1, b.2.2) := by
  rw [State.takeEntries, extractLsb'_setWidth_high, extractLsb'_setWidth_low, if_neg (not_not_intro rfl)]

/-- R577: neither an entry with a bad number nor one after it is taken, and the bad number is noted. -/
theorem State.takeEntries_cons_bad (s : State) (p : PortId) {n : BitVec 16} (hn : n.extractLsb' 12 4 ≠ 0) (v : Word)
    (l : List (BitVec 16 × Word)) : s.takeEntries p ((n, v) :: l) = (s, false, true) := by
  rw [State.takeEntries, if_pos hn]

/-- R577: the entries before a bad number stand, and the bad number is noted. -/
theorem State.takeEntries_append_bad (p : PortId) {n : BitVec 16} (hn : n.extractLsb' 12 4 ≠ 0) (v : Word)
    (l : List (BitVec 16 × Word)) (pre : List (BitVec 12 × Word)) (s : State) :
    let t := s.takeEntries p (pre.map (fun e => (BitVec.setWidth 16 e.1, e.2)) ++ (n, v) :: l)
    t.1 = pre.foldl (fun u e => (u.takeEntry p e.1 e.2).1) s ∧ t.2.2 = true := by
  induction pre generalizing s with
  | nil => simp [State.takeEntries_cons_bad s p hn]
  | cons e pre ih => simpa only [List.map_cons, List.cons_append, State.takeEntries_cons, List.foldl_cons] using ih _

/-- Settles O29: a COUNT out of range is turned away before any entry, a bad number after the entries before it. -/
theorem regwrRefusesBadForm : Obligations.RegwrRefusesBadForm := by
  refine ⟨?count, ?number⟩
  case count =>
    intro s tx count entries h hcount
    exact congrArg _ ((s.regWrite_takes tx count entries h).trans (if_pos hcount))
  case number =>
    intro s tx count pre bad v rest h hlen hmax hbad
    have hcount : ¬ (count.toNat < 1 ∨ 16 < count.toNat) := by omega
    have hwhole : (pre.map (fun e => (BitVec.setWidth 16 e.1, e.2)) ++ (bad, v) :: rest).length = count.toNat := by
      simp only [List.length_append, List.length_map, List.length_cons]
      omega
    obtain ⟨hstand, hcrcx⟩ := State.takeEntries_append_bad tx.port hbad v rest pre (s.received tx 0x61)
    refine congrArg _ ((s.regWrite_takes tx count _ h).trans ?_)
    simp only [if_neg hcount, hwhole, List.take_of_length_le hwhole.le, lt_irrefl, hstand, hcrcx, if_true, if_false]

end Sys2Proof.Machine
end

section
/-! PROOFS. What a command that is no reset, CS# move, pace edge or pin keeps, and from it the invariants over steps: the
queue, device time, the holder of pace and the cells of the array. -/
namespace Sys2Proof.Machine

/-! ### Rows of work -/

section
variable {s t u : State}

theorem State.eq_of_onEdge (h : s.onEdge t = .next u) : u = t ∨ u = s := by
  simp only [State.onEdge, Host.Outcome.next.injEq] at h
  rw [← h]
  split
  · exact .inl rfl
  · exact .inr rfl

theorem State.eq_of_onStep {k : Nat} (h : s.onStep k t = .next u) : u = t.atStage k ∨ u = s := by
  simp only [State.onStep, Host.Outcome.next.injEq] at h
  rw [← h]
  split
  · exact .inl rfl
  · exact .inr rfl

theorem State.kept_atStage (t : State) (k : Nat) : (t.atStage k).kept = t.kept := rfl

theorem State.kept_of_onEdge (h : t.kept = s.kept) (hu : s.onEdge t = .next u) : u.kept = s.kept := by
  obtain rfl | rfl := State.eq_of_onEdge hu
  · exact h
  · rfl

theorem State.kept_of_onStep {k : Nat} (h : t.kept = s.kept) (hu : s.onStep k t = .next u) : u.kept = s.kept := by
  obtain rfl | rfl := State.eq_of_onStep hu
  · exact h
  · rfl

theorem State.still_of_onStep {k : Nat} (h : t.kept.still = s.kept.still) (hu : s.onStep k t = .next u) :
    u.kept.still = s.kept.still := by
  obtain rfl | rfl := State.eq_of_onStep hu
  · exact h
  · rfl

theorem State.kept_of_next (h : t.kept = s.kept) (hu : (.next t : Outcome) = .next u) : u.kept = s.kept := by
  cases hu
  exact h

end

/-- Commands that can change a part of the state that `Kept` holds. -/
def movesKept : Instr → Bool
  | .powerOnReset _ => true
  | .resetPin _ => true
  | .csFall _ _ => true
  | .csRise _ _ => true
  | .paceEdge _ _ => true
  | .wpHigh => true
  | .wpLow => true
  | .supplyGroupLoss _ => true
  | .supplyGroupReturn _ => true
  | .layEnd _ => true
  | .clearUnitEnd _ => true
  | .firingStageEnd _ => true
  | _ => false

/-! ### Bodies of the rows that have no name of their own -/

theorem State.kept_stallGuardTrip (s t : State) (h : execStallGuardTrip s = .next t) : t.kept = s.kept := by
  simp only [execStallGuardTrip, Host.Outcome.next.injEq] at h
  rw [← h]
  split
  · rfl
  · simp only [State.kept, State.closeAllGates]
    rw [lows_map _ _ (by intro; rfl) (by intro; rfl)]

theorem State.kept_brownOutTrip (s t : State) (h : execBrownOutTrip s = .next t) : t.kept = s.kept := by
  simp only [execBrownOutTrip, Host.Outcome.next.injEq] at h
  rw [← h]
  split
  · rfl
  · exact State.kept_closeAllGates s

theorem State.kept_boot (s t : State) (inp : BootIn) (h : execBoot inp s = .next t) : t.kept = s.kept := by
  unfold execBoot at h
  split at h
  · cases h; rfl
  · split at h
    · cases h; simp
    · cases h

theorem State.kept_bootEnd (s t : State) (h : execBootEnd s = .next t) : t.kept = s.kept := by
  refine State.kept_of_onEdge ?_ h
  split
  · rfl
  · have hp : (({ s with ports := s.ports.map (fun p => { p with chainEn := p.booten }) } : State).modBoot
        (fun b => { b with step := 0 })).kept = s.kept := by
      rw [State.kept_modBoot]
      simp only [State.kept]
      rw [lows_map _ _ (by intro; rfl) (by intro; rfl)]
    dsimp only
    split
    · rw [State.kept_startRegression, hp]
    · exact hp

theorem State.kept_paceCommand (s : State) (tx : Tx) :
    (match s.begin tx 0x70 false with
      | (s1, true) => (s1.replyWith tx.port .ok [] .progress).modPort tx.port (fun x => { x with cycle := 0 })
      | (s1, false) => s1).kept = s.kept := by
  have hb := State.kept_begin s tx 0x70 false
  split
  · next h0 => rw [State.kept_modPort _ _ _ rfl rfl, State.kept_replyWith, ← hb, h0]
  · next h0 => rw [← hb, h0]

theorem State.kept_softReset (s : State) (tx : Tx) (second : Byte) :
    (match s.begin tx 0xF0 false with
      | (s1, false) => s1
      | (s1, true) =>
        if second ≠ 0x0F then s1.badOpcode tx.port (s.port tx.port).silent
        else if s1.privileged (s1.port tx.port).dflt.toFin then (s1.hush tx.port).queueRise tx.port .softReset
        else (s1.hush tx.port).modBoot (fun b => { b with softx := true })).kept = s.kept := by
  have hb := State.kept_begin s tx 0xF0 false
  split
  · next h0 => rw [← hb, h0]
  · next h0 =>
    rw [h0] at hb
    repeat' split
    all_goals simpa using hb

/-- A row of the opcode table that is no reset, no CS# move, no pace edge, no pin and no end of a lay, clear or firing
changes neither a cell nor what `Still` holds. -/
theorem exec_kept (c : Instr) (s t : State) (hc : movesKept c = false) (h : exec c s = .next t) : t.kept = s.kept := by
  cases c with
  | powerOnReset | resetPin | csFall | csRise | paceEdge | wpHigh | wpLow | supplyGroupLoss | supplyGroupReturn | layEnd
  | clearUnitEnd | firingStageEnd => cases hc
  | stallGuardTrip => exact State.kept_stallGuardTrip s t h
  | brownOutTrip => exact State.kept_brownOutTrip s t h
  | boot inp => exact State.kept_boot s t inp h
  | bootEnd => exact State.kept_bootEnd s t h
  | chainNop p | chainRegwr p | chainExit p => exact State.kept_of_next (State.kept_chainSegment s p _ _ _) h
  | regwr tx count entries => exact State.kept_of_next (State.kept_regWrite s tx count entries) h
  | collect tx mode | peek tx mode => exact State.kept_of_next (State.kept_collect s tx _ mode) h
  | declarePeriod tx | pacePolicy tx | waits tx | len tx | chainModeEnable tx | booten tx | subscriberMask tx | quota tx
  | forget tx | eventSet tx | eventClr tx | ledgerSel tx | empty tx | mapmode tx | plumbWrite tx | tampWrite tx | kilnAt tx
  | fixmax tx | meterBurstWrite tx | fill tx | clearmax tx | tokenwait tx | pumpWrite tx | peakclr tx | minclr tx
  | gateEnable tx | gateDisable tx | save tx | privWrite tx | lock tx | hide tx | div tx | partnerEnable tx | gpioWrite tx
  | manualOn tx | manualOff tx | annexEnable tx | annexDisable tx | reclaim tx | fencedClear tx =>
    exact State.kept_of_next (State.kept_regWrite1 s tx _ _) h
  | ledgerFetch tx pk | ledgerLay tx pk | ledgerClear tx pk | ledgerClearFoot tx pk | haul tx pk | kiln tx pk | repoint tx pk
  | signal tx pk | fence tx pk | cancel tx pk | ledgerSuspend tx pk | ledgerResume tx pk | levelRaise tx pk
  | regress tx pk => exact State.kept_of_next (State.kept_ledgerCommand s tx _ pk _) h
  | suspend tx addr => exact State.kept_of_next (State.kept_directSusp s tx _ addr _ (fun t b => by simp)) h
  | resume tx addr => exact State.kept_of_next (State.kept_directSusp s tx _ addr _ (fun t b => by simp)) h
  | fetch tx | rawFetch tx | arm tx | status tx | ident tx | sfdp tx | regrd tx | propose tx | sweep tx | confirm tx
  | revert tx | lay tx | clearBlock tx | clearFooting tx =>
    refine State.kept_of_next (State.kept_run2 s tx _ _ _ (fun t => ?_)) h
    simp [apply_ite State.kept]
  | pace tx => exact State.kept_of_next (State.kept_paceCommand s tx) h
  | softReset tx second => exact State.kept_of_next (State.kept_softReset s tx second) h
  | unknownOpcode tx op =>
    refine State.kept_of_next ?_ h
    split
    · rfl
    · exact State.kept_begin s tx op false
  | sample =>
    refine State.kept_of_onStep ?_ h
    dsimp only
    split
    · rfl
    · rfl
  | modf a p =>
    refine State.kept_of_onStep ?_ h
    split
    · rw [State.kept_forEach _ _ (fun u o => State.kept_yieldOp u a o), State.kept_cause, State.kept_modAnx]
    · rfl
  | brownOutRelease | pulseEnd | pumpReady | heldFetchServed | holdExpired | regressBegin | regressionClear | journalWriteDone
  | plinthCopyDone | suspendedEntry | deferredGrant | autoResume | standstill | lapse | journalRepair | manualon =>
    refine State.kept_of_onEdge ?_ h
    try dsimp only
    repeat' split
    all_goals simp
  | signalComplete | fenceComplete | dispatch | floor | reservation | blockUnsettled | relocation
  | repointReadEnd | fetchComplete | kilnDuty | slideDuty | scrubDuty | tidyKiln | poll
  | partnerTimeout | rdsEdgeMissing =>
    refine State.kept_of_onStep ?_ h
    try dsimp only
    repeat' split
    all_goals simp

end Sys2Proof.Machine
end

section
/-! PROOFS. CS# and the holder of pace (R27, R31, R33, R34, R39, R556): every change of the holder picks a port whose CS# counts
as low, and only ports whose CS# is high end a transaction. -/
namespace Sys2Proof.Machine

/-! ### One port after another -/

/-- A change of each port of a list, one after another: each once, the others not at all. -/
theorem State.foldl_modPort (f : PortId → Port → Port) (l : List PortId) (hl : l.Nodup) (s : State) :
    let t := l.foldl (fun t p => t.modPort p (f p)) s
    t = { s with ports := t.ports } ∧ ∀ q, t.port q = if q ∈ l then f q (s.port q) else s.port q := by
  induction l generalizing s with
  | nil => exact ⟨rfl, fun q => by simp⟩
  | cons p l ih =>
    obtain ⟨hp, hl⟩ := List.nodup_cons.1 hl
    obtain ⟨heq, hport⟩ := ih hl (s.modPort p (f p))
    refine ⟨by rw [List.foldl_cons]; exact heq.trans rfl, fun q => ?_⟩
    rw [List.foldl_cons, hport]
    by_cases hq : q = p
    · subst hq
      simp [hp]
    · rw [State.modPort_port_of_ne s p _ q hq]
      simp [hq]

theorem allPorts_nodup : allPorts.Nodup := List.nodup_finRange 8

theorem mem_allPorts (p : PortId) : p ∈ allPorts := List.mem_finRange p

theorem mem_filter_allPorts (f : PortId → Bool) (p : PortId) : p ∈ allPorts.filter f ↔ f p = true := by
  simp [mem_allPorts]

/-! ### The holder's CS# -/

theorem State.holderLow_iff (s : State) : s.holderLow = true ↔ ∀ p, s.pace.holder = some p → (s.port p).low = true := by
  unfold State.holderLow
  cases h : s.pace.holder with
  | none => simp
  | some p => simp

/-- The levels of CS# as `Still` holds them. -/
theorem State.lows_getElem (s : State) (p : PortId) :
    s.kept.still.lows[p.val] = ((s.port p).csLow, (s.port p).waitRise) := by
  simp [State.kept, State.port]

theorem State.csLow_of_still {s t : State} (h : t.kept.still = s.kept.still) (p : PortId) :
    (t.port p).csLow = (s.port p).csLow ∧ (t.port p).waitRise = (s.port p).waitRise := by
  have h2 := congrArg (fun x : Still => x.lows[p.val]) h
  simp only [State.lows_getElem, Prod.mk.injEq] at h2
  exact h2

theorem State.holderLow_of_still {s t : State} (h : t.kept.still = s.kept.still) : t.holderLow = s.holderLow := by
  have hh : t.pace.holder = s.pace.holder := congrArg Still.holder h
  unfold State.holderLow
  rw [hh]
  cases s.pace.holder with
  | none => rfl
  | some p =>
    obtain ⟨h1, h2⟩ := State.csLow_of_still h p
    simp only [Port.low, h1, h2]

/-! ### Taking pace -/

/-- `t` is `s` but for who holds pace, and a holder that is new has its CS# low. -/
structure State.PaceMoves (s t : State) : Prop where
  eq  : t = { s with pace := t.pace, freeCtr := t.freeCtr }
  devtime : t.pace.devtime = s.pace.devtime
  low : s.holderLow = true → t.holderLow = true

theorem State.PaceMoves.refl (s : State) : s.PaceMoves s := ⟨rfl, rfl, id⟩

theorem State.PaceMoves.trans {s t u : State} (h : s.PaceMoves t) (g : t.PaceMoves u) : s.PaceMoves u where
  eq := by rw [g.eq, h.eq]
  devtime := g.devtime.trans h.devtime
  low := fun x => g.low (h.low x)

/-- A change of the pace registers alone whose holder has its CS# low. -/
theorem State.paceMoves_modPace (s : State) (f : Pace → Pace) (hd : (f s.pace).devtime = s.pace.devtime)
    (h : s.holderLow = true → ∀ p, (f s.pace).holder = some p → (s.port p).low = true) : s.PaceMoves (s.modPace f) where
  eq := rfl
  devtime := hd
  low := fun hs => (State.holderLow_iff _).2 (h hs)

theorem State.takePace_moves (s : State) (p : PortId) (h : (s.port p).low = true) : s.PaceMoves (s.takePace p) := by
  unfold State.takePace
  split
  · exact .refl s
  · refine s.paceMoves_modPace _ rfl (fun _ q hq => ?_)
    obtain rfl := Option.some.inj hq
    exact h

theorem State.nominated_low {s : State} {p : PortId} (h : s.nominated = some p) : (s.port p).low = true := by
  unfold State.nominated at h
  split at h
  · next hn =>
    obtain rfl := Option.some.inj h
    exact (Bool.and_eq_true_iff.1 hn).2
  · cases h

theorem State.lowPorts_low {s : State} {p : PortId} (h : p ∈ s.lowPorts) : (s.port p).low = true :=
  (mem_filter_allPorts _ p).1 h

theorem State.baton_moves (s : State) : s.PaceMoves s.baton := by
  unfold State.baton
  split
  · next p hp => exact s.takePace_moves p (State.nominated_low hp)
  · split
    · next p hp => exact s.takePace_moves p (State.lowPorts_low (List.mem_of_mem_head? hp))
    · exact .refl s

/-- A change of the old pacer's bookkeeping leaves the holder as it is. -/
theorem State.paceMoves_sameHolder (s : State) (f : Pace → Pace) (hd : (f s.pace).devtime = s.pace.devtime)
    (hh : (f s.pace).holder = s.pace.holder) : s.PaceMoves (s.modPace f) :=
  s.paceMoves_modPace f hd fun hs p hp => (State.holderLow_iff s).1 hs p (hh ▸ hp)

theorem State.nominatedTakes_moves (s : State) (p : PortId) (h : (s.port p).low = true) :
    s.PaceMoves (s.nominatedTakes p) := by
  unfold State.nominatedTakes
  dsimp only
  split
  · exact (s.takePace_moves p h).trans (State.paceMoves_sameHolder _ _ rfl rfl)
  · exact (s.takePace_moves p h).trans (State.paceMoves_sameHolder _ _ rfl rfl)

theorem State.dropPace_moves (s : State) : s.PaceMoves s.dropPace :=
  s.paceMoves_modPace _ rfl fun _ _ hp => nomatch hp

theorem State.dropPace_low (s : State) : s.dropPace.holderLow = true := rfl

/-- The holder's CS# has risen: whoever holds pace then has its CS# low. -/
theorem State.handOver_moves (s : State) (late : BitVec 8) :
    s.handOver late = { s with pace := (s.handOver late).pace, freeCtr := (s.handOver late).freeCtr }
    ∧ (s.handOver late).pace.devtime = s.pace.devtime ∧ (s.handOver late).holderLow = true := by
  have key : ∀ (u : State) (c : PortId → Bool), u.dropPace.PaceMoves (match u.lowPorts.find? c with
      | some p => u.dropPace.modPace (fun x => { x with holder := some p, sync := 2, handovers := x.handovers + 1 })
      | none => u.dropPace.baton) := by
    intro u c
    split
    · next p hp =>
      refine State.paceMoves_modPace _ _ rfl (fun _ q hq => ?_)
      obtain rfl := Option.some.inj hq
      exact State.lowPorts_low (List.mem_of_find?_eq_some hp)
    · exact State.baton_moves _
  by_cases hl : late = 0
  · have h := key s (fun p => !late.getLsbD p.val || Config.freeBool (s.freeCtr + p.val))
    simp only [State.handOver, hl, if_true] at h ⊢
    exact ⟨h.eq, h.devtime, h.low s.dropPace_low⟩
  · have h := key { s with freeCtr := s.freeCtr + 8 } (fun p => !late.getLsbD p.val || Config.freeBool (s.freeCtr + p.val))
    simp only [State.handOver, hl, if_false]
    exact ⟨h.eq, h.devtime, h.low (State.dropPace_low _)⟩

theorem State.checkOldPacer_moves (s : State) : s.PaceMoves s.checkOldPacer := by
  unfold State.checkOldPacer
  split
  · split
    · exact .refl s
    · exact s.paceMoves_sameHolder _ rfl rfl
  · exact .refl s

theorem State.setPolicy_moves (s : State) (policy : Bool) (q : PortId) : s.PaceMoves (s.setPolicy policy q) := by
  unfold State.setPolicy
  dsimp only
  refine (s.paceMoves_sameHolder (fun x => { x with policy := policy, fixedPort := q }) rfl rfl).trans ?_
  split
  · exact State.baton_moves _
  · next n _ hn =>
    split
    · exact .refl _
    · exact State.nominatedTakes_moves _ n (State.nominated_low hn)
  · exact .refl _

/-! ### The end of a transaction -/

/-- What the ends of transactions keep at a CS# rise: the queue, DEVTIME, the canonical form of the cells, the levels of CS#
and a holder whose CS# is low. -/
structure State.Risen (s t : State) : Prop where
  pending : t.pending = s.pending
  devtime : t.pace.devtime = s.pace.devtime
  wf      : Memory.wf s.mem = true → Memory.wf t.mem = true
  csLow   : ∀ p, (t.port p).csLow = (s.port p).csLow
  low     : s.holderLow = true → t.holderLow = true

theorem State.Risen.trans {s t u : State} (h : s.Risen t) (g : t.Risen u) : s.Risen u where
  pending := g.pending.trans h.pending
  devtime := g.devtime.trans h.devtime
  wf := fun x => g.wf (h.wf x)
  csLow := fun p => (g.csLow p).trans (h.csLow p)
  low := fun x => g.low (h.low x)

theorem State.mem_of_kept {s t : State} (h : t.kept = s.kept) : t.mem = s.mem := congrArg Kept.mem h

theorem State.pending_of_still {s t : State} (h : t.kept.still = s.kept.still) : t.pending = s.pending :=
  congrArg Still.pending h

theorem State.devtime_of_still {s t : State} (h : t.kept.still = s.kept.still) : t.pace.devtime = s.pace.devtime :=
  congrArg Still.devtime h

theorem OnlyCells.still {s t : State} {on : Nat → Prop} (h : OnlyCells s t on) : t.kept.still = s.kept.still := by
  rw [h.eq]
  rfl

theorem State.Risen.of_kept {s t : State} (h : t.kept = s.kept) : s.Risen t where
  pending := State.pending_of_still (congrArg Kept.still h)
  devtime := State.devtime_of_still (congrArg Kept.still h)
  wf := fun x => by rwa [State.mem_of_kept h]
  csLow := fun p => (State.csLow_of_still (congrArg Kept.still h) p).1
  low := fun x => (State.holderLow_of_still (congrArg Kept.still h)).trans x

theorem State.Risen.refl (s : State) : s.Risen s := .of_kept rfl

theorem State.Risen.of_paceMoves {s t : State} (h : s.PaceMoves t) : s.Risen t where
  pending := by rw [h.eq]
  devtime := h.devtime
  wf := fun x => by rw [h.eq]; exact x
  csLow := fun p => by rw [h.eq]; rfl
  low := h.low

/-! ### Resets -/

theorem State.cutPlinth_kept (s : State) : s.cutPlinth.kept = s.kept := by
  rw [State.cutPlinth, State.kept_modPlinth, State.kept_cutJournal]

/-- What a reset makes of the block before it clears the registers: cells cut off, plinth writes abandoned. -/
def State.cutAll (s : State) : State := (forEach allBanks State.cutBank s).cutPlinth

/-- R554: what a reset cuts off changes cells only where a bank works. -/
theorem State.cutBanks_onlyCells (s : State) :
    OnlyCells s (forEach allBanks State.cutBank s) (fun n => ∃ b, s.cutOn b n) := cutBanks_cells allBanks s

theorem State.cutAll_kept (s : State) : s.cutAll.kept = (forEach allBanks State.cutBank s).kept := State.cutPlinth_kept _

theorem State.cutAll_still (s : State) : s.cutAll.kept.still = s.kept.still :=
  (congrArg Kept.still s.cutAll_kept).trans s.cutBanks_onlyCells.still

theorem State.cutAll_mem (s : State) : s.cutAll.mem = (forEach allBanks State.cutBank s).mem :=
  State.mem_of_kept s.cutAll_kept

theorem State.deviceReset_mem (s : State) (kind : ResetKind) : (s.deviceReset kind).mem = s.cutAll.mem := by
  simp only [State.deviceReset, State.cutAll]

theorem State.deviceReset_pending (s : State) (kind : ResetKind) : (s.deviceReset kind).pending = s.pending := by
  rw [← State.pending_of_still s.cutAll_still]
  simp only [State.deviceReset, State.cutAll]

theorem State.deviceReset_wf (s : State) (kind : ResetKind) (h : Memory.wf s.mem = true) :
    Memory.wf (s.deviceReset kind).mem = true := by
  rw [State.deviceReset_mem, State.cutAll_mem]
  exact s.cutBanks_onlyCells.wf h

theorem State.deviceReset_port (s : State) (kind : ResetKind) (p : PortId) :
    (s.deviceReset kind).port p = (s.cutAll.port p).afterReset p := by
  simp [State.deviceReset, State.cutAll, State.port]

theorem State.deviceReset_holder (s : State) (kind : ResetKind) : (s.deviceReset kind).pace.holder = none := by
  simp only [State.deviceReset]
  split
  · rfl
  · rfl

theorem State.deviceReset_holderLow (s : State) (kind : ResetKind) : (s.deviceReset kind).holderLow = true := by
  simp [State.holderLow, State.deviceReset_holder]

/-- A SOFT RESET keeps DEVTIME (Table 15.2). -/
theorem State.softReset_devtime (s : State) : (s.deviceReset .soft).pace.devtime = s.pace.devtime := by
  rw [← State.devtime_of_still s.cutAll_still]
  simp only [State.deviceReset, State.cutAll, if_true]

theorem State.softReset_risen (s : State) : s.Risen (s.deviceReset .soft) where
  pending := s.deviceReset_pending _
  devtime := s.softReset_devtime
  wf := s.deviceReset_wf _
  csLow := fun p => by
    rw [s.deviceReset_port]
    have h := (State.csLow_of_still s.cutAll_still p).1
    generalize s.cutAll = c at h
    exact h
  low := fun _ => s.deviceReset_holderLow _

/-! ### What acts at the rise -/

/-- R580: what acts at the rise moves neither pace nor a cell, but for PACE_CTRL. -/
theorem State.kept_writeAtRise (s : State) (r : RegRef) (v : Word) (h : r ≠ .paceCtrl) :
    (s.writeAtRise r v).kept = s.kept := by
  cases r with
  | paceCtrl => exact absurd rfl h
  | mstat i =>
    simp only [State.writeAtRise]
    split
    · rfl
    · rfl
  | _ => simp [State.writeAtRise]

theorem State.writeAtRise_risen (s : State) (r : RegRef) (v : Word) : s.Risen (s.writeAtRise r v) := by
  by_cases h : r = .paceCtrl
  · subst h
    exact .of_paceMoves (s.setPolicy_moves _ _)
  · exact .of_kept (s.kept_writeAtRise r v h)

theorem State.riseAct_risen (s : State) (n : PortId) (a : RiseAct) : s.Risen (s.riseAct n a) := by
  cases a with
  | softReset => exact s.softReset_risen
  | regAct r v => exact s.writeAtRise_risen (regOf r) v
  | arm | trialEnter | trialEnd | confirm | revert => 
    simp only [State.riseAct]
    exact .of_kept (State.kept_modPort s n _ (by simp) (by simp))

theorem State.foldl_risen {α : Type} (f : State → α → State) (h : ∀ (t : State) (a : α), t.Risen (f t a)) (l : List α) (s : State) :
    s.Risen (l.foldl f s) := by
  induction l generalizing s with
  | nil => exact .refl s
  | cons a l ih => exact (h s a).trans (ih _)

theorem State.riseActs_risen (s : State) (n : PortId) : s.Risen (s.riseActs n) :=
  (State.Risen.of_kept (State.kept_modPort s n _ rfl rfl)).trans
    (State.foldl_risen _ (fun t a => State.riseAct_risen t n a) _ _)

/-- A port whose CS# is high may lose its mark of R556: it holds no pace. -/
theorem State.modPort_risen (s : State) (n : PortId) (f : Port → Port) (hn : (s.port n).csLow = false)
    (hf : (f (s.port n)).csLow = (s.port n).csLow) : s.Risen (s.modPort n f) where
  pending := rfl
  devtime := rfl
  wf := id
  csLow := fun p => by
    by_cases h : p = n
    · rw [h, State.modPort_port_self, hf]
    · rw [State.modPort_port_of_ne s n f p h]
  low := fun hs => (State.holderLow_iff _).2 fun p hp => by
    have hl := (State.holderLow_iff s).1 hs p hp
    by_cases h : p = n
    · rw [h, Port.low, hn] at hl
      cases hl
    · rwa [State.modPort_port_of_ne s n f p h]

/-- Port `n`'s transaction is over and counted; what it left for the rise is still to come. -/
def State.countedOut (s : State) (cuts : List Cut) (n : PortId) : State :=
  (((s.endFetchOf n).dropDriving n).cutUpload n).countTransaction n (cuts.find? (fun c => c.port == n))

@[simp] theorem State.kept_countedOut (s : State) (cuts : List Cut) (n : PortId) : (s.countedOut cuts n).kept = s.kept := by
  simp [State.countedOut]

/-- What a port is left with once its transaction has ended. -/
def Port.rest (x : Port) : Port :=
  Port.silenceCheck { x with atRise := [], txOp := none, chainFrame := false, waitRise := false, reply := Reply.none, cycle := 0,
                             cell := none, level := 0xFF }

@[simp] theorem Port.rest_csLow (x : Port) : x.rest.csLow = x.csLow := by simp [Port.rest]

theorem State.endTransaction_eq (s : State) (cuts : List Cut) (n : PortId) : State.endTransaction cuts s n =
    (((s.countedOut cuts n).riseActs n).riseActs n).modPort n Port.rest := rfl

theorem State.endTransaction_risen (cuts : List Cut) (s : State) (n : PortId) (hn : (s.port n).csLow = false) :
    s.Risen (State.endTransaction cuts s n) := by
  have hacts : s.Risen (((s.countedOut cuts n).riseActs n).riseActs n) :=
    ((State.Risen.of_kept (s.kept_countedOut cuts n)).trans (State.riseActs_risen _ n)).trans (State.riseActs_risen _ n)
  rw [State.endTransaction_eq]
  exact hacts.trans (State.modPort_risen _ n _ ((hacts.csLow n).trans hn) (Port.rest_csLow _))

theorem State.endTransactions_risen (cuts : List Cut) (l : List PortId) (s : State) (h : ∀ p ∈ l, (s.port p).csLow = false) :
    s.Risen (l.foldl (State.endTransaction cuts) s) := by
  induction l generalizing s with
  | nil => exact .refl s
  | cons p l ih =>
    have hp := State.endTransaction_risen cuts s p (h p List.mem_cons_self)
    have hrest := ih (State.endTransaction cuts s p) fun q hq => (hp.csLow q).trans (h q (List.mem_cons_of_mem _ hq))
    rw [List.foldl_cons]
    exact hp.trans hrest

/-! ### CS# moves -/

/-- The ports whose CS# rises. -/
def State.rising (s : State) (rises : BitVec 8) : List PortId :=
  allPorts.filter (fun p => rises.getLsbD p.val && (s.port p).csLow)

/-- CS# of the rising ports goes high. -/
def State.csUp (s : State) (rises : BitVec 8) : State :=
  (s.rising rises).foldl (fun t p => t.modPort p (fun x => { x with csLow := false })) s

/-- CS# has gone high, and pace is handed over. -/
def State.csUpHanded (s : State) (rises : BitVec 8) (late : BitVec 8) : State := match s.pace.holder with
  | some h => if (s.rising rises).contains h then (s.csUp rises).handOver late else (s.csUp rises).checkOldPacer
  | none => s.csUp rises

theorem execCsRise_eq (rises : BitVec 8) (rise : Rise) (s : State) :
    execCsRise rises rise s = .next ((s.rising rises).foldl (State.endTransaction rise.cuts) (s.csUpHanded rises rise.late)) := rfl

theorem State.rising_nodup (s : State) (rises : BitVec 8) : (s.rising rises).Nodup := allPorts_nodup.filter _

theorem State.csUp_eq (s : State) (rises : BitVec 8) : s.csUp rises = { s with ports := (s.csUp rises).ports } :=
  (State.foldl_modPort (fun _ x => { x with csLow := false }) _ (s.rising_nodup rises) s).1

theorem State.csUp_pace (s : State) (rises : BitVec 8) : (s.csUp rises).pace = s.pace := by rw [s.csUp_eq]

theorem State.csUp_port (s : State) (rises : BitVec 8) (q : PortId) :
    (s.csUp rises).port q = if q ∈ s.rising rises then { s.port q with csLow := false } else s.port q :=
  (State.foldl_modPort (fun _ x => { x with csLow := false }) _ (s.rising_nodup rises) s).2 q

/-- What the hand-over leaves: ports are as CS# going high left them, and the holder's CS# is low. -/
theorem State.csUpHanded_moves (s : State) (rises late : BitVec 8) :
    (s.csUpHanded rises late = { s.csUp rises with
      pace := (s.csUpHanded rises late).pace, freeCtr := (s.csUpHanded rises late).freeCtr })
    ∧ (s.csUpHanded rises late).pace.devtime = s.pace.devtime
    ∧ (s.holderLow = true → (s.csUpHanded rises late).holderLow = true) := by
  unfold State.csUpHanded
  cases hh : s.pace.holder with
  | none =>
    refine ⟨rfl, by rw [State.csUp_pace], fun _ => ?_⟩
    simp [State.holderLow, State.csUp_pace, hh]
  | some h =>
    dsimp only
    split
    · obtain ⟨heq, hdev, hlow⟩ := (s.csUp rises).handOver_moves late
      exact ⟨heq, by rw [hdev, State.csUp_pace], fun _ => hlow⟩
    · next hc =>
      have hm := (s.csUp rises).checkOldPacer_moves
      refine ⟨hm.eq, hm.devtime.trans (by rw [State.csUp_pace]), fun hs => hm.low ?_⟩
      have hn : h ∉ s.rising rises := by simpa using hc
      rw [State.holderLow_iff, State.csUp_pace, hh]
      intro p hp
      obtain rfl := Option.some.inj hp
      rw [s.csUp_port, if_neg hn]
      exact (State.holderLow_iff s).1 hs _ hh

theorem State.csUpHanded_port (s : State) (rises late : BitVec 8) (q : PortId) :
    (s.csUpHanded rises late).port q = if q ∈ s.rising rises then { s.port q with csLow := false } else s.port q := by
  rw [(s.csUpHanded_moves rises late).1, ← s.csUp_port]
  rfl

theorem State.csUpHanded_eq (s : State) (rises late : BitVec 8) : s.csUpHanded rises late =
    { s with ports := (s.csUpHanded rises late).ports, pace := (s.csUpHanded rises late).pace,
             freeCtr := (s.csUpHanded rises late).freeCtr } := by
  rw [(s.csUpHanded_moves rises late).1, s.csUp_eq]

/-- A CS# rise keeps the queue, DEVTIME, the canonical form of the cells, and a holder whose CS# is low. -/
theorem execCsRise_keeps (rises : BitVec 8) (rise : Rise) (s t : State) (h : execCsRise rises rise s = .next t) :
    t.pending = s.pending ∧ t.pace.devtime = s.pace.devtime ∧ (Memory.wf s.mem = true → Memory.wf t.mem = true)
    ∧ (s.holderLow = true → t.holderLow = true) := by
  rw [execCsRise_eq] at h
  cases h
  have hr := State.endTransactions_risen rise.cuts (s.rising rises) (s.csUpHanded rises rise.late) fun p hp => by
    rw [s.csUpHanded_port, if_pos hp]
  obtain ⟨-, hdev, hlow⟩ := s.csUpHanded_moves rises rise.late
  refine ⟨hr.pending.trans ?_, hr.devtime.trans hdev, fun hw => hr.wf ?_, fun hs => hr.low (hlow hs)⟩
  · rw [s.csUpHanded_eq]
  · rw [s.csUpHanded_eq]
    exact hw

/-! ### CS# falls -/

/-- The ports whose CS# falls. -/
def State.falling (s : State) (falls : BitVec 8) : List PortId :=
  allPorts.filter (fun p => falls.getLsbD p.val && !(s.port p).csLow)

/-- A port as its CS# fall leaves it, with the outbound segment `out` for a chain frame. -/
def Port.fall (out : BitVec 128) (sck : Bool) (p : Port) : Port :=
  { p with csLow := true, pol3 := sck, txOp := none, atRise := [], hold := none, fetch := none, fetchBank := none, reading := false,
           waitsNow := p.waitsSet, holdLimitNow := p.holdLimitSet, lenNow := p.lenSet, chainFrame := p.chainEn,
           reply := Reply.none, cycle := 0, cell := none, level := 0xFF, upload := none,
           shifter := if p.chainEn then out else p.shifter, frameEdges := 0 }

/-- Each falling port starts its transaction. -/
def State.csDown (s : State) (falls sck : BitVec 8) : State :=
  (s.falling falls).foldl (fun t p => t.fallOne p (sck.getLsbD p.val)) s

/-- Who holds pace once CS# has fallen (R29, R33, R34). -/
def State.csDownPaced (s : State) (falls sck : BitVec 8) : State :=
  match (s.csDown falls sck).pace.holder, (s.csDown falls sck).nominated with
  | none, _ => (s.csDown falls sck).baton
  | some h, some n =>
    if h = n then s.csDown falls sck
    else if (s.falling falls).contains n then (s.csDown falls sck).nominatedTakes n else s.csDown falls sck
  | some _, none => s.csDown falls sck

theorem execCsFall_eq (falls sck : BitVec 8) (s : State) : execCsFall falls sck s = .next (s.csDownPaced falls sck) := rfl

/-- The outbound segment of a port depends on no other port. -/
theorem State.outbound_modPort_of_ne (s : State) {p q : PortId} (f : Port → Port) (h : q ≠ p) :
    (s.modPort p f).outbound q = s.outbound q := by
  simp only [State.outbound, State.modPort_port_of_ne s p f q h]
  rfl

theorem State.foldl_fallOne (sck : BitVec 8) (l : List PortId) (hl : l.Nodup) (s : State) :
    let t := l.foldl (fun t p => t.fallOne p (sck.getLsbD p.val)) s
    t = { s with ports := t.ports }
    ∧ ∀ q, t.port q = if q ∈ l then (s.port q).fall (be128 (s.outbound q)) (sck.getLsbD q.val) else s.port q := by
  induction l generalizing s with
  | nil => exact ⟨rfl, fun q => by simp⟩
  | cons p l ih =>
    obtain ⟨hp, hl⟩ := List.nodup_cons.1 hl
    obtain ⟨heq, hport⟩ := ih hl (s.fallOne p (sck.getLsbD p.val))
    refine ⟨by rw [List.foldl_cons]; exact heq.trans rfl, fun q => ?_⟩
    rw [List.foldl_cons, hport]
    by_cases hq : q = p
    · subst hq
      rw [if_neg hp, if_pos List.mem_cons_self]
      exact s.modPort_port_self q _
    · have ho : (s.fallOne p (sck.getLsbD p.val)).outbound q = s.outbound q := s.outbound_modPort_of_ne _ hq
      have hs : (s.fallOne p (sck.getLsbD p.val)).port q = s.port q := s.modPort_port_of_ne p _ q hq
      rw [ho, hs]
      simp [hq]

theorem State.csDown_eq (s : State) (falls sck : BitVec 8) : s.csDown falls sck = { s with ports := (s.csDown falls sck).ports } :=
  (State.foldl_fallOne sck _ (allPorts_nodup.filter _) s).1

theorem State.csDown_port (s : State) (falls sck : BitVec 8) (q : PortId) : (s.csDown falls sck).port q =
    if q ∈ s.falling falls then (s.port q).fall (be128 (s.outbound q)) (sck.getLsbD q.val) else s.port q :=
  (State.foldl_fallOne sck _ (allPorts_nodup.filter _) s).2 q

theorem State.not_falling_of_low {s : State} {p : PortId} (falls : BitVec 8) (h : (s.port p).low = true) :
    p ∉ s.falling falls := by
  rw [State.falling, mem_filter_allPorts]
  rw [Port.low, Bool.and_eq_true] at h
  simp [h.1]

theorem State.csDown_holderLow {s : State} (falls sck : BitVec 8) (h : s.holderLow = true) :
    (s.csDown falls sck).holderLow = true := by
  rw [State.holderLow_iff] at h ⊢
  intro p hp
  rw [s.csDown_eq] at hp
  rw [s.csDown_port, if_neg (State.not_falling_of_low falls (h p hp))]
  exact h p hp

theorem State.csDownPaced_moves (s : State) (falls sck : BitVec 8) :
    (s.csDown falls sck).PaceMoves (s.csDownPaced falls sck) := by
  unfold State.csDownPaced
  split
  · exact State.baton_moves _
  · next n _ hn =>
    split
    · exact .refl _
    · split
      · exact State.nominatedTakes_moves _ n (State.nominated_low hn)
      · exact .refl _
  · exact .refl _

/-- A CS# fall keeps the queue, DEVTIME, the cells, and a holder whose CS# is low. -/
theorem execCsFall_keeps (falls sck : BitVec 8) (s t : State) (h : execCsFall falls sck s = .next t) :
    t.pending = s.pending ∧ t.pace.devtime = s.pace.devtime ∧ t.mem = s.mem ∧ (s.holderLow = true → t.holderLow = true) := by
  rw [execCsFall_eq] at h
  cases h
  have hm := s.csDownPaced_moves falls sck
  have he := s.csDown_eq falls sck
  refine ⟨?_, hm.devtime.trans (by rw [he]), ?_, fun hs => hm.low (State.csDown_holderLow falls sck hs)⟩
  · rw [hm.eq, he]
  · rw [hm.eq, he]

end Sys2Proof.Machine
end

section
/-! PROOFS. The pace edge (R27, R28, R34 to R37, R49): it advances DEVTIME and samples WP#; its work leaves the cells, the queue
and CS# as they are. With it, the invariants over every step. -/
namespace Sys2Proof.Machine

/-! ### The work of a pace edge -/

/-- Equal but for what `Kept` leaves out, two states tick alike. -/
theorem State.kept_tick {s t : State} (h : t.kept = s.kept) (e p n : Nat) (q : Bool) :
    (t.modPace (fun x => x.tick e p n q)).kept = (s.modPace (fun x => x.tick e p n q)).kept := by
  simp only [State.kept, Kept.mk.injEq, Still.mk.injEq] at h
  obtain ⟨⟨hpend, hdev, hcross, hqual, hpdiv, hhold, hold, hsync, hosync, hpol, hhand, hlows, hpins⟩, hmem⟩ := h
  simp only [State.kept, State.modPace, Pace.tick, hpend, hdev, hpdiv, hhold, hold, hsync, hosync, hpol, hhand, hlows,
    hpins, hmem]

/-- The pins once WP# has been sampled. -/
def State.wpSampled (s : State) : State := { s with pins := { s.pins with wp := s.pins.wpPin } }

theorem State.kept_wpSampled {s t : State} (h : t.kept = s.kept) : t.wpSampled.kept = s.wpSampled.kept := by
  simp only [State.kept, Kept.mk.injEq, Still.mk.injEq] at h
  obtain ⟨⟨hpend, hdev, hcross, hqual, hpdiv, hhold, hold, hsync, hosync, hpol, hhand, hlows, hpins⟩, hmem⟩ := h
  simp only [Pins.mk.injEq] at hpins
  simp only [State.kept, State.wpSampled, hpend, hdev, hcross, hqual, hpdiv, hhold, hold, hsync, hosync, hpol, hhand, hlows,
    hmem, hpins]

@[simp] theorem State.kept_countTicks (s : State) (n : Nat) : (s.countTicks n).kept = s.kept := by
  simp only [State.kept, State.countTicks]
  rw [lows_map _ _ (by intro; rfl) (by intro; rfl)]

theorem State.kept_edgeStart (s : State) (e p : Nat) (q : Bool) :
    (s.edgeStart e p q).kept = (s.modPace (fun x => x.tick e p (crossedBy s.pace.devtime e) q)).kept := by
  simp only [State.edgeStart, State.kept_latchWaits, State.kept_checkReservation, State.kept_notePeak,
    State.kept_portTokensMove, State.kept_countTicks, State.kept_countBrown, State.kept_recordGuard]
  exact State.kept_tick (s.kept_closeEdge _) e p _ q

theorem State.kept_setBanks (s : State) (v : Vector Bank 65) : ({ s with banks := v } : State).kept = s.kept := rfl

@[simp] theorem State.kept_edgePulses (s : State) (e f : Nat) (go : Bool) (inp : EdgeIn) :
    (s.edgePulses e f go inp).kept = s.kept := by
  unfold State.edgePulses
  simp only [apply_ite State.kept, State.kept_startPulses, State.kept_adaptPumps, State.kept_runPumps,
    State.kept_forEach allBanks State.bankGoesOn (fun t b => State.kept_bankGoesOn t b), State.kept_stagingEnds, State.kept_readsGoOn,
    State.kept_modPower, State.kept_setBanks, ite_self]

/-- What a pace edge of port `p` makes of the queue, time, pace, CS#, pins and cells: DEVTIME moves, and WP# is sampled. -/
theorem State.kept_edge (s : State) (p : PortId) (inp : EdgeIn) :
    (s.edge p inp).kept = (s.modPace (fun x => x.tick (s.port p).edgePs (s.port p).periodNow.toNat
      (crossedBy s.pace.devtime (s.port p).edgePs) (s.port p).qualifies)).wpSampled.kept := by
  simp only [State.edge, State.kept_modBoot, State.kept_annexEdge,
    State.kept_forEach allPorts State.heldMeets (fun t q => State.kept_heldMeets t q), State.kept_edgePulses]
  rw [State.kept_sampleWp]
  exact State.kept_wpSampled (s.kept_edgeStart _ _ _)

/-! ### The rising SCK edge -/

/-- What a rising SCK edge keeps: the queue, the cells, and a holder whose CS# is low. -/
structure State.Clocked (s t : State) : Prop where
  pending : t.pending = s.pending
  mem     : t.mem = s.mem
  low     : t.holderLow = s.holderLow

theorem State.Clocked.of_kept {s t : State} (h : t.kept = s.kept) : s.Clocked t where
  pending := State.pending_of_still (congrArg Kept.still h)
  mem := State.mem_of_kept h
  low := State.holderLow_of_still (congrArg Kept.still h)

theorem State.Clocked.trans {s t u : State} (h : s.Clocked t) (g : t.Clocked u) : s.Clocked u where
  pending := g.pending.trans h.pending
  mem := g.mem.trans h.mem
  low := g.low.trans h.low

theorem State.edge_clocked (s : State) (p : PortId) (inp : EdgeIn) : s.Clocked (s.edge p inp) := by
  refine State.Clocked.trans (t := (s.modPace (fun x => x.tick (s.port p).edgePs (s.port p).periodNow.toNat
      (crossedBy s.pace.devtime (s.port p).edgePs) (s.port p).qualifies)).wpSampled) ⟨rfl, rfl, rfl⟩
    (.of_kept (s.kept_edge p inp))

theorem State.paceEdgeOf_clocked (s t : State) (p : PortId) (inp : EdgeIn) (h : s.paceEdgeOf p inp = .next t) :
    s.Clocked t := by
  unfold State.paceEdgeOf at h
  split at h
  · rw [← Host.Outcome.next.inj h]
    exact s.edge_clocked p inp
  · cases h

theorem State.paceSide_clocked (s t : State) (p : PortId) (inp : EdgeIn) (h : s.paceSide p inp = .next t) : s.Clocked t := by
  unfold State.paceSide at h
  split at h
  · split at h
    · cases h
      exact ⟨rfl, rfl, rfl⟩
    · exact State.Clocked.trans (t := s.modPace (fun x => { x with oldPacer := none, oldSync := 0 })) ⟨rfl, rfl, rfl⟩
        (State.paceEdgeOf_clocked _ t p inp h)
  · split at h
    · split at h
      · cases h
        exact ⟨rfl, rfl, rfl⟩
      · exact s.paceEdgeOf_clocked t p inp h
    · cases h
      exact ⟨rfl, rfl, rfl⟩

theorem execPaceEdge_clocked (p : PortId) (inp : EdgeIn) (s t : State) (h : execPaceEdge p inp s = .next t) : s.Clocked t := by
  unfold execPaceEdge at h
  split at h
  · cases h
    exact ⟨rfl, rfl, rfl⟩
  · exact (State.Clocked.of_kept (s.kept_clock p inp.dq0)).trans (State.paceSide_clocked _ t p inp h)

/-! ### Lays and clears that end -/

theorem State.kept_endLayRow (s t : State) (b : BankId) (h : execLayEnd b s = .next t) : t.kept.still = s.kept.still := by
  refine State.still_of_onStep ?_ h
  repeat' split
  all_goals simp

theorem State.kept_clearUnitEnd (s t : State) (b : BankId) (h : execClearUnitEnd b s = .next t) :
    t.kept.still = s.kept.still := by
  refine State.still_of_onStep ?_ h
  repeat' split
  all_goals simp

theorem State.kept_firingStageEnd (s t : State) (b : BankId) (h : execFiringStageEnd b s = .next t) :
    t.kept.still = s.kept.still := by
  refine State.still_of_onStep ?_ h
  repeat' split
  all_goals simp

/-! ### Resets -/

/-- RESET# and power-on: nothing, or a reset of the block that power left as it was or marked tripped. -/
theorem execResetPin_cases (ns : Nat) (s t : State) (h : execResetPin ns s = .next t) :
    t = s.deviceReset .pin ∨ t = s ∨ t = s.useFree.deviceReset .pin ∨ t = s.useFree := by
  unfold execResetPin at h
  split at h
  · cases h
    exact .inl rfl
  · split at h
    · cases h
      exact .inr (.inl rfl)
    · split at h
      · cases h
        exact .inr (.inr (.inl rfl))
      · cases h
        exact .inr (.inr (.inr rfl))

end Sys2Proof.Machine
end

section
/-! PROOFS. The invariants that every step keeps, and what resets do: cells in canonical form, the queue, device time, the holder's
CS#, and the registers at release. -/
namespace Sys2Proof.Machine

/-! ### Cells where a lay, a clear unit or a firing ends -/

theorem State.leavePartly_setTrace (l : List (Nat × BitVec 75)) (x : Trace) (s : State) :
    ({ s with trace := x } : State).leavePartly l = { s.leavePartly l with trace := x } := by
  induction l generalizing s with
  | nil => rfl
  | cons e l ih => exact ih (State.touch { s with
      mem := writeCells s.mem e.1 (readCells s.mem e.1 &&& (e.2 ||| Config.freeCells s.freeCtr)), freeCtr := s.freeCtr + 1 } e.1)

theorem State.leaveOpen_setTrace (n lo : Nat) (x : Trace) (s : State) :
    ({ s with trace := x } : State).leaveOpen lo n = { s.leaveOpen lo n with trace := x } := by
  induction n generalizing s lo with
  | zero => rfl
  | succ n ih => exact ih (lo + 1) { s with mem := writeCells s.mem lo (Config.freeCells s.freeCtr), freeCtr := s.freeCtr + 1 }

theorem State.settleLay_setTrace (l : LayRun) (x : Trace) (s : State) :
    ({ s with trace := x } : State).settleLay l = { s.settleLay l with trace := x } := by
  unfold State.settleLay
  split
  · rfl
  · exact State.leavePartly_setTrace _ x { s with
      mem := ((l.targets.zip (List.range l.targets.length)).filter (fun x => l.verified.getLsbD x.2)).foldl
        (fun m x => writeCells m x.1.1 x.1.2) s.mem }

/-- R301, R629: the cells that the end of a lay leaves are those that settle. -/
theorem State.closeLay_mem (s : State) (b : BankId) (l : LayRun) (r : Byte) :
    (s.closeLay b l r).mem = (s.settleLay l).mem := by
  have htrace : ∀ (a : Byte) (k : Option (Fin 256)) (n : Nat) (g : BitVec 16),
      ((s.addTrace a k n g).settleLay l).mem = (s.settleLay l).mem := by
    intro a k n g
    rw [State.addTrace, State.settleLay_setTrace]
  unfold State.closeLay
  dsimp only
  rw [State.mem_of_kept (State.kept_leaveLay _ b l.op), State.modBank_mem, apply_ite State.mem,
    State.mem_of_kept (State.kept_tampFeed _ b l.pulses), ite_self]
  split
  · rfl
  · exact htrace _ _ _ _

theorem State.endLay_mem (s : State) (b : BankId) (r : Byte) (l : LayRun) (h : (s.bank b).lay = some l) :
    (s.endLay b r).mem = (s.settleLay l).mem := by
  rw [← s.closeLay_mem b l r]
  apply State.mem_of_kept
  unfold State.endLay
  simp only [h]
  repeat' split
  all_goals simp

theorem State.tracePulses_openUnit_mem (s : State) (b : BankId) (c : ClearRun) (u : UnitRef) :
    ((s.tracePulses b c).openUnit b u).mem = (s.openUnit b u).mem := by
  unfold State.tracePulses
  split
  · rfl
  · rw [State.addTrace, State.openUnit, State.leaveOpen_setTrace]
    rfl

/-- The cells that a clear unit which ends leaves: blank where it verified, open where it had a pulse and did not (R309, R630). -/
def State.unitMem (s : State) (b : BankId) (c : ClearRun) (ok : Bool) : List Host.Cell :=
  if ok then (s.blankUnit b c.unit).mem else if c.pulses = 0 then s.mem else (s.openUnit b c.unit).mem

theorem State.unitMem_wf (s : State) (b : BankId) (c : ClearRun) (ok : Bool) (h : Memory.wf s.mem = true) :
    Memory.wf (s.unitMem b c ok) = true := by
  unfold State.unitMem
  split
  · exact (blankUnit_cells s b c.unit).wf h
  · split
    · exact h
    · exact (openUnit_cells s b c.unit).wf h

theorem State.blankUnit_tracePulses_mem (s : State) (b : BankId) (c : ClearRun) (u : UnitRef) :
    ((s.tracePulses b c).blankUnit b u).mem = (s.blankUnit b u).mem := by
  show blankStones (s.tracePulses b c).mem _ _ = blankStones s.mem _ _
  rw [State.mem_of_kept (State.kept_tracePulses s b c)]

theorem State.failedUnit_mem (s : State) (b : BankId) (c : ClearRun) :
    ((if c.pulses = 0 then s.tracePulses b c else (s.tracePulses b c).openUnit b c.unit).countClearFail b).mem =
      s.unitMem b c false := by
  rw [State.mem_of_kept (State.kept_countClearFail _ b), apply_ite State.mem, State.tracePulses_openUnit_mem,
    State.mem_of_kept (State.kept_tracePulses s b c)]
  rfl

theorem State.endUnit_mem (s : State) (b : BankId) (c : ClearRun) (ok : Bool) : (s.endUnit b c ok).mem = s.unitMem b c ok := by
  have hcells : (if ok then ((s.tracePulses b c).blankUnit b c.unit).addClear b c.unit
      else (if c.pulses = 0 then s.tracePulses b c else (s.tracePulses b c).openUnit b c.unit).countClearFail b).mem =
        s.unitMem b c ok := by
    cases ok with
    | false => exact s.failedUnit_mem b c
    | true =>
      rw [if_pos rfl, State.mem_of_kept (State.kept_addClear _ b c.unit), State.blankUnit_tracePulses_mem]
      rfl
  rw [← hcells]
  apply State.mem_of_kept
  unfold State.endUnit
  dsimp only
  repeat' split
  all_goals simp

/-- What the end of a firing stage comes to (R360). -/
def State.firingEnds (s : State) (b : BankId) (c : ClearRun) : State := match c.over with
  | none => s
  | some true => (((s.tracePulses b c).blankUnit b c.unit).countFiring b c).endFiring b c true
  | some false =>
    let u := (if c.pulses = 0 then s.tracePulses b c else (s.tracePulses b c).openUnit b c.unit).countClearFail b
    if c.stage = 0 then
      u.modBank b (fun k => { k with clear := some { c with
        stage := 1, inClear := false, fireTime := 0, verified := false, time := 0, pulses := 0, pulse := none, stretch := 100 } })
    else u.endFiring b c false

theorem State.firingEnds_mem (s : State) (b : BankId) (c : ClearRun) :
    (s.firingEnds b c).mem = s.mem ∨ ∃ ok, (s.firingEnds b c).mem = s.unitMem b c ok := by
  unfold State.firingEnds
  split
  · exact .inl rfl
  · refine .inr ⟨true, ?_⟩
    rw [State.mem_of_kept (State.kept_endFiring _ b c true), State.mem_of_kept (State.kept_countFiring _ b c),
      State.blankUnit_tracePulses_mem]
    rfl
  · refine .inr ⟨false, ?_⟩
    have hf := s.failedUnit_mem b c
    dsimp only
    generalize State.countClearFail _ b = u at hf ⊢
    rw [← hf]
    split
    · rfl
    · exact State.mem_of_kept (State.kept_endFiring u b c false)

theorem execFiringStageEnd_mem (s t : State) (b : BankId) (h : execFiringStageEnd b s = .next t) :
    t.mem = s.mem ∨ ∃ c ok, (s.bank b).clear = some c ∧ t.mem = s.unitMem b c ok := by
  obtain rfl | rfl := State.eq_of_onStep h
  case inr => exact .inl rfl
  case inl =>
    show State.mem (ite _ _ _) = _ ∨ _
    split
    · exact .inl rfl
    · split
      · exact .inl rfl
      · next c hc =>
        split
        · exact .inl rfl
        · split
          · split
            · exact .inl (State.mem_of_kept (State.kept_tracePulses s b c))
            · exact .inl rfl
          · obtain hm | ⟨ok, hm⟩ := s.firingEnds_mem b c
            · exact .inl hm
            · exact .inr ⟨c, ok, hc, hm⟩

theorem execLayEnd_mem (s t : State) (b : BankId) (h : execLayEnd b s = .next t) :
    t.mem = s.mem ∨ ∃ l, (s.bank b).lay = some l ∧ t.mem = (s.settleLay l).mem := by
  obtain rfl | rfl := State.eq_of_onStep h
  case inr => exact .inl rfl
  case inl =>
    cases hl : (s.bank b).lay with
    | none => exact .inl rfl
    | some l =>
      simp only [State.atStage, State.modPace_mem]
      have hend := fun r => s.endLay_mem b r l hl
      split
      · exact .inl rfl
      · split
        · split
          · exact .inr ⟨l, rfl, hend _⟩
          · exact .inl rfl
        · split
          · exact .inr ⟨l, rfl, hend _⟩
          · split
            · exact .inr ⟨l, rfl, hend _⟩
            · exact .inl rfl

theorem execClearUnitEnd_mem (s t : State) (b : BankId) (h : execClearUnitEnd b s = .next t) :
    t.mem = s.mem ∨ ∃ c ok, (s.bank b).clear = some c ∧ t.mem = s.unitMem b c ok := by
  obtain rfl | rfl := State.eq_of_onStep h
  case inr => exact .inl rfl
  case inl =>
    cases hc : (s.bank b).clear with
    | none => exact .inl rfl
    | some c =>
      simp only [State.atStage, State.modPace_mem]
      split
      · exact .inl rfl
      · split
        · next ok _ => exact .inr ⟨c, ok, rfl, s.endUnit_mem b c ok⟩
        · exact .inl rfl

/-- The rows of work that end a lay, a clear unit or a firing keep the canonical form of the cells. -/
theorem wf_of_settled {s t : State} {b : BankId} (h : t.mem = s.mem ∨ ∃ l, (s.bank b).lay = some l ∧ t.mem = (s.settleLay l).mem)
    (hw : Memory.wf s.mem = true) : Memory.wf t.mem = true := by
  obtain hm | ⟨l, -, hm⟩ := h
  · rwa [hm]
  · rw [hm]
    exact (settleLay_cells s l).wf hw

theorem wf_of_unit {s t : State} {b : BankId}
    (h : t.mem = s.mem ∨ ∃ c ok, (s.bank b).clear = some c ∧ t.mem = s.unitMem b c ok)
    (hw : Memory.wf s.mem = true) : Memory.wf t.mem = true := by
  obtain hm | ⟨c, ok, -, hm⟩ := h
  · rwa [hm]
  · rw [hm]
    exact s.unitMem_wf b c ok hw

end Sys2Proof.Machine
end

section
/-! PROOFS. The invariants that every step keeps, and what the resets do: cells in canonical form, the queue, device time, the
holder's CS#, and the registers at release. -/
namespace Sys2Proof.Machine

/-! ### The rows that move pins -/

/-- `t` is `s` but for pins and ports, and every CS# is at the level it was at. -/
structure State.PinsMoved (s t : State) : Prop where
  eq  : t = { s with pins := t.pins, ports := t.ports }
  low : t.holderLow = s.holderLow

theorem State.PinsAlone.moved {s t : State} (h : s.PinsAlone t) : s.PinsMoved t := by
  obtain ⟨heq, -, hport⟩ := h
  refine ⟨heq, ?_⟩
  have hh : t.pace.holder = s.pace.holder := by rw [heq]
  unfold State.holderLow
  rw [hh]
  cases s.pace.holder with
  | none => rfl
  | some p =>
    show (t.port p).low = (s.port p).low
    rw [hport p]
    rfl

theorem exec_pinsMoved {c : Instr} {s t : State} (hc : isPinMove c = true) (h : exec c s = .next t) : s.PinsMoved t := by
  obtain ⟨u, hu, hp⟩ := exec_pinsAlone c s hc
  rw [h] at hu
  rw [Host.Outcome.next.inj hu]
  exact hp.moved

/-! ### Every command -/

section
variable (c : Instr) (s t : State) (h : exec c s = .next t)
include h

/-- No command touches the queue. -/
theorem exec_pending : t.pending = s.pending := by
  cases hk : movesKept c with
  | false => exact State.pending_of_still (congrArg Kept.still (exec_kept c s t hk h))
  | true =>
    cases c with
    | powerOnReset b =>
      rw [← Host.Outcome.next.inj h]
      exact State.deviceReset_pending _ _
    | resetPin ns =>
      obtain rfl | rfl | rfl | rfl := execResetPin_cases ns s t h
      · exact s.deviceReset_pending _
      · rfl
      · exact s.useFree.deviceReset_pending _
      · rfl
    | csFall falls sck => exact (execCsFall_keeps falls sck s t h).1
    | csRise rises rise => exact (execCsRise_keeps rises rise s t h).1
    | paceEdge p inp => exact (execPaceEdge_clocked p inp s t h).pending
    | wpHigh | wpLow | supplyGroupLoss | supplyGroupReturn => rw [(exec_pinsMoved rfl h).eq]
    | layEnd b => exact State.pending_of_still (State.kept_endLayRow s t b h)
    | clearUnitEnd b => exact State.pending_of_still (State.kept_clearUnitEnd s t b h)
    | firingStageEnd b => exact State.pending_of_still (State.kept_firingStageEnd s t b h)
    | _ => cases hk

/-- R49, Table 15.2: only pace edges and device-wide resets from outside move DEVTIME. -/
theorem exec_devtime (hc : movesTime c = false) : t.pace.devtime = s.pace.devtime := by
  cases hk : movesKept c with
  | false => exact State.devtime_of_still (congrArg Kept.still (exec_kept c s t hk h))
  | true =>
    cases c with
    | powerOnReset | resetPin | paceEdge => cases hc
    | csFall falls sck => exact (execCsFall_keeps falls sck s t h).2.1
    | csRise rises rise => exact (execCsRise_keeps rises rise s t h).2.1
    | wpHigh | wpLow | supplyGroupLoss | supplyGroupReturn => rw [(exec_pinsMoved rfl h).eq]
    | layEnd b => exact State.devtime_of_still (State.kept_endLayRow s t b h)
    | clearUnitEnd b => exact State.devtime_of_still (State.kept_clearUnitEnd s t b h)
    | firingStageEnd b => exact State.devtime_of_still (State.kept_firingStageEnd s t b h)
    | _ => cases hk

/-- Cells change only at resets, CS# rises and the ends of lays, clear units and firings. -/
theorem exec_mem (hc : mayChangeCells c = false) : t.mem = s.mem := by
  cases hk : movesKept c with
  | false => exact State.mem_of_kept (exec_kept c s t hk h)
  | true =>
    cases c with
    | powerOnReset | resetPin | csRise | layEnd | clearUnitEnd | firingStageEnd => cases hc
    | csFall falls sck => exact (execCsFall_keeps falls sck s t h).2.2.1
    | paceEdge p inp => exact (execPaceEdge_clocked p inp s t h).mem
    | wpHigh | wpLow | supplyGroupLoss | supplyGroupReturn => rw [(exec_pinsMoved rfl h).eq]
    | _ => cases hk

/-- Every command keeps the canonical form of the cells. -/
theorem exec_wf (hw : Memory.wf s.mem = true) : Memory.wf t.mem = true := by
  cases hm : mayChangeCells c with
  | false => rwa [exec_mem c s t h hm]
  | true =>
    cases c with
    | powerOnReset b =>
      rw [← Host.Outcome.next.inj h]
      exact State.deviceReset_wf _ _ hw
    | resetPin ns =>
      obtain rfl | rfl | rfl | rfl := execResetPin_cases ns s t h
      · exact s.deviceReset_wf _ hw
      · exact hw
      · exact s.useFree.deviceReset_wf _ hw
      · exact hw
    | csRise rises rise => exact (execCsRise_keeps rises rise s t h).2.2.1 hw
    | layEnd b => exact wf_of_settled (execLayEnd_mem s t b h) hw
    | clearUnitEnd b => exact wf_of_unit (execClearUnitEnd_mem s t b h) hw
    | firingStageEnd b => exact wf_of_unit (execFiringStageEnd_mem s t b h) hw
    | _ => cases hm

/-- R27, R31, R556: every command leaves pace with no port, or with one whose CS# counts as low. -/
theorem exec_holderLow (hs : s.holderLow = true) : t.holderLow = true := by
  cases hk : movesKept c with
  | false => rwa [State.holderLow_of_still (congrArg Kept.still (exec_kept c s t hk h))]
  | true =>
    cases c with
    | powerOnReset b =>
      rw [← Host.Outcome.next.inj h]
      exact State.deviceReset_holderLow _ _
    | resetPin ns =>
      obtain rfl | rfl | rfl | rfl := execResetPin_cases ns s t h
      · exact s.deviceReset_holderLow _
      · exact hs
      · exact s.useFree.deviceReset_holderLow _
      · exact hs
    | csFall falls sck => exact (execCsFall_keeps falls sck s t h).2.2.2 hs
    | csRise rises rise => exact (execCsRise_keeps rises rise s t h).2.2.2 hs
    | paceEdge p inp => rwa [(execPaceEdge_clocked p inp s t h).low]
    | wpHigh | wpLow | supplyGroupLoss | supplyGroupReturn => rwa [(exec_pinsMoved rfl h).low]
    | layEnd b => rwa [State.holderLow_of_still (State.kept_endLayRow s t b h)]
    | clearUnitEnd b => rwa [State.holderLow_of_still (State.kept_clearUnitEnd s t b h)]
    | firingStageEnd b => rwa [State.holderLow_of_still (State.kept_firingStageEnd s t b h)]
    | _ => cases hk

end

/-! ### Every step -/

/-- A step idles on an empty queue, or runs the front command with the rest of the queue. -/
theorem step_cases {s t : State} (h : step s = .next t) :
    (s.pending = [] ∧ t = s) ∨ ∃ c rest, s.pending = c :: rest ∧ exec c { s with pending := rest } = .next t := by
  unfold step at h
  split at h
  · next hp => exact .inl ⟨hp, (Host.Outcome.next.inj h).symm⟩
  · next c rest hp => exact .inr ⟨c, rest, hp, h⟩

/-- An invariant that does not look at the queue and that every command keeps is kept by every step. -/
theorem step_keeps {P : State → Prop} (hq : ∀ (s : State) (l : List Instr), P s → P { s with pending := l })
    (hexec : ∀ (c : Instr) (s t : State), exec c s = .next t → P s → P t) {s t : State} (h : step s = .next t) (hs : P s) : P t := by
  obtain ⟨-, rfl⟩ | ⟨c, rest, -, hc⟩ := step_cases h
  · exact hs
  · exact hexec c _ t hc (hq s rest hs)

/-- Settles O1: `step` is `exec` of the front command, by definition. -/
theorem stepRunsFrontCommand : Obligations.StepRunsFrontCommand := fun _ => ⟨fun _ _ => rfl, rfl⟩

/-- Settles O4: a write of cells keeps the canonical form, and cells change by such writes alone. -/
theorem memoryStaysCanonical : Obligations.MemoryStaysCanonical := fun _ _ hs h =>
  step_keeps (P := fun s => Memory.wf s.mem = true) (fun _ _ hw => hw) exec_wf h hs

/-- Settles O5: a step hands `exec` the queue's rest, and no command touches that. -/
theorem stepTakesOneCommand : Obligations.StepTakesOneCommand := by
  intro s t h
  obtain ⟨hp, rfl⟩ | ⟨c, rest, hp, hc⟩ := step_cases h
  · rw [hp]
    rfl
  · rw [exec_pending c _ t hc, hp]
    rfl

/-- Settles O6: every operation but the ends of lays, clears and firings and the resets keeps the cells. -/
theorem cellsChangeOnlyHere : Obligations.CellsChangeOnlyHere := fun c s t hc h => exec_mem c s t h hc

/-- Settles O7: DEVTIME is a part of what every other command keeps. -/
theorem timeMovesOnPaceEdges : Obligations.TimeMovesOnPaceEdges := fun c s t hc h => exec_devtime c s t h hc

/-- Settles O8: pace is only ever given to a port whose CS# counts as low, and a holder's CS# rise hands it over. -/
theorem holderStaysLow : Obligations.HolderStaysLow := fun _ _ hs h =>
  step_keeps (P := fun s => s.holderLow = true) (fun _ _ hl => hl) exec_holderLow h hs

/-- Settles O3: the reset state has no cell listed, no holder, no operation and no command waiting. -/
theorem resetStateIsGood : Obligations.ResetStateIsGood := ⟨rfl, rfl, rfl, rfl⟩

/-! ### Resets -/

/-- What a reset cuts off on a bank is what the bank works on. -/
theorem State.worksOn_of_cutOn {s : State} {b : BankId} {n : Nat} (h : s.cutOn b n) : s.worksOn b n = true := by
  unfold State.worksOn
  obtain ⟨l, hl, hp, e, he, rfl⟩ | ⟨c, hc, hheld, hlo, hhi⟩ := h
  · have hpulsed : (l.pulse.isSome || decide (0 < l.pulses)) = true := by
      cases hpl : l.pulse with
      | some x => rfl
      | none => simpa [hpl, Nat.pos_iff_ne_zero] using hp
    have hmem : l.targets.any (fun x => x.1 == e.1) = true := List.any_eq_true.2 ⟨e, he, by simp⟩
    simp [hl, hpulsed, hmem]
  · have hrun : (!c.held && !c.boundary) = true := by simpa using hheld
    simp [hc, hrun, hlo, hhi]

/-- R554: a reset changes no cell of a stone that nothing works on. -/
theorem State.deviceReset_read (s : State) (kind : ResetKind) (a : Nat) (h : ∀ b : BankId, s.worksOn b (a / 10) = false) :
    Memory.read (s.deviceReset kind).mem a = Memory.read s.mem a := by
  rw [State.deviceReset_mem, State.cutAll_mem]
  refine s.cutBanks_onlyCells.read a ?_
  rintro ⟨b, hb⟩
  have hw := h b
  rw [State.worksOn_of_cutOn hb] at hw
  cases hw

/-- Settles O12: what a reset cuts off is what a lay or a clear works on. -/
theorem resetKeepsOtherCells : Obligations.ResetKeepsOtherCells := by
  rintro c s t (⟨ns, rfl⟩ | ⟨tripped, rfl⟩) hexec a ha
  · obtain rfl | rfl | rfl | rfl := execResetPin_cases ns s t hexec
    · exact s.deviceReset_read _ a ha
    · rfl
    · exact s.useFree.deviceReset_read _ a ha
    · rfl
  · rw [← Host.Outcome.next.inj hexec]
    exact State.deviceReset_read _ _ a ha

end Sys2Proof.Machine
end

section
/-! PROOFS. Pace edges in time (R27, R28, R34 to R36, R49, R52, R532): what a rising SCK edge leaves of the pace registers and of
the ports' declared periods. -/
namespace Sys2Proof.Machine

/-! ### The period in force of a port moves at CS# rises and resets only -/

/-- The periods in force (R49). -/
def State.periods (s : State) : Vector (BitVec 32 × Bool) 8 := s.ports.map (fun p => (p.periodNow, p.declaredNow))

section
variable (s : State)

theorem State.periods_modPort (p : PortId) (f : Port → Port) (h1 : (f (s.port p)).periodNow = (s.port p).periodNow)
    (h2 : (f (s.port p)).declaredNow = (s.port p).declaredNow) : (s.modPort p f).periods = s.periods := by
  simp only [State.port] at h1 h2
  refine Vector.ext fun j hj => ?_
  simp only [State.periods, State.modPort, Vector.getElem_map, Vector.getElem_set, State.port]
  split
  · next h =>
    subst h
    rw [h1, h2]
  · rfl

@[simp] theorem State.periods_modBank (b : BankId) (f : Bank → Bank) : (s.modBank b f).periods = s.periods := rfl
@[simp] theorem State.periods_modGate (g : GateId) (f : Gate → Gate) : (s.modGate g f).periods = s.periods := rfl
@[simp] theorem State.periods_modAnx (a : AnnexId) (f : Annex → Annex) : (s.modAnx a f).periods = s.periods := rfl
@[simp] theorem State.periods_modGlob (f : Glob → Glob) : (s.modGlob f).periods = s.periods := rfl
@[simp] theorem State.periods_modOp (n : Nat) (f : Op → Op) : (s.modOp n f).periods = s.periods := rfl
@[simp] theorem State.periods_dropOp (n : Nat) : (s.dropOp n).periods = s.periods := rfl
@[simp] theorem State.periods_freeYard (n : Nat) : (s.freeYard n).periods = s.periods := rfl
@[simp] theorem State.periods_addTrace (a : Byte) (k : Option (Fin 256)) (b : Nat) (v : BitVec 16) :
    (s.addTrace a k b v).periods = s.periods := rfl
@[simp] theorem State.periods_useFree : s.useFree.periods = s.periods := rfl

/-! Annexes. -/

@[simp] theorem State.periods_stopRead (a : BitVec 32) : (s.stopRead a).periods = s.periods := by
  unfold State.stopRead
  split <;> rfl

theorem State.periods_sends (a : AnnexId) (l : List Exchange) : (l.foldl (fun t e => t.send a e) s).periods = s.periods := by
  induction l generalizing s with
  | nil => rfl
  | cons e l ih => exact ih (s.send a e)

@[simp] theorem State.periods_probePartner (a : AnnexId) (p : PartnerId) (rx : List Byte) :
    (s.probePartner a p rx).1.periods = s.periods := by
  unfold State.probePartner
  dsimp only
  split
  · dsimp only
    split
    · exact State.periods_sends _ a _
    · exact State.periods_sends _ a _
  · rfl

@[simp] theorem State.periods_readPartner (n : AnnexId) (p : PartnerId) (a : BitVec 32) (rx : List Byte) :
    (s.readPartner n p a rx).1.periods = s.periods := by
  unfold State.readPartner
  dsimp only
  split <;> rfl

/-! Suspensions that a fetch asks for. -/

@[simp] theorem State.periods_grantSuspend (b : BankId) (host : Bool) : (s.grantSuspend b host).periods = s.periods := by
  unfold State.grantSuspend State.traceSusp State.slotShows
  split <;> split <;> rfl

@[simp] theorem State.periods_requestSuspend (b : BankId) (host : Bool) :
    (s.requestSuspend b host).1.periods = s.periods := by
  unfold State.requestSuspend
  dsimp only
  split <;> simp [apply_ite Prod.fst, apply_ite State.periods]

@[simp] theorem State.periods_fetchMeets (b : BankId) (block sector : Nat) :
    (s.fetchMeets b block sector).periods = s.periods := by
  unfold State.fetchMeets
  dsimp only
  split <;> simp [apply_ite State.periods]

/-! Fetches. -/

@[simp] theorem State.periods_fetchOn (p : PortId) (b : Option BankId) : (s.fetchOn p b).periods = s.periods := by
  unfold State.fetchOn
  rw [State.periods_modPort _ _ _ rfl rfl]
  split <;> simp [apply_ite State.periods]

@[simp] theorem State.periods_noteRead (b : BankId) (k : Option (Fin 256)) (ix : Nat) (r : StoneRead) :
    (s.noteRead b k ix r).periods = s.periods := by
  simp [State.noteRead, State.plumbFeed, apply_ite State.periods]

@[simp] theorem State.periods_lastResult (a : AnnexId) (p : PartnerId) (r : Byte) :
    (s.lastResult a p r).periods = s.periods := rfl

@[simp] theorem State.periods_driveStone (p : PortId) (src : Source) (a : BitVec 32) (flip : BitVec 75) (rx : List Byte) :
    (s.driveStone p src a flip rx).1.periods = s.periods := by
  unfold State.driveStone
  split
  · simp [apply_ite State.periods]
  · split
    · dsimp only
      split
      · simp
      · split
        · simp
        · split <;> simp
    · rw [State.periods_modPort _ _ _ rfl rfl]
      simp

@[simp] theorem State.periods_fetchWaits (p : PortId) (src : Source) (a : BitVec 32) :
    (s.fetchWaits p src a).periods = s.periods := by
  unfold State.fetchWaits
  split
  · simp
  · simp [apply_ite State.periods, State.periods_modPort]

@[simp] theorem State.periods_beginHold (p : PortId) (f : FetchRun) (x : Bool) : (s.beginHold p f x).periods = s.periods := by
  simp [State.beginHold, State.periods_modPort]

@[simp] theorem State.periods_endData (p : PortId) : (s.endData p).periods = s.periods := by
  unfold State.endData State.endStream
  rw [State.periods_modPort _ _ _ rfl rfl]
  split <;> simp [apply_ite State.periods]

@[simp] theorem State.periods_endStopped (p : PortId) : (s.endStopped p).periods = s.periods := by
  simp [State.endStopped, State.periods_modPort]

@[simp] theorem State.periods_noteMeet (a : BitVec 32) (m : Meet) : (s.noteMeet a m).periods = s.periods := by
  unfold State.noteMeet
  split
  · simp [State.violate, State.cause, apply_ite State.periods]
  · split <;> rfl
  · rfl

@[simp] theorem State.periods_nextStone (p : PortId) (f : FetchRun) : (s.nextStone p f).periods = s.periods := by
  unfold State.nextStone
  dsimp only
  split
  · simp [apply_ite State.periods, State.periods_modPort]
  · split
    · split <;> simp [State.periods_modPort]
    · simp [apply_ite State.periods, State.periods_modPort]
    · simp

/-! The reply. -/

@[simp] theorem State.periods_feedMore (p : PortId) (data : List Byte) (feed : Feed) :
    (s.feedMore p data feed).periods = s.periods := s.periods_modPort p _ rfl rfl

@[simp] theorem State.periods_recordSent (p : PortId) : (s.recordSent p).periods = s.periods := s.periods_modPort p _ rfl rfl

@[simp] theorem State.periods_pull (p : PortId) : (s.pull p).periods = s.periods := by
  unfold State.pull
  dsimp only
  split
  case h_3 => split <;> simp [apply_ite State.periods]
  case h_7 =>
    unfold State.pickRecord
    split <;> simp [State.periods_modPort]
  all_goals simp

@[simp] theorem State.periods_collected (o : Op) : (s.collected o).periods = s.periods := by
  unfold State.collected State.drainYard
  dsimp only
  split
  · rfl
  · split <;> rfl

@[simp] theorem State.periods_partDone (p : PortId) : (s.partDone p).periods = s.periods := by
  unfold State.partDone
  dsimp only
  split
  · split
    · simp [State.periods_modPort]
    · split <;> simp [State.periods_modPort]
  · simp [apply_ite State.periods, State.periods_modPort]

@[simp] theorem State.periods_emit (p : PortId) : (s.emit p).periods = s.periods := by
  simp [State.emit, apply_ite State.periods, State.periods_modPort, Port.nextPhase]

@[simp] theorem State.periods_fixStatus (p : PortId) : (s.fixStatus p).periods = s.periods := by
  unfold State.fixStatus State.fetchLate
  dsimp only
  split <;> simp [apply_ite State.periods, State.periods_modPort]

@[simp] theorem State.periods_drive (p : PortId) : (s.drive p).periods = s.periods := by
  unfold State.drive
  dsimp only
  simp [apply_ite State.periods]

/-- R28, R49: what a port's lanes carry moves on without a change of any period in force. -/
@[simp] theorem State.periods_clock (p : PortId) (dq0 : Bool) : (s.clock p dq0).periods = s.periods := by
  unfold State.clock
  dsimp only
  split
  · exact s.periods_modPort p _ (by simp [Port.chainShift]) (by simp [Port.chainShift])
  · simp [apply_ite State.periods, State.periods_modPort]

end

theorem State.port_of_periods {s t : State} (h : t.periods = s.periods) (p : PortId) :
    (t.port p).periodNow = (s.port p).periodNow ∧ (t.port p).declaredNow = (s.port p).declaredNow := by
  have h2 := congrArg (fun v => v[p.val]) h
  simp only [State.periods, Vector.getElem_map, Prod.mk.injEq] at h2
  exact h2

/-! ### Which edge is a pace edge -/

/-- The state in which port `p`, which holds pace, begins its pace edge: its lanes have moved on, an old holder paces no more. -/
def State.pacing (s : State) (p : PortId) (inp : EdgeIn) : State :=
  (s.clock p inp.dq0).modPace (fun x => { x with oldPacer := none, oldSync := 0 })

theorem execPaceEdge_of_low {s : State} {p : PortId} (inp : EdgeIn) (h : (s.port p).low = true) :
    execPaceEdge p inp s = (s.clock p inp.dq0).paceSide p inp := by
  simp [execPaceEdge, h]

theorem State.clock_still (s : State) (p : PortId) (dq0 : Bool) : (s.clock p dq0).kept.still = s.kept.still :=
  congrArg Kept.still (s.kept_clock p dq0)

section
variable (s : State) (p : PortId) (dq0 : Bool)

theorem State.clock_holder : (s.clock p dq0).pace.holder = s.pace.holder := congrArg Still.holder (s.clock_still p dq0)
theorem State.clock_sync : (s.clock p dq0).pace.sync = s.pace.sync := congrArg Still.sync (s.clock_still p dq0)
theorem State.clock_oldPacer : (s.clock p dq0).pace.oldPacer = s.pace.oldPacer :=
  congrArg Still.oldPacer (s.clock_still p dq0)
theorem State.clock_oldSync : (s.clock p dq0).pace.oldSync = s.pace.oldSync := congrArg Still.oldSync (s.clock_still p dq0)

end

/-- R35: the edge of a holder that owes no synchronising edge is a pace edge. -/
theorem execPaceEdge_pacing {s : State} {p : PortId} (inp : EdgeIn) (hlow : (s.port p).low = true)
    (hh : s.pace.holder = some p) (hs : s.pace.sync = 0) : execPaceEdge p inp s = (s.pacing p inp).paceEdgeOf p inp := by
  rw [execPaceEdge_of_low inp hlow]
  simp [State.paceSide, State.clock_holder, State.clock_sync, hh, hs, State.pacing]

theorem State.pacing_kept (s : State) (p : PortId) (inp : EdgeIn) :
    (s.pacing p inp).kept = (s.modPace (fun x => { x with oldPacer := none, oldSync := 0 })).kept := by
  have h := s.kept_clock p inp.dq0
  simp only [State.kept, Kept.mk.injEq, Still.mk.injEq] at h
  obtain ⟨⟨hpend, hdev, hcross, hqual, hpdiv, hhold, hold, hsync, hosync, hpol, hhand, hlows, hpins⟩, hmem⟩ := h
  simp only [State.kept, State.pacing, State.modPace, hpend, hdev, hcross, hqual, hpdiv, hhold, hsync, hpol, hhand, hlows,
    hpins, hmem]

/-- What a pace edge of the holder makes of the pace registers, the queue, CS#, the pins and the cells. -/
theorem State.pacing_edge_kept (s : State) (p : PortId) (inp : EdgeIn) :
    ((s.pacing p inp).edge p inp).kept =
      ((s.modPace (fun x => { x with oldPacer := none, oldSync := 0 })).modPace (fun x => x.tick (s.port p).edgePs
        (s.port p).periodNow.toNat (crossedBy s.pace.devtime (s.port p).edgePs) (s.port p).qualifies)).wpSampled.kept := by
  obtain ⟨h1, h2⟩ := State.port_of_periods (t := s.pacing p inp) (s.periods_clock p inp.dq0) p
  have hd : (s.pacing p inp).pace.devtime = s.pace.devtime :=
    State.devtime_of_still (s := s) (t := s.clock p inp.dq0) (s.clock_still p inp.dq0)
  rw [State.kept_edge, Port.edgePs, Port.qualifies, h1, h2, hd]
  exact State.kept_wpSampled (State.kept_tick (s.pacing_kept p inp) _ _ _ _)

theorem State.csLow_of_lows {s t : State} (h : t.kept.still.lows = s.kept.still.lows) (p : PortId) :
    (t.port p).csLow = (s.port p).csLow := by
  have h2 := congrArg (fun v => v[p.val].1) h
  simp only [State.lows_getElem] at h2
  exact h2

/-- The pace registers, the queue and CS#, of two states that are equal in what `Kept` holds. -/
theorem State.pace_of_kept {s t : State} (h : t.kept = s.kept) :
    t.pace.devtime = s.pace.devtime ∧ t.pace.crossed = s.pace.crossed ∧ t.pace.qualified = s.pace.qualified
    ∧ t.pace.pdiv = s.pace.pdiv ∧ t.pace.holder = s.pace.holder ∧ t.pace.oldPacer = s.pace.oldPacer ∧ t.pace.sync = s.pace.sync
    ∧ t.pace.policy = s.pace.policy ∧ t.pace.handovers = s.pace.handovers ∧ t.pending = s.pending
    ∧ t.kept.still.lows = s.kept.still.lows := by
  simp only [State.kept, Kept.mk.injEq, Still.mk.injEq] at h ⊢
  obtain ⟨⟨hpend, hdev, hcross, hqual, hpdiv, hhold, hold, hsync, -, hpol, hhand, hlows, -⟩, -⟩ := h
  exact ⟨hdev, hcross, hqual, hpdiv, hhold, hold, hsync, hpol, hhand, hpend, hlows⟩

/-- R49: the tick boundaries that an edge crosses, while DEVTIME does not wrap. -/
theorem crossedBy_of_lt (d : BitVec 64) (e : Nat) (h : d.toNat + e < 2 ^ 64) :
    crossedBy d e = (d.toNat + e) / 2 ^ 20 - d.toNat / 2 ^ 20 := by
  have hle : d.toNat / 2 ^ 20 ≤ (d.toNat + e) / 2 ^ 20 := Nat.div_le_div_right (Nat.le_add_right _ _)
  simp only [crossedBy, BitVec.toNat_sub, BitVec.toNat_ushiftRight, BitVec.toNat_add, BitVec.toNat_ofNat,
    Nat.shiftRight_eq_div_pow]
  omega

/-- Settles O18: a pace edge of the holder is `Pace.tick` of its period, and nothing else on it moves the pace registers. -/
theorem paceEdgesAdvanceTime : Obligations.PaceEdgesAdvanceTime := by
  refine ⟨fun s p inp hlow hh hs hmv => ?_, fun s p inp hlow => ?_, fun s p inp hlow hh ho => ?_,
    fun s p inp hlow hh hs hmv => ?_⟩
  · refine ⟨(s.pacing p inp).edge p inp, ?_, ?_⟩
    · show execPaceEdge p inp s = _
      rw [execPaceEdge_pacing inp hlow hh hs, State.paceEdgeOf, vccInRange, decide_eq_true hmv, if_pos rfl]
    · have hk := s.pacing_edge_kept p inp
      generalize (s.pacing p inp).edge p inp = t at hk
      obtain ⟨hdev, hcross, hqual, hpdiv, hhold, hold, hsync, hpol, hhand, hpend, hlows⟩ := State.pace_of_kept hk
      refine ⟨hdev, fun hlt => ?_, hqual, ?_, hhold.trans hh, hold, hsync.trans hs, hpol, hhand, hpend,
        State.csLow_of_lows hlows⟩
      · rw [hcross, ← crossedBy_of_lt s.pace.devtime _ hlt]
        rfl
      · rw [hpdiv, hqual]
        rfl
  · show execPaceEdge p inp s = _
    simp [execPaceEdge, hlow]
  · refine ⟨?_, State.devtime_of_still (s.clock_still p inp.dq0), State.mem_of_kept (s.kept_clock p inp.dq0)⟩
    show execPaceEdge p inp s = _
    rw [execPaceEdge_of_low inp hlow]
    simp [State.paceSide, State.clock_holder, State.clock_oldPacer, hh, ho]
  · show execPaceEdge p inp s = _
    rw [execPaceEdge_pacing inp hlow hh hs, State.paceEdgeOf, vccInRange, decide_eq_false (by omega), if_neg (by simp)]

/-- Settles O17: a synchronising edge changes the count of edges owed alone, besides the lanes. -/
theorem synchronisingEdges : Obligations.SynchronisingEdges := by
  intro s p inp hlow same
  have hk := s.kept_clock p inp.dq0
  have hsync := s.clock_sync p inp.dq0
  have hosync := s.clock_oldSync p inp.dq0
  have hside := execPaceEdge_of_low inp hlow
  have hcs := fun q => (State.csLow_of_still (s.clock_still p inp.dq0) q).1
  simp only [State.paceSide, State.clock_holder, State.clock_oldPacer, hsync, hosync] at hside
  have hm := State.mem_of_kept hk
  obtain ⟨hdev, hcross, hqual, hpdiv, hhold, hold, -, -, -, hpend, -⟩ := State.pace_of_kept hk
  refine ⟨fun hh hs => ?_, fun hh ho hs => ?_⟩
  · have he : exec (.paceEdge p inp) s = .next ((s.clock p inp.dq0).modPace (fun x => { x with sync := s.pace.sync - 1 })) := by
      show execPaceEdge p inp s = _
      simp [hside, hh, hs, State.modPace, hsync]
    exact ⟨he, _, he, ⟨hdev, hcross, hqual, hpdiv, hhold, hold, hm, hpend, hcs⟩, hosync⟩
  · have he : exec (.paceEdge p inp) s =
        .next ((s.clock p inp.dq0).modPace (fun x => { x with oldSync := s.pace.oldSync - 1 })) := by
      show execPaceEdge p inp s = _
      simp [hside, hh, ho, hs, State.modPace, hosync]
    exact ⟨he, _, he, ⟨hdev, hcross, hqual, hpdiv, hhold, hold, hm, hpend, hcs⟩, hsync⟩

end Sys2Proof.Machine
end

section
/-! PROOFS. Names and places of operations (R181, R211, R213, R225): every operation of the model but a commit only ever drops
operations, and changes none's name or place. -/
namespace Sys2Proof.Machine

/-- What tells operations apart: the name, and the slot or direct place. -/
def Op.key (o : Op) : Nat × Origin := (o.id, o.origin)

/-- Operations of `t` are operations of `s`, in order, under their names and places; no new name was taken. The straps stay. -/
structure State.Thins (s t : State) : Prop where
  ops  : (t.ledger.ops.map Op.key).Sublist (s.ledger.ops.map Op.key)
  next : t.ledger.nextId = s.ledger.nextId
  chip : t.pins.chipid = s.pins.chipid

theorem State.Thins.refl (s : State) : s.Thins s := ⟨.refl _, rfl, rfl⟩

theorem State.Thins.trans {s t u : State} (h : s.Thins t) (g : t.Thins u) : s.Thins u :=
  ⟨g.ops.trans h.ops, g.next.trans h.next, g.chip.trans h.chip⟩

section
variable {s z : State}

theorem State.Thins.fst {α : Type} {r : State × α} {t : State} {x : α} (h : r = (t, x)) (g : z.Thins r.1) : z.Thins t := by
  rwa [h] at g

/-- A change that leaves the operations and the pins alone. -/
theorem State.Thins.same {t : State} (h : z.Thins s) (h1 : t.ledger.ops = s.ledger.ops) (h2 : t.ledger.nextId = s.ledger.nextId)
    (h3 : t.pins.chipid = s.pins.chipid) : z.Thins t :=
  ⟨by rw [h1]; exact h.ops, h2.trans h.next, h3.trans h.chip⟩

/-- A change of operations that changes none's name or place. -/
theorem State.Thins.mapOps (h : z.Thins s) (f : Op → Op) (hf : ∀ o, (f o).id = o.id ∧ (f o).origin = o.origin) :
    z.Thins (s.modLedger (fun l => { l with ops := l.ops.map f })) := by
  refine ⟨?_, h.next, h.chip⟩
  have hk : Op.key ∘ f = Op.key := funext fun o => by simp [Op.key, hf o]
  show ((s.ledger.ops.map f).map Op.key).Sublist _
  rw [List.map_map, hk]
  exact h.ops

theorem State.thins_foldl {α : Type} (f : State → α → State) (hf : ∀ (t : State) (a : α), z.Thins t → z.Thins (f t a)) (l : List α)
    (h : z.Thins s) : z.Thins (l.foldl f s) := by
  induction l generalizing s with
  | nil => exact h
  | cons a l ih => exact ih (hf s a h)

theorem State.thins_forEach {α : Type} (f : State → α → State) (hf : ∀ (t : State) (a : α), z.Thins t → z.Thins (f t a))
    (l : List α) (h : z.Thins s) : z.Thins (forEach l f s) := State.thins_foldl f hf l h

/-! ### The operations that the meanings share -/

theorem State.thins_modLedger (f : Ledger → Ledger) (h1 : (f s.ledger).ops = s.ledger.ops)
    (h2 : (f s.ledger).nextId = s.ledger.nextId) (h : z.Thins s) : z.Thins (s.modLedger f) := h.same h1 h2 rfl

theorem Op.withRun_key (o : Op) (r : ReadRun) : (o.withRun r).id = o.id ∧ (o.withRun r).origin = o.origin := by
  unfold Op.withRun
  grind

theorem Op.gotStone_key (o : Op) (w : Word) : (o.gotStone w).id = o.id ∧ (o.gotStone w).origin = o.origin := by
  unfold Op.gotStone
  grind

theorem Op.stops_key (o : Op) (r : Byte) : (o.stops r).id = o.id ∧ (o.stops r).origin = o.origin := by
  unfold Op.stops
  grind

theorem Op.lostSource_key (o : Op) : o.lostSource.id = o.id ∧ o.lostSource.origin = o.origin := by
  unfold Op.lostSource
  grind

theorem State.thins_modPace (f : Pace → Pace) (h : z.Thins s) : z.Thins (s.modPace f) := ⟨h.1, h.2, h.3⟩

theorem State.thins_modPort (p : PortId) (f : Port → Port) (h : z.Thins s) : z.Thins (s.modPort p f) :=
  ⟨h.1, h.2, h.3⟩

theorem State.thins_modBank (b : BankId) (f : Bank → Bank) (h : z.Thins s) : z.Thins (s.modBank b f) :=
  ⟨h.1, h.2, h.3⟩

theorem State.thins_modGal (g : GalId) (f : Gal → Gal) (h : z.Thins s) : z.Thins (s.modGal g f) :=
  ⟨h.1, h.2, h.3⟩

theorem State.thins_modSub (i : SubId) (f : Sub → Sub) (h : z.Thins s) : z.Thins (s.modSub i f) :=
  ⟨h.1, h.2, h.3⟩

theorem State.thins_modGate (g : GateId) (f : Gate → Gate) (h : z.Thins s) : z.Thins (s.modGate g f) :=
  ⟨h.1, h.2, h.3⟩

theorem State.thins_modAnx (a : AnnexId) (f : Annex → Annex) (h : z.Thins s) : z.Thins (s.modAnx a f) :=
  ⟨h.1, h.2, h.3⟩

theorem State.thins_modLife (f : Life → Life) (h : z.Thins s) : z.Thins (s.modLife f) :=
  ⟨h.1, h.2, h.3⟩

theorem State.thins_modPower (f : Power → Power) (h : z.Thins s) : z.Thins (s.modPower f) :=
  ⟨h.1, h.2, h.3⟩

theorem State.thins_modUpkeep (f : Upkeep → Upkeep) (h : z.Thins s) : z.Thins (s.modUpkeep f) :=
  ⟨h.1, h.2, h.3⟩

theorem State.thins_modGlob (f : Glob → Glob) (h : z.Thins s) : z.Thins (s.modGlob f) :=
  ⟨h.1, h.2, h.3⟩

theorem State.thins_modPlinth (f : Plinth → Plinth) (h : z.Thins s) : z.Thins (s.modPlinth f) :=
  ⟨h.1, h.2, h.3⟩

theorem State.thins_modBoot (f : Boot → Boot) (h : z.Thins s) : z.Thins (s.modBoot f) :=
  ⟨h.1, h.2, h.3⟩

theorem State.thins_modPartner (a : AnnexId) (p : PartnerId) (f : Partner → Partner) (h : z.Thins s) :
    z.Thins (s.modPartner a p f) :=
  ⟨h.1, h.2, h.3⟩

theorem State.thins_addTrace (action : Byte) (slot : Option (Fin 256)) (bank : Nat) (arg : BitVec 16) (h : z.Thins s) :
    z.Thins (s.addTrace action slot bank arg) :=
  ⟨h.1, h.2, h.3⟩

theorem State.thins_cause (c : BitVec 7) (h : z.Thins s) : z.Thins (s.cause c) := by
  unfold State.cause
  grind [← thins_modGlob]

theorem State.thins_useFree (h : z.Thins s) : z.Thins s.useFree :=
  ⟨h.1, h.2, h.3⟩

theorem State.thins_modOp (id : Nat) (f : Op → Op) (hf : ∀ o, (f o).id = o.id ∧ (f o).origin = o.origin) (h : z.Thins s) :
    z.Thins (s.modOp id f) :=
  h.mapOps _ fun o => by
    split
    · exact hf o
    · exact ⟨rfl, rfl⟩

theorem State.thins_dropOp (id : Nat) (h : z.Thins s) : z.Thins (s.dropOp id) :=
  ⟨(List.filter_sublist.map Op.key).trans h.ops, h.next, h.chip⟩

theorem State.thins_traceOp (action : Byte) (o : Op) (arg : BitVec 16) (h : z.Thins s) : z.Thins (s.traceOp action o arg) := by
  unfold State.traceOp
  grind [← thins_addTrace]

theorem State.thins_notePeak (h : z.Thins s) : z.Thins s.notePeak := by
  unfold State.notePeak
  grind [← thins_modPower]

theorem State.thins_grant (o : Op) (bank : Nat) (mA : Nat) (h : z.Thins s) : z.Thins (s.grant o bank mA) := by
  unfold State.grant
  grind [← thins_modOp, ← thins_addTrace, ← thins_notePeak]

theorem State.thins_release (id : Nat) (bank : Nat) (h : z.Thins s) : z.Thins (s.release id bank) := by
  unfold State.release
  grind [← thins_modOp, ← thins_addTrace]

theorem State.thins_endReservation (id : Nat) (h : z.Thins s) : z.Thins (s.endReservation id) := by
  unfold State.endReservation
  grind [← thins_modPower]

theorem State.thins_takeYard (owner : Nat) (slot : Option (Fin 256)) (bank : Nat) (data : List Word) (h : z.Thins s) :
    z.Thins (s.takeYard owner slot bank data).1 := by
  unfold State.takeYard
  grind [← thins_useFree, ← thins_modLedger, ← thins_addTrace]

theorem State.thins_freeYard (owner : Nat) (h : z.Thins s) : z.Thins (s.freeYard owner) := by
  unfold State.freeYard
  grind [← thins_modLedger]

theorem State.thins_fillYard (o : Op) (data : List Word) (h : z.Thins s) : z.Thins (s.fillYard o data) := by
  unfold State.fillYard
  grind [← thins_modLedger, ← thins_traceOp]

theorem State.thins_drainYard (o : Op) (h : z.Thins s) : z.Thins (s.drainYard o) := by
  unfold State.drainYard
  grind [← thins_traceOp]

theorem State.thins_latchWaits (h : z.Thins s) : z.Thins s.latchWaits :=
  h.mapOps _ fun o => by split <;> exact ⟨rfl, rfl⟩

theorem State.thins_raiseEvent (e : Byte) (h : z.Thins s) : z.Thins (s.raiseEvent e) := by
  unfold State.raiseEvent
  grind [← thins_modLedger]

theorem State.thins_postDirect (p : PortId) (o : Op) (result : Byte) (h : z.Thins s) : z.Thins (s.postDirect p o result) := by
  unfold State.postDirect
  grind [← thins_modPort, ← thins_modGlob, ← thins_dropOp]

theorem State.thins_dedupResult (o : Op) (result : Byte) (h : z.Thins s) : z.Thins (s.dedupResult o result) := by
  unfold State.dedupResult
  grind [← thins_modSub]

theorem State.thins_leaveRecord (o : Op) (result : Byte) (h : z.Thins s) : z.Thins (s.leaveRecord o result) := by
  unfold State.leaveRecord
  grind [← thins_dedupResult, ← thins_freeYard, ← thins_dropOp, ← thins_modOp, ← thins_modLedger]

theorem State.thins_completeWith (latch : Bool) (id : Nat) (result : Byte) (h : z.Thins s) :
    z.Thins (State.completeWith latch s id result) := by
  unfold State.completeWith
  grind [← thins_traceOp, ← thins_endReservation, ← thins_freeYard, ← thins_postDirect, ← thins_leaveRecord, ← thins_raiseEvent,
    ← thins_latchWaits]

theorem State.thins_complete (id : Nat) (result : Byte) (h : z.Thins s) : z.Thins (s.complete id result) := by
  unfold State.complete
  grind [← thins_completeWith]

theorem State.thins_plinthWrite (d : PlinthData) (h : z.Thins s) : z.Thins (s.plinthWrite d) := by
  unfold State.plinthWrite
  grind [← thins_modPlinth]

theorem State.thins_writeConfig (h : z.Thins s) : z.Thins s.writeConfig := by
  unfold State.writeConfig
  grind [← thins_plinthWrite]

theorem State.thins_writeBankRec (b : BankId) (h : z.Thins s) : z.Thins (s.writeBankRec b) := by
  unfold State.writeBankRec
  grind [← thins_plinthWrite]

theorem State.thins_touch (n : Nat) (h : z.Thins s) : z.Thins (s.touch n) := ⟨h.1, h.2, h.3⟩

theorem State.thins_setWear (b : BankId) (key clears firings : Nat) (h : z.Thins s) :
    z.Thins (s.setWear b key clears firings) := by
  unfold State.setWear
  grind [← thins_modBoot, ← thins_modBank, ← thins_plinthWrite]

theorem State.thins_addClear (b : BankId) (u : UnitRef) (h : z.Thins s) : z.Thins (s.addClear b u) := by
  unfold State.addClear
  grind [← thins_setWear, ← thins_modBank, ← thins_cause]

theorem State.thins_noteWorn (b : BankId) (h : z.Thins s) : z.Thins (s.noteWorn b) := by
  unfold State.noteWorn
  grind [← thins_modBank, ← thins_cause]

theorem State.thins_refillGap (b : BankId) (h : z.Thins s) : z.Thins (s.refillGap b) := by
  unfold State.refillGap
  grind [← thins_modBank]

theorem State.thins_settleSlots (b : BankId) (h : z.Thins s) : z.Thins (s.settleSlots b) := by
  unfold State.settleSlots
  grind [← thins_refillGap, ← thins_noteWorn, ← thins_writeBankRec]

theorem State.thins_modKept (b : BankId) (f : BankRec → BankRec) (h : z.Thins s) : z.Thins (s.modKept b f) := by
  unfold State.modKept
  grind [← thins_modBank, ← thins_settleSlots]

theorem State.thins_violate (v : Violation) (h : z.Thins s) : z.Thins (s.violate v) := by
  unfold State.violate
  grind [← thins_modGate, ← thins_modGlob, ← thins_cause]

theorem State.thins_bumpEpochs (h : z.Thins s) : z.Thins s.bumpEpochs := ⟨h.1, h.2, h.3⟩

theorem State.thins_enableGate (gi : GateId) (h : z.Thins s) : z.Thins (s.enableGate gi) := by
  unfold State.enableGate
  grind [← thins_modGate, ← thins_cause]

/-! ### Transactions -/

theorem State.thins_queueRise (p : PortId) (a : RiseAct) (h : z.Thins s) : z.Thins (s.queueRise p a) := by
  unfold State.queueRise
  grind [← thins_modPort]

theorem State.thins_replyWith (p : PortId) (c : Cond) (data : List Byte) (feed : Feed) (h : z.Thins s) :
    z.Thins (s.replyWith p c data feed) := by
  unfold State.replyWith
  grind [← thins_modPort]

theorem State.thins_answer (p : PortId) (c : Cond) (data : List Byte) (h : z.Thins s) : z.Thins (s.answer p c data) := by
  unfold State.answer
  grind [← thins_replyWith]

theorem State.thins_hush (p : PortId) (h : z.Thins s) : z.Thins (s.hush p) := by
  unfold State.hush
  grind [← thins_modPort]

theorem State.thins_hushBad (p : PortId) (h : z.Thins s) : z.Thins (s.hushBad p) := by
  unfold State.hushBad
  grind [← thins_hush, ← thins_modPort]

theorem State.thins_commandPhase (p : PortId) (op : Byte) (compl : Bool) (drift : List DriftSample) (h : z.Thins s) :
    z.Thins (s.commandPhase p op compl drift).1 := by
  unfold State.commandPhase
  grind [← thins_modPort, ← thins_hushBad, ← thins_hush]

theorem State.thins_abandon (p : PortId) (h : z.Thins s) : z.Thins (s.abandon p) := by
  unfold State.abandon
  grind [← thins_queueRise]

theorem State.thins_begin (tx : Tx) (op : Byte) (inTrial : Bool) (h : z.Thins s) : z.Thins (s.begin tx op inTrial).1 := by
  unfold State.begin
  grind [← thins_modPort, ← thins_commandPhase, ← thins_abandon, ← thins_answer]

theorem State.thins_tooLate (tx : Tx) (h : z.Thins s) : z.Thins (s.tooLate tx) := by
  unfold State.tooLate
  grind [← thins_answer, ← thins_modPort]

theorem State.thins_run2 (tx : Tx) (op : Byte) (inTrial : Bool) (body : State → State) (hb : ∀ t : State, z.Thins t → z.Thins (body t))
    (h : z.Thins s) : z.Thins (s.run2 tx op inTrial body) := by
  have hbegin := thins_begin tx op inTrial h
  unfold State.run2
  grind [← thins_tooLate]

theorem State.thins_recordSent (p : PortId) (h : z.Thins s) : z.Thins (s.recordSent p) := by
  unfold State.recordSent
  grind [← thins_modPort]

/-! ### Partners -/

theorem State.thins_send (a : AnnexId) (e : Exchange) (h : z.Thins s) : z.Thins (s.send a e) := by
  unfold State.send
  grind [← thins_modAnx]

theorem State.thins_lastResult (a : AnnexId) (p : PartnerId) (r : Byte) (h : z.Thins s) : z.Thins (s.lastResult a p r) := by
  unfold State.lastResult
  grind [← thins_modPartner]

theorem State.thins_freePartner (a : AnnexId) (p : PartnerId) (h : z.Thins s) : z.Thins (s.freePartner a p) := by
  unfold State.freePartner
  grind [← thins_modPartner]

theorem State.thins_losePartner (a : AnnexId) (p : PartnerId) (yielded : Bool) (h : z.Thins s) :
    z.Thins (s.losePartner a p yielded) := by
  unfold State.losePartner
  grind [← thins_modPartner, ← thins_lastResult]

theorem State.thins_fencePartner (a : AnnexId) (p : PartnerId) (r : Byte) (h : z.Thins s) : z.Thins (s.fencePartner a p r) := by
  unfold State.fencePartner
  grind [← thins_modPartner, ← thins_lastResult]

theorem State.thins_probePartner (a : AnnexId) (p : PartnerId) (rx : List Byte) (h : z.Thins s) :
    z.Thins (s.probePartner a p rx).1 := by
  unfold State.probePartner
  dsimp only
  split
  · have hs := State.thins_foldl (fun t e => t.send a e) (fun t e ht => State.thins_send a e ht)
      (probe (s.anx a) p (s.partner a p) rx).sent (State.thins_modPartner a p (fun _ => (probe (s.anx a) p (s.partner a p) rx).partner) h)
    grind [← thins_losePartner]
  · exact h

theorem State.thins_stopRead (a : BitVec 32) (h : z.Thins s) : z.Thins (s.stopRead a) := by
  unfold State.stopRead
  grind [← thins_modAnx]

theorem State.thins_freeOwned (id : Nat) (h : z.Thins s) : z.Thins (s.freeOwned id) := by
  unfold State.freeOwned
  grind [← thins_freePartner]

theorem State.thins_freeWindow (o : Op) (r : Byte) (h : z.Thins s) : z.Thins (s.freeWindow o r) := by
  unfold State.freeWindow
  grind [← thins_lastResult, ← thins_freePartner, ← thins_freeOwned]

theorem State.thins_endWindow (o : Op) (r : Byte) (h : z.Thins s) : z.Thins (s.endWindow o r) := by
  unfold State.endWindow
  grind [← thins_freeWindow, ← thins_complete]

theorem State.thins_loseOp (o : Op) (yielded : Bool) (h : z.Thins s) : z.Thins (s.loseOp o yielded) := by
  unfold State.loseOp
  grind [← thins_losePartner, ← thins_modOp, ← thins_endWindow, ← thins_complete]

/-! ### Register writes -/

theorem State.thins_writeBooten (h : z.Thins s) : z.Thins s.writeBooten := by
  unfold State.writeBooten
  grind [← thins_plinthWrite, ← thins_writeConfig]

theorem State.thins_captureViews (sel : BitVec 8) (h : z.Thins s) : z.Thins (s.captureViews sel) := by
  unfold State.captureViews
  grind [← thins_modLedger]

theorem State.thins_writePeriod (n : PortId) (v : Word) (h : z.Thins s) : z.Thins (s.writePeriod n v) := by
  unfold State.writePeriod
  grind [← thins_modPort, ← thins_modPace]

theorem State.thins_riseChain (n : PortId) (v : Word) (h : z.Thins s) : z.Thins (s.riseChain n v) := by
  unfold State.riseChain
  grind [← thins_modPort, ← thins_writeBooten]

theorem State.thins_writeDedup (p : PortId) (full : Bool) (v : Word) (h : z.Thins s) : z.Thins (s.writeDedup p full v) := by
  unfold State.writeDedup
  grind [← thins_modLedger, ← thins_modSub]

theorem State.thins_writeQuota (i : SubId) (v : Word) (h : z.Thins s) : z.Thins (s.writeQuota i v) := by
  unfold State.writeQuota
  grind [← thins_modSub]

theorem State.thins_riseSample (v : Word) (h : z.Thins s) : z.Thins (s.riseSample v) := by
  unfold State.riseSample
  dsimp only
  split
  · exact ⟨h.1, h.2, h.3⟩
  · exact ⟨h.1, h.2, h.3⟩

theorem State.thins_riseTokens (v : Word) (h : z.Thins s) : z.Thins (s.riseTokens v) := by
  unfold State.riseTokens
  grind [← thins_modPower]

theorem State.thins_risePump (g : GalId) (clearPump : Bool) (v : Word) (h : z.Thins s) :
    z.Thins (s.risePump g clearPump v) := by
  unfold State.risePump
  grind [← thins_modGal, ← thins_modPower]

theorem State.thins_writeKilnAt (v : Word) (h : z.Thins s) : z.Thins (s.writeKilnAt v) := by
  unfold State.writeKilnAt
  grind [← thins_modUpkeep]

theorem State.thins_writeScrub (v : Word) (h : z.Thins s) : z.Thins (s.writeScrub v) := by
  unfold State.writeScrub
  grind [← thins_modUpkeep]

theorem State.thins_writeGateCtrl (g : GateId) (v : Word) (h : z.Thins s) : z.Thins (s.writeGateCtrl g v) := by
  unfold State.writeGateCtrl
  grind [← thins_modGate, ← thins_enableGate, ← thins_modLife, ← thins_plinthWrite]

theorem State.thins_writeRegion (g : GateId) (i : Fin 8) (v : Word) (h : z.Thins s) : z.Thins (s.writeRegion g i v) := by
  unfold State.writeRegion
  grind [← thins_modGate]

theorem State.thins_risePriv (v : Word) (h : z.Thins s) : z.Thins (s.risePriv v) := by
  unfold State.risePriv
  grind [← thins_modLife, ← thins_bumpEpochs, ← thins_writeConfig]

theorem State.thins_riseMarkLock (v : Word) (h : z.Thins s) : z.Thins (s.riseMarkLock v) := by
  unfold State.riseMarkLock
  grind [← thins_modLife, ← thins_writeConfig]

theorem State.thins_riseMapmode (v : Word) (h : z.Thins s) : z.Thins (s.riseMapmode v) := by
  unfold State.riseMapmode
  grind [← thins_modGlob, ← thins_writeConfig]

theorem State.thins_writeAnxCtrl (a : AnnexId) (v : Word) (h : z.Thins s) : z.Thins (s.writeAnxCtrl a v) := by
  unfold State.writeAnxCtrl
  grind [← thins_modAnx]

theorem State.thins_setTrace (x : Trace) (h : z.Thins s) : z.Thins { s with trace := x } := ⟨h.1, h.2, h.3⟩

theorem State.thins_writeNow (p : PortId) (full : Bool) (r : RegRef) (v : Word) (h : z.Thins s) :
    z.Thins (s.writeNow p full r v) := by
  unfold State.writeNow
  grind [← thins_modGlob, ← thins_modPace, ← thins_modLife, ← thins_modBoot, ← thins_modPower, ← thins_modLedger,
    ← thins_latchWaits, ← thins_captureViews, ← thins_writeDedup, ← thins_modPort, ← thins_writePeriod, ← thins_writeAnxCtrl,
    ← thins_modAnx, ← thins_modPartner, ← thins_modGal, ← thins_writeQuota, ← thins_modBank, ← thins_modUpkeep,
    ← thins_writeKilnAt, ← thins_writeScrub, ← thins_writeGateCtrl, ← thins_modGate, ← thins_writeRegion, ← thins_setTrace]

theorem State.thins_takeEntry (p : PortId) (r : BitVec 12) (v : Word) (h : z.Thins s) : z.Thins (s.takeEntry p r v).1 := by
  unfold State.takeEntry
  grind [← thins_modGlob, ← thins_writeNow, ← thins_queueRise]

theorem State.thins_takeEntries (p : PortId) (l : List (BitVec 16 × Word)) (h : z.Thins s) : z.Thins (s.takeEntries p l).1 := by
  induction l generalizing s with
  | nil => exact h
  | cons e l ih =>
    obtain ⟨n, v⟩ := e
    have ht := thins_takeEntry p (n.extractLsb' 0 12) v h
    unfold State.takeEntries
    dsimp only
    split
    · exact h
    · exact ih ht

theorem State.thins_regWrite (tx : Tx) (count : Byte) (entries : List (BitVec 16 × Word)) (h : z.Thins s) :
    z.Thins (s.regWrite tx count entries) := by
  unfold State.regWrite
  grind [← thins_begin, ← thins_answer, ← thins_takeEntries, ← thins_hush, ← thins_tooLate]

theorem State.thins_regWrite1 (tx : Tx) (r : Nat) (v : Word) (h : z.Thins s) : z.Thins (s.regWrite1 tx r v) := by
  unfold State.regWrite1
  grind [← thins_regWrite]

/-! ### Resets -/

theorem State.thins_cutJournal (h : z.Thins s) : z.Thins s.cutJournal := by
  unfold State.cutJournal
  split
  · exact h
  · exact ⟨h.1, h.2, h.3⟩

/-! ### The end of a transaction -/

theorem State.thins_chainRise (n : PortId) (edges : Nat) (g : ChainSeg) (h : z.Thins s) : z.Thins (s.chainRise n edges g) := by
  unfold State.chainRise
  grind [← thins_takeEntry, ← thins_modPort]

theorem State.thins_endStream (p : PortId) (h : z.Thins s) : z.Thins (s.endStream p) := by
  unfold State.endStream
  grind [← thins_stopRead]

theorem State.thins_endFetchOf (n : PortId) (h : z.Thins s) : z.Thins (s.endFetchOf n) := by
  unfold State.endFetchOf
  grind [← thins_modBank, ← thins_endStream, ← thins_modPort]

theorem State.thins_dropDriving (n : PortId) (h : z.Thins s) : z.Thins (s.dropDriving n) :=
  h.mapOps _ fun o => by split <;> exact ⟨rfl, rfl⟩

theorem State.thins_dropUpload (n : PortId) (h : z.Thins s) : z.Thins (s.dropUpload n) := by
  unfold State.dropUpload
  grind [← thins_modPort, ← thins_modSub, ← thins_freeYard, ← thins_dropOp]

theorem State.thins_cutUpload (n : PortId) (h : z.Thins s) : z.Thins (s.cutUpload n) := by
  unfold State.cutUpload
  grind [← thins_dropUpload, ← thins_addTrace]

theorem State.thins_cutCommand (c : Cut) (h : z.Thins s) : z.Thins (s.cutCommand c) := by
  unfold State.cutCommand
  grind [← thins_commandPhase, ← thins_abandon]

theorem State.thins_countTransaction (n : PortId) (cut : Option Cut) (h : z.Thins s) : z.Thins (s.countTransaction n cut) := by
  unfold State.countTransaction
  grind [← thins_chainRise, ← thins_modPort, ← thins_cutCommand]

theorem State.thins_chainSegment (n : PortId) (action : Byte) (edges : Nat) (g : ChainSeg) (h : z.Thins s) :
    z.Thins (s.chainSegment n action edges g) := by
  unfold State.chainSegment
  grind [← thins_modPort]

/-! ### Training -/

theorem State.thins_abandonTrain (p : PortId) (h : z.Thins s) : z.Thins (s.abandonTrain p) := by
  unfold State.abandonTrain
  grind [← thins_hush, ← thins_abandon]

theorem State.thins_badFrame (p : PortId) (h : z.Thins s) : z.Thins (s.badFrame p) := by
  unfold State.badFrame
  grind [← thins_answer, ← thins_modPort]

theorem State.thins_propose (p : PortId) (offer : BitVec 16) (sensed : BitVec 2) (h : z.Thins s) :
    z.Thins (s.propose p offer sensed) := by
  unfold State.propose
  grind [← thins_modPort, ← thins_answer, ← thins_queueRise]

theorem State.thins_sweep (p : PortId) (samples : Vector (BitVec 8192) 8) (h : z.Thins s) : z.Thins (s.sweep p samples) := by
  unfold State.sweep
  grind [← thins_replyWith, ← thins_modPort, ← thins_queueRise]

/-! ### Suspensions -/

theorem State.thins_traceSusp (action : Byte) (b : BankId) (h : z.Thins s) : z.Thins (s.traceSusp action b) := by
  unfold State.traceSusp
  grind [← thins_addTrace]

theorem State.thins_slotShows (b : BankId) (st : OpState) (h : z.Thins s) : z.Thins (s.slotShows b st) := by
  unfold State.slotShows
  grind [← thins_modOp]

theorem State.thins_grantSuspend (b : BankId) (host : Bool) (h : z.Thins s) : z.Thins (s.grantSuspend b host) := by
  unfold State.grantSuspend
  grind [← thins_modBank, ← thins_slotShows, ← thins_traceSusp]

theorem State.thins_requestSuspend (b : BankId) (host : Bool) (h : z.Thins s) : z.Thins (s.requestSuspend b host).1 := by
  unfold State.requestSuspend
  grind [← thins_grantSuspend, ← thins_modBank]

theorem State.thins_resumeNow (b : BankId) (h : z.Thins s) : z.Thins (s.resumeNow b) := by
  unfold State.resumeNow
  grind [← thins_modBank, ← thins_slotShows, ← thins_traceSusp]

theorem State.thins_closeClear (b : BankId) (c : ClearRun) (h : z.Thins s) : z.Thins (s.closeClear b c) := by
  unfold State.closeClear
  grind [← thins_modBank, ← thins_release]

theorem State.thins_leaveLay (b : BankId) (op : Nat) (h : z.Thins s) : z.Thins (s.leaveLay b op) := by
  unfold State.leaveLay
  grind [← thins_modBank, ← thins_release, ← thins_resumeNow]

theorem State.thins_dropHeldLay (id : Nat) (h : z.Thins s) : z.Thins (s.dropHeldLay id) := by
  unfold State.dropHeldLay
  grind [← thins_leaveLay]

theorem State.thins_requestResume (b : BankId) (h : z.Thins s) : z.Thins (s.requestResume b).1 := by
  unfold State.requestResume
  grind [← thins_resumeNow, ← thins_modBank]

theorem State.thins_fetchMeets (b : BankId) (block sector : Nat) (h : z.Thins s) : z.Thins (s.fetchMeets b block sector) := by
  unfold State.fetchMeets
  grind [← thins_requestSuspend]

theorem State.thins_directSusp (tx : Tx) (op : Byte) (addr : BitVec 32) (req : State → BankId → State × Bool)
    (hr : ∀ (t : State) (b : BankId), z.Thins t → z.Thins (req t b).1) (h : z.Thins s) : z.Thins (s.directSusp tx op addr req) := by
  refine thins_run2 tx op false _ (fun t ht => ?_) h
  have hreq := hr t (bankIx (addrBank addr)) ht
  grind [← thins_answer]

/-! ### Fetches -/

theorem State.thins_plumbFeed (b : BankId) (d : Int) (h : z.Thins s) : z.Thins (s.plumbFeed b d) := by
  unfold State.plumbFeed
  grind [← thins_modBank]

theorem State.thins_noteRead (b : BankId) (slot : Option (Fin 256)) (ix : Nat) (r : StoneRead) (h : z.Thins s) :
    z.Thins (s.noteRead b slot ix r) := by
  unfold State.noteRead
  grind [← thins_addTrace, ← thins_plumbFeed]

theorem State.thins_readPartner (n : AnnexId) (p : PartnerId) (a : BitVec 32) (rx : List Byte) (h : z.Thins s) :
    z.Thins (s.readPartner n p a rx).1 := by
  unfold State.readPartner
  grind [← thins_modAnx, ← thins_losePartner]

theorem State.thins_fetchOn (p : PortId) (b : Option BankId) (h : z.Thins s) : z.Thins (s.fetchOn p b) := by
  unfold State.fetchOn
  grind [← thins_modBank, ← thins_modPort]

theorem State.thins_driveStone (p : PortId) (src : Source) (a : BitVec 32) (flip : BitVec 75) (rx : List Byte) (h : z.Thins s) :
    z.Thins (s.driveStone p src a flip rx).1 := by
  unfold State.driveStone
  split
  · grind [← thins_fetchOn, ← thins_useFree]
  · split
    · next n q _ =>
      have hp := thins_probePartner n q rx h
      have hr := thins_readPartner n q a (s.probePartner n q rx).2.2 hp
      dsimp only
      split
      · exact thins_lastResult _ _ _ hp
      · split
        · exact thins_lastResult _ _ _ hp
        · split
          · exact thins_fetchOn _ _ (thins_lastResult _ _ _ hr)
          · exact hr
    · dsimp only
      exact thins_modPort _ _ (thins_noteRead _ _ _ _ (thins_fetchOn _ _ h))

theorem State.thins_fetchWaits (p : PortId) (src : Source) (a : BitVec 32) (h : z.Thins s) :
    z.Thins (s.fetchWaits p src a) := by
  unfold State.fetchWaits
  grind [← thins_fetchOn, ← thins_modPort, ← thins_fetchMeets]

theorem State.thins_setStones (p : PortId) (n : Nat) (h : z.Thins s) : z.Thins (s.setStones p n) := by
  unfold State.setStones
  grind [← thins_modPort]

theorem State.thins_beginHold (p : PortId) (f : FetchRun) (afterStatus : Bool) (h : z.Thins s) :
    z.Thins (s.beginHold p f afterStatus) := by
  unfold State.beginHold
  grind [← thins_modPort, ← thins_addTrace]

theorem State.thins_endData (p : PortId) (h : z.Thins s) : z.Thins (s.endData p) := by
  unfold State.endData
  grind [← thins_endStream, ← thins_modPort]

theorem State.thins_endStopped (p : PortId) (h : z.Thins s) : z.Thins (s.endStopped p) := by
  unfold State.endStopped
  grind [← thins_endData, ← thins_modPort]

theorem State.thins_noteMeet (a : BitVec 32) (m : Meet) (h : z.Thins s) : z.Thins (s.noteMeet a m) := by
  unfold State.noteMeet
  split
  · exact thins_violate _ h
  · split
    · exact thins_lastResult _ _ _ h
    · exact h
  · exact h

theorem State.thins_fetchRefused (p : PortId) (c : Cond) (h : z.Thins s) : z.Thins (s.fetchRefused p c) := by
  unfold State.fetchRefused
  grind [← thins_modPort, ← thins_answer]

theorem State.thins_fetchStarts (p : PortId) (f : FetchRun) (h : z.Thins s) : z.Thins (s.fetchStarts p f) := by
  unfold State.fetchStarts
  grind [← thins_modPort, ← thins_replyWith, ← thins_fetchOn, ← thins_driveStone, ← thins_fetchRefused]

theorem State.thins_fetchGoesOn (p : PortId) (f : FetchRun) (h : z.Thins s) : z.Thins (s.fetchGoesOn p f) := by
  unfold State.fetchGoesOn
  grind [← thins_fetchOn, ← thins_modPort]

theorem State.thins_fetchFirst (p : PortId) (f : FetchRun) (h : z.Thins s) : z.Thins (s.fetchFirst p f) := by
  unfold State.fetchFirst
  grind [← thins_fetchStarts, ← thins_fetchWaits, ← thins_beginHold, ← thins_replyWith, ← thins_fetchRefused, ← thins_noteMeet]

theorem State.thins_nextStone (p : PortId) (f : FetchRun) (h : z.Thins s) : z.Thins (s.nextStone p f) := by
  unfold State.nextStone
  grind [← thins_endData, ← thins_modPort, ← thins_driveStone, ← thins_endStopped, ← thins_fetchWaits, ← thins_beginHold,
    ← thins_noteMeet]

theorem State.thins_startFetch (tx : Tx) (raw : Bool) (flips : Flips) (a : BitVec 32) (rx : List Byte) (h : z.Thins s) :
    z.Thins (s.startFetch tx raw flips a rx) := by
  unfold State.startFetch
  grind [← thins_setStones, ← thins_fetchFirst]

theorem State.thins_fetchCommand (tx : Tx) (addr : BitVec 32) (flips : Flips) (rx : List Byte) (h : z.Thins s) :
    z.Thins (s.fetchCommand tx addr flips rx) := by
  unfold State.fetchCommand
  grind [← thins_setStones, ← thins_answer, ← thins_modAnx, ← thins_startFetch]

/-! ### Direct commands -/

theorem State.thins_collected (o : Op) (h : z.Thins s) : z.Thins (s.collected o) := by
  unfold State.collected
  grind [← thins_drainYard, ← thins_freeYard, ← thins_dropOp]

theorem State.thins_collect (tx : Tx) (peek : Bool) (mode : BitVec 7) (h : z.Thins s) : z.Thins (s.collect tx peek mode) :=
  thins_run2 tx 0x7C false _ (fun t ht => by grind [← thins_answer, ← thins_replyWith]) h

theorem State.thins_badOpcode (p : PortId) (silent : BitVec 8) (h : z.Thins s) : z.Thins (s.badOpcode p silent) := by
  unfold State.badOpcode
  grind [← thins_hush, ← thins_modPort]

/-! ### The journal -/

theorem State.thins_startJournal (kind level : Byte) (purpose : JPurpose) (h : z.Thins s) :
    z.Thins (s.startJournal kind level purpose) := by
  unfold State.startJournal
  grind [← thins_modPlinth]

theorem State.thins_tryRaise (h : z.Thins s) : z.Thins s.tryRaise := by
  unfold State.tryRaise
  grind [← thins_modOp, ← thins_startJournal, ← thins_completeWith]

/-! ### Admission -/

theorem State.thins_checkLevel (a : Ask) (h : z.Thins s) : z.Thins (s.checkLevel a).1 := by
  unfold State.checkLevel
  grind [← thins_modLife]

theorem State.thins_check3 (a : Ask) (h : z.Thins s) : z.Thins (s.check3 a).1 := by
  unfold State.check3
  grind [← thins_checkLevel]

theorem State.thins_meter (i : SubId) (charge : Nat) (h : z.Thins s) : z.Thins (s.meter i charge).1 := by
  unfold State.meter
  grind [← thins_modSub]

theorem State.thins_refundMeter (i : SubId) (c : Colour) (charge : Nat) (h : z.Thins s) :
    z.Thins (s.refundMeter i c charge) := by
  unfold State.refundMeter
  grind [← thins_modSub]

theorem State.thins_countFull (h : z.Thins s) : z.Thins s.countFull := by
  unfold State.countFull
  grind [← thins_modLedger]

theorem State.thins_check78 (a : Ask) (k : Fin 256) (o : Op) (h : z.Thins s) : z.Thins (s.check78 a k o).1 := by
  unfold State.check78
  grind [← thins_refundMeter, ← thins_takeYard]

theorem State.thins_check58 (a : Ask) (k : Fin 256) (h : z.Thins s) : z.Thins (s.check58 a k).1 := by
  unfold State.check58
  grind [← thins_check78, ← thins_meter]

theorem State.thins_admitFrom3 (a : Ask) (h : z.Thins s) : z.Thins (s.admitFrom3 a).1 := by
  unfold State.admitFrom3
  grind [← thins_check3, ← thins_useFree, ← thins_check58]

theorem State.thins_admitPacket (p : PortId) (a : Ask) (h : z.Thins s) : z.Thins (s.admitPacket p a).1 := by
  unfold State.admitPacket
  grind [← thins_admitFrom3]

theorem State.thins_dutyBack (o : Op) (h : z.Thins s) : z.Thins (s.dutyBack o) := by
  unfold State.dutyBack
  grind [← thins_modBank, ← thins_modUpkeep]

theorem State.thins_endMarked (t : Op) (h : z.Thins s) : z.Thins (s.endMarked t) := by
  unfold State.endMarked
  grind [← thins_completeWith, ← thins_modOp, ← thins_dropHeldLay, ← thins_freeWindow, ← thins_dutyBack]

theorem State.thins_markOp (t : Op) (h : z.Thins s) : z.Thins (s.markOp t) := by
  unfold State.markOp
  grind [← thins_endMarked, ← thins_closeClear, ← thins_modOp]

theorem State.thins_cancel (o : Op) (h : z.Thins s) : z.Thins (s.cancel o) := by
  unfold State.cancel
  grind [← thins_completeWith, ← thins_dutyBack, ← thins_markOp, ← thins_modOp]

theorem State.thins_traceRefuse (slot : Option (Fin 256)) (bank : Nat) (arg : Byte) (h : z.Thins s) :
    z.Thins (s.traceRefuse slot bank arg) := by
  unfold State.traceRefuse
  grind [← thins_addTrace]

theorem State.thins_answerAgain (p : PortId) (bank : Nat) (d : Dedup) (h : z.Thins s) : z.Thins (s.answerAgain p bank d) := by
  unfold State.answerAgain
  grind [← thins_traceRefuse, ← thins_answer, ← thins_modOp]

theorem State.thins_endAdmission (slot : Option (Fin 256)) (bank : Nat) (code : Byte) (full : Bool) (h : z.Thins s) :
    z.Thins (s.endAdmission slot bank code full) := by
  unfold State.endAdmission
  grind [← thins_modLedger, ← thins_countFull, ← thins_traceRefuse]

theorem State.thins_answerRefused (p : PortId) (slot : Option (Fin 256)) (bank : Nat) (code : Byte) (full : Bool)
    (h : z.Thins s) :
    z.Thins (s.answerRefused p slot bank code full) := by
  unfold State.answerRefused
  grind [← thins_endAdmission, ← thins_answer]

theorem State.thins_answerBadAlign (p : PortId) (h : z.Thins s) : z.Thins (s.answerBadAlign p) := by
  unfold State.answerBadAlign
  grind [← thins_traceRefuse, ← thins_answer]

theorem State.thins_payloadBad (p : PortId) (slot : Option (Fin 256)) (bank : Nat) (h : z.Thins s) :
    z.Thins (s.payloadBad p slot bank) := by
  unfold State.payloadBad
  grind [← thins_traceRefuse, ← thins_modPort, ← thins_answer]

theorem State.thins_badPacket (p : PortId) (h : z.Thins s) : z.Thins (s.badPacket p) := by
  unfold State.badPacket
  grind [← thins_traceRefuse, ← thins_modPort, ← thins_answer, ← thins_hushBad]

theorem State.thins_directBad (p : PortId) (h : z.Thins s) : z.Thins (s.directBad p) := by
  unfold State.directBad
  grind [← thins_modPort, ← thins_answer]

theorem State.thins_layCrcBad (p : PortId) (h : z.Thins s) : z.Thins (s.layCrcBad p) := by
  unfold State.layCrcBad
  grind [← thins_modPort, ← thins_answer, ← thins_hushBad]

/-! ### Gates and reads -/

theorem State.thins_passAll (o : Op) (write : Bool) (l : List (BitVec 32)) (h : z.Thins s) :
    z.Thins (s.passAll o write l).1 := by
  induction l generalizing s with
  | nil => exact h
  | cons a l ih =>
    unfold State.passAll
    grind [← thins_modOp, ← thins_violate]

theorem State.thins_gateStone (o : Op) (r : ReadRun) (h : z.Thins s) : z.Thins (s.gateStone o r).1 := by
  unfold State.gateStone
  grind [← thins_nextStone, ← thins_modOp, ← thins_passAll, Op.withRun_key, Op.stops_key]

theorem State.thins_readArrayStone (o : Op) (r : ReadRun) (h : z.Thins s) : z.Thins (s.readArrayStone o r) := by
  unfold State.readArrayStone
  grind [← thins_nextStone, ← thins_noteRead, ← thins_modOp, Op.withRun_key, Op.gotStone_key]

theorem State.thins_readStep (id : Nat) (h : z.Thins s) : z.Thins (s.readStep id).1 := by
  have hd : z.Thins (s.modOp id (fun x => { x with result := rDenied })) := thins_modOp id _ (fun _ => ⟨rfl, rfl⟩) h
  unfold State.readStep
  split
  · exact h
  · next o _ =>
    split
    · exact h
    · next r _ =>
      have hg := thins_gateStone o r h
      generalize s.gateStone o r = g at hg
      obtain ⟨s1, w⟩ := g
      grind [← thins_modOp, ← thins_readArrayStone, Op.withRun_key]

theorem State.thins_readOn (id : Nat) (n : Nat) (h : z.Thins s) : z.Thins (s.readOn id n) := by
  induction n generalizing s with
  | zero => exact h
  | succ n ih =>
    have hs := thins_readStep id h
    unfold State.readOn
    grind

/-! ### Moves -/

theorem State.thins_setWork (id : Nat) (w : Work) (h : z.Thins s) : z.Thins (s.setWork id w) := by
  unfold State.setWork
  grind [← thins_modOp]

theorem State.thins_wpWaits (b : BankId) (id : Nat) (w : WpStep) (h : z.Thins s) : z.Thins (s.wpWaits b id w) := by
  unfold State.wpWaits
  grind [← thins_modBank, ← thins_setWork, ← thins_modGlob]

theorem State.thins_countDeferred (h : z.Thins s) : z.Thins s.countDeferred := by
  unfold State.countDeferred
  grind [← thins_modGlob]

theorem State.thins_relocDone (b : BankId) (id : Nat) (h : z.Thins s) : z.Thins (s.relocDone b id) := by
  unfold State.relocDone
  grind [← thins_modBank]

theorem State.thins_cancelRepoint (o : Op) (h : z.Thins s) : z.Thins (s.cancelRepoint o) := by
  unfold State.cancelRepoint
  grind [← thins_dutyBack, ← thins_complete]

theorem State.thins_blockOver (b : BankId) (id : Nat) (h : z.Thins s) : z.Thins (s.blockOver b id) := by
  unfold State.blockOver
  grind [← thins_modBank, ← thins_modOp, ← thins_cancelRepoint, ← thins_complete, ← thins_setWork]

theorem State.thins_blockDone (b : BankId) (id : Nat) (h : z.Thins s) : z.Thins (s.blockDone b id) := by
  unfold State.blockDone
  grind [← thins_relocDone, ← thins_blockOver]

theorem State.thins_moveFails (b : BankId) (m : Move) (h : z.Thins s) : z.Thins (s.moveFails b m) := by
  unfold State.moveFails
  grind [← thins_modBank, ← thins_complete, ← thins_blockDone]

theorem State.thins_moveEnds (b : BankId) (m : Move) (h : z.Thins s) : z.Thins (s.moveEnds b m) := by
  unfold State.moveEnds
  grind [← thins_modBank, ← thins_blockDone, ← thins_modUpkeep, ← thins_setWork]

theorem State.thins_mapChange (b : BankId) (m : Move) (h : z.Thins s) : z.Thins (s.mapChange b m) := by
  unfold State.mapChange
  grind [← thins_modKept, ← thins_moveEnds, ← thins_modBank, ← thins_setWork]

theorem State.thins_rowsDone (b : BankId) (m : Move) (h : z.Thins s) : z.Thins (s.rowsDone b m) := by
  unfold State.rowsDone
  grind [← thins_mapChange, ← thins_wpWaits]

theorem State.thins_nextCopy (b : BankId) (m : Move) (h : z.Thins s) : z.Thins (s.nextCopy b m) := by
  unfold State.nextCopy
  grind [← thins_modBank, ← thins_setWork, ← thins_rowsDone]

theorem State.thins_beginMove (b : BankId) (m : Move) (h : z.Thins s) : z.Thins (s.beginMove b m) := by
  unfold State.beginMove
  grind [← thins_modKept, ← thins_nextCopy]

theorem State.thins_retireDst (b : BankId) (m : Move) (h : z.Thins s) : z.Thins (s.retireDst b m) := by
  unfold State.retireDst
  grind [← thins_modKept, ← thins_moveFails, ← thins_beginMove]

theorem State.thins_copyEnds (b : BankId) (id : Nat) (r : Byte) (h : z.Thins s) : z.Thins (s.copyEnds b id r) := by
  unfold State.copyEnds
  grind [← thins_nextCopy, ← thins_retireDst, ← thins_wpWaits]

theorem State.thins_nextState (b : BankId) (m : Move) (h : z.Thins s) : z.Thins (s.nextState b m) := by
  unfold State.nextState
  grind [← thins_modKept, ← thins_moveEnds]

theorem State.thins_retireSrc (b : BankId) (m : Move) (h : z.Thins s) : z.Thins (s.retireSrc b m) := by
  unfold State.retireSrc
  grind [← thins_modKept, ← thins_modBank, ← thins_complete, ← thins_moveEnds]

theorem State.thins_sourceEnds (b : BankId) (id : Nat) (ok : Bool) (h : z.Thins s) : z.Thins (s.sourceEnds b id ok) := by
  unfold State.sourceEnds
  grind [← thins_wpWaits, ← thins_nextState, ← thins_retireSrc]

theorem State.thins_firedState (b : BankId) (id slot : Nat) (ok : Bool) (h : z.Thins s) :
    z.Thins (s.firedState b id slot ok) := by
  unfold State.firedState
  grind [← thins_modKept, ← thins_modBank, ← thins_modOp, ← thins_complete]

theorem State.thins_afterRead (b : BankId) (o : Op) (l fixes bad : Nat) (h : z.Thins s) :
    z.Thins (s.afterRead b o l fixes bad) := by
  unfold State.afterRead
  grind [← thins_blockDone, ← thins_countDeferred, ← thins_blockOver, ← thins_beginMove]

theorem State.thins_readSlot (b : BankId) (o : Op) (k : Nat) (flips : Flips) (n i fixes bad : Nat) (h : z.Thins s) :
    z.Thins (s.readSlot b o k flips i fixes bad n).1 := by
  induction n generalizing s i fixes bad with
  | zero => exact h
  | succ n ih =>
    unfold State.readSlot
    dsimp only
    refine ih _ _ _ ?_
    grind [← thins_noteRead]

theorem State.thins_readBlockOn (o : Op) (r : BlockRead) (b : BankId) (h : z.Thins s) : z.Thins (s.readBlockOn o r b) := by
  unfold State.readBlockOn
  grind [← thins_readSlot, ← thins_setWork]

theorem State.thins_readsGoOn (h : z.Thins s) : z.Thins s.readsGoOn :=
  thins_forEach _ (fun t o ht => by grind [← thins_readBlockOn, ← thins_readOn]) _ h

/-! ### Lays -/

theorem State.thins_tampFeed (b : BankId) (n : Nat) (h : z.Thins s) : z.Thins (s.tampFeed b n) := by
  unfold State.tampFeed
  grind [← thins_modGal]

theorem State.thins_leavePartly (l : List (Nat × BitVec 75)) (h : z.Thins s) : z.Thins (s.leavePartly l) := by
  induction l generalizing s with
  | nil => exact h
  | cons e l ih => exact ih (thins_touch e.1 ⟨h.1, h.2, h.3⟩)

theorem State.thins_settleLay (l : LayRun) (h : z.Thins s) : z.Thins (s.settleLay l) := by
  unfold State.settleLay
  dsimp only
  split
  · exact h
  · exact thins_leavePartly _ ⟨h.1, h.2, h.3⟩

theorem State.thins_closeLay (b : BankId) (l : LayRun) (r : Byte) (h : z.Thins s) : z.Thins (s.closeLay b l r) := by
  unfold State.closeLay
  grind [← thins_addTrace, ← thins_settleLay, ← thins_tampFeed, ← thins_modBank, ← thins_leaveLay]

theorem State.thins_askRelocation (b : BankId) (o : Op) (l : LayRun) (h : z.Thins s) : z.Thins (s.askRelocation b o l) := by
  unfold State.askRelocation
  grind [← thins_modBank]

theorem State.thins_chunkEnds (id : Nat) (r : Byte) (n : Nat) (h : z.Thins s) : z.Thins (s.chunkEnds id r n) := by
  unfold State.chunkEnds
  grind [← thins_modOp, ← thins_drainYard, ← thins_endWindow, ← thins_setWork]

theorem State.thins_endLay (b : BankId) (r : Byte) (h : z.Thins s) : z.Thins (s.endLay b r) := by
  unfold State.endLay
  split
  · exact h
  · next l _ =>
    have hc := thins_closeLay b l r h
    dsimp only
    split
    · exact thins_copyEnds _ _ _ hc
    · split
      · exact hc
      · next o _ =>
        have ha : z.Thins (if r = rLayFail then (s.closeLay b l r).askRelocation b o l else s.closeLay b l r) := by
          split
          · exact thins_askRelocation _ _ _ hc
          · exact hc
        split
        · exact thins_chunkEnds _ _ _ ha
        · exact thins_complete _ _ (thins_drainYard _ (thins_modOp _ _ (fun _ => ⟨rfl, rfl⟩) ha))

theorem State.thins_decideLay (b : BankId) (h : z.Thins s) : z.Thins (s.decideLay b) := by
  unfold State.decideLay
  grind [← thins_passAll, ← thins_modBank, ← thins_endLay]

theorem State.thins_putLay (o : Op) (b : BankId) (l : LayRun) (h : z.Thins s) : z.Thins (s.putLay o b l) := by
  unfold State.putLay
  grind [← thins_modOp, ← thins_grant, ← thins_modBank]

theorem State.thins_startLay (o : Op) (b : BankId) (data : List Word) (h : z.Thins s) : z.Thins (s.startLay o b data) := by
  unfold State.startLay
  grind [← thins_putLay, ← thins_decideLay]

theorem State.thins_noteRow (o : Op) (b : BankId) (m : Move) (t : List (Nat × (Nat × BitVec 75) × StoneRead)) (h : z.Thins s) :
    z.Thins (s.noteRow o b m t) :=
  thins_modOp o.id _ (fun _ => ⟨rfl, rfl⟩) (thins_modBank b _
    (thins_foldl _ (fun x e hx => by split; exacts [thins_addTrace _ _ _ _ hx, hx]) t h))

theorem State.thins_startRow (o : Op) (b : BankId) (flips : Flips) (h : z.Thins s) : z.Thins (s.startRow o b flips) := by
  unfold State.startRow
  grind [← thins_noteRow, ← thins_nextCopy, ← thins_putLay]

/-! ### Regression -/

theorem State.thins_startRegression (h : z.Thins s) : z.Thins s.startRegression := by
  unfold State.startRegression
  grind [← thins_modLife]

theorem State.thins_queueFinals (h : z.Thins s) : z.Thins s.queueFinals := by
  unfold State.queueFinals
  refine thins_modLife _ (thins_writeConfig (thins_forEach _ (fun t g ht => thins_plinthWrite _ ht) _ ?_))
  grind [← thins_modLife, ← thins_bumpEpochs]

theorem State.thins_finishRegression (h : z.Thins s) : z.Thins s.finishRegression := by
  unfold State.finishRegression
  grind [← thins_modLife, ← thins_queueFinals, ← thins_startJournal]

theorem State.thins_regressionCheck (h : z.Thins s) : z.Thins s.regressionCheck := by
  unfold State.regressionCheck
  grind [← thins_modLife, ← thins_finishRegression, ← thins_cause]

theorem State.thins_unitPassed (g : GalId) (p : Nat) (h : z.Thins s) : z.Thins (s.unitPassed g p) := by
  unfold State.unitPassed
  grind [← thins_modLife]

theorem State.thins_unitCleared (g : GalId) (p : Nat) (h : z.Thins s) : z.Thins (s.unitCleared g p) := by
  unfold State.unitCleared
  grind [← thins_unitPassed, ← thins_modLife, ← thins_modBank, ← thins_writeBankRec]

theorem State.thins_tryEnded (g : GalId) (p : Nat) (ok : Bool) (h : z.Thins s) : z.Thins (s.tryEnded g p ok) := by
  unfold State.tryEnded
  grind [← thins_unitCleared, ← thins_modLife, ← thins_unitPassed, ← thins_regressionCheck]

theorem State.thins_regressionGrant (b : BankId) (mA : Nat) (h : z.Thins s) : z.Thins (s.regressionGrant b mA) := by
  unfold State.regressionGrant
  grind [← thins_addTrace, ← thins_notePeak]

theorem State.thins_regressionRelease (b : BankId) (mA : Nat) (h : z.Thins s) : z.Thins (s.regressionRelease b mA) := by
  unfold State.regressionRelease
  grind [← thins_addTrace]

theorem State.thins_startRegressionClear (b : BankId) (u : UnitRef) (h : z.Thins s) : z.Thins (s.startRegressionClear b u) := by
  unfold State.startRegressionClear
  grind [← thins_modBank, ← thins_regressionGrant]

/-! ### Clears -/

theorem State.thins_tracePulses (b : BankId) (c : ClearRun) (h : z.Thins s) : z.Thins (s.tracePulses b c) := by
  unfold State.tracePulses
  grind [← thins_addTrace]

theorem State.thins_endClear (b : BankId) (c : ClearRun) (r : Byte) (h : z.Thins s) : z.Thins (s.endClear b c r) := by
  unfold State.endClear
  grind [← thins_closeClear, ← thins_complete]

theorem State.thins_decideUnit (b : BankId) (h : z.Thins s) : z.Thins (s.decideUnit b) := by
  unfold State.decideUnit
  grind [← thins_passAll, ← thins_endClear, ← thins_modBank]

theorem State.thins_startClear (o : Op) (b : BankId) (h : z.Thins s) : z.Thins (s.startClear o b) := by
  unfold State.startClear
  grind [← thins_modOp, ← thins_grant, ← thins_modBank, ← thins_decideUnit]

theorem State.thins_startSource (o : Op) (b : BankId) (h : z.Thins s) : z.Thins (s.startSource o b) := by
  unfold State.startSource
  grind [← thins_modOp, ← thins_grant, ← thins_modBank]

theorem State.thins_nextUnitStarts (b : BankId) (h : z.Thins s) : z.Thins (s.nextUnitStarts b) := by
  unfold State.nextUnitStarts
  grind [← thins_modBank, ← thins_decideUnit]

theorem State.thins_countSince (b : BankId) (o : Op) (h : z.Thins s) : z.Thins (s.countSince b o) := by
  unfold State.countSince
  grind [← thins_modBank]

theorem State.thins_unitGood (b : BankId) (c : ClearRun) (o : Op) (h : z.Thins s) : z.Thins (s.unitGood b c o) := by
  have hm : z.Thins (s.modOp o.id (fun x => { x with units := if countsUnit o c.unit then x.units + 1 else x.units })) :=
    thins_modOp o.id _ (fun _ => ⟨rfl, rfl⟩) h
  unfold State.unitGood
  dsimp only
  split
  · exact hm
  · split
    · exact thins_endClear _ _ _ hm
    · split
      · exact thins_endClear _ _ _ hm
      · exact thins_modBank _ _ (thins_modOp _ _ (fun _ => ⟨rfl, rfl⟩) hm)

theorem State.thins_clearFailed (b : BankId) (c : ClearRun) (h : z.Thins s) : z.Thins (s.clearFailed b c) := by
  unfold State.clearFailed
  grind [← thins_modBank, ← thins_modKept]

theorem State.thins_blankUnit (b : BankId) (u : UnitRef) (h : z.Thins s) : z.Thins (s.blankUnit b u) := ⟨h.1, h.2, h.3⟩

theorem State.thins_leaveOpen (lo n : Nat) (h : z.Thins s) : z.Thins (s.leaveOpen lo n) := by
  induction n generalizing s lo with
  | zero => exact h
  | succ n ih => exact ih (lo + 1) ⟨h.1, h.2, h.3⟩

theorem State.thins_openUnit (b : BankId) (u : UnitRef) (h : z.Thins s) : z.Thins (s.openUnit b u) := thins_leaveOpen _ _ h

theorem State.thins_countClearFail (b : BankId) (h : z.Thins s) : z.Thins (s.countClearFail b) := by
  unfold State.countClearFail
  grind [← thins_modBank]

theorem State.thins_closeRegression (b : BankId) (c : ClearRun) (h : z.Thins s) : z.Thins (s.closeRegression b c) := by
  unfold State.closeRegression
  grind [← thins_modBank, ← thins_regressionRelease]

theorem State.thins_regressionUnit (b : BankId) (c : ClearRun) (ok : Bool) (h : z.Thins s) :
    z.Thins (s.regressionUnit b c ok) := by
  unfold State.regressionUnit
  grind [← thins_modBank, ← thins_closeRegression, ← thins_tryEnded]

theorem State.thins_endUnit (b : BankId) (c : ClearRun) (ok : Bool) (h : z.Thins s) : z.Thins (s.endUnit b c ok) := by
  unfold State.endUnit
  grind [← thins_tracePulses, ← thins_blankUnit, ← thins_addClear, ← thins_openUnit, ← thins_countClearFail,
    ← thins_regressionUnit, ← thins_countSince, ← thins_unitGood, ← thins_clearFailed, ← thins_endClear, ← thins_closeClear,
    ← thins_sourceEnds]

theorem State.thins_startFiring (o : Op) (b : BankId) (k : Nat) (h : z.Thins s) : z.Thins (s.startFiring o b k) := by
  unfold State.startFiring
  grind [← thins_modKept, ← thins_modOp, ← thins_grant, ← thins_modBank]

theorem State.thins_endFiring (b : BankId) (c : ClearRun) (ok : Bool) (h : z.Thins s) : z.Thins (s.endFiring b c ok) := by
  unfold State.endFiring
  grind [← thins_closeClear, ← thins_modOp, ← thins_firedState, ← thins_wpWaits]

theorem State.thins_countFiring (b : BankId) (c : ClearRun) (h : z.Thins s) : z.Thins (s.countFiring b c) := by
  unfold State.countFiring
  grind [← thins_setWear]

theorem State.thins_runWpStep (b : BankId) (e : Nat × WpStep) (h : z.Thins s) : z.Thins (s.runWpStep b e) := by
  unfold State.runWpStep
  grind [← thins_mapChange, ← thins_retireDst, ← thins_retireSrc, ← thins_nextState, ← thins_firedState]

theorem State.thins_runWpSteps (b : BankId) (h : z.Thins s) : z.Thins (s.runWpSteps b) :=
  thins_forEach _ (fun t e ht => thins_runWpStep b e ht) _ (thins_modBank b _ h)

theorem State.thins_plinthGoesOn (h : z.Thins s) : z.Thins s.plinthGoesOn := by
  unfold State.plinthGoesOn
  grind [← thins_modPlinth]

theorem State.thins_sampleWp (h : z.Thins s) : z.Thins s.sampleWp := by
  have hw : z.Thins { s with pins := { s.pins with wp := s.pins.wpPin } } := ⟨h.1, h.2, h.3⟩
  unfold State.sampleWp
  dsimp only
  split
  · exact thins_finishRegression (thins_tryRaise (thins_forEach _ (fun t b ht => thins_runWpSteps b ht) _ (thins_plinthGoesOn hw)))
  · exact thins_finishRegression hw

/-! ### Windows -/

theorem State.thins_reachPartner (a : BitVec 32) (rx : List Byte) (h : z.Thins s) : z.Thins (s.reachPartner a rx).1 := by
  unfold State.reachPartner
  grind [← thins_probePartner]

theorem State.thins_partnerEnds (o : Op) (ap : AnnexId × PartnerId) (r : Byte) (h : z.Thins s) :
    z.Thins (s.partnerEnds o ap r) := by
  unfold State.partnerEnds
  grind [← thins_loseOp, ← thins_fencePartner, ← thins_endWindow]

theorem State.thins_sendWrite (o : Op) (ap : AnnexId × PartnerId) (erasing : Bool) (sent rx : List Byte) (h : z.Thins s) :
    z.Thins (s.sendWrite o ap erasing sent rx) := by
  have hs : ∀ e f, z.Thins ((s.send ap.1 e).send ap.1 f) := fun e f => thins_send _ _ (thins_send _ _ h)
  unfold State.sendWrite
  dsimp only
  split
  · exact thins_partnerEnds _ _ _ (hs _ _)
  · exact thins_modOp _ _ (fun _ => ⟨rfl, rfl⟩) (thins_modPartner _ _ _ (thins_send _ _ (hs _ _)))

theorem State.thins_programNext (id : Nat) (ap : AnnexId × PartnerId) (rx : List Byte) (h : z.Thins s) :
    z.Thins (s.programNext id ap rx) := by
  unfold State.programNext
  grind [← thins_sendWrite]

theorem State.thins_holdAtGate (o : Op) (h : z.Thins s) : z.Thins (s.holdAtGate o) := by
  unfold State.holdAtGate
  grind [← thins_modOp, ← thins_modPartner]

theorem State.thins_eraseUnit (o : Op) (ap : AnnexId × PartnerId) (rx : List Byte) (h : z.Thins s) :
    z.Thins (s.eraseUnit o ap rx) := by
  unfold State.eraseUnit
  grind [← thins_sendWrite]

theorem State.thins_eraseNext (id : Nat) (ap : AnnexId × PartnerId) (rx : List Byte) (h : z.Thins s) :
    z.Thins (s.eraseNext id ap rx) := by
  unfold State.eraseNext
  grind [← thins_eraseUnit, ← thins_holdAtGate, ← thins_passAll, ← thins_endWindow]

theorem State.thins_takePages (o : Op) (n : Nat) (h : z.Thins s) : z.Thins (s.takePages o n) := by
  induction n generalizing s with
  | zero => exact h
  | succ n ih => exact ih (thins_takeYard o.id o.slot 0 [] h)

theorem State.thins_layWindow (o : Op) (ap : Option (AnnexId × PartnerId)) (rx : List Byte) (h : z.Thins s) :
    z.Thins (s.layWindow o ap rx) := by
  unfold State.layWindow
  grind [← thins_passAll, ← thins_endWindow, ← thins_modOp, ← thins_programNext]

theorem State.thins_windowLay (o : Op) (rx : List Byte) (h : z.Thins s) : z.Thins (s.windowLay o rx) := by
  unfold State.windowLay
  grind [← thins_reachPartner, ← thins_endWindow, ← thins_takePages, ← thins_holdAtGate, ← thins_layWindow]

theorem State.thins_windowClear (o : Op) (rx : List Byte) (h : z.Thins s) : z.Thins (s.windowClear o rx) := by
  unfold State.windowClear
  grind [← thins_reachPartner, ← thins_endWindow, ← thins_holdAtGate, ← thins_passAll, ← thins_eraseNext]

theorem State.thins_stopsWith (id : Nat) (r : Byte) (h : z.Thins s) : z.Thins (s.stopsWith id r) := by
  unfold State.stopsWith
  grind [← thins_modOp, Op.stops_key]

theorem State.thins_readWindowStone (o : Op) (r : ReadRun) (rx : List Byte) (h : z.Thins s) :
    z.Thins (s.readWindowStone o r rx).1 := by
  unfold State.readWindowStone
  grind [← thins_nextStone, ← thins_stopsWith, ← thins_readPartner, ← thins_modOp, Op.withRun_key, Op.gotStone_key]

theorem State.thins_windowStep (id : Nat) (rx : List Byte) (h : z.Thins s) : z.Thins (s.windowStep id rx).1 := by
  unfold State.windowStep
  grind [← thins_nextStone, ← thins_stopsWith, ← thins_gateStone, ← thins_readWindowStone]

theorem State.thins_readPauses (id : Nat) (h : z.Thins s) : z.Thins (s.readPauses id) := by
  unfold State.readPauses
  grind [← thins_stopRead, ← thins_nextStone]

theorem State.thins_windowReads (id : Nat) (rx : List Byte) (n : Nat) (h : z.Thins s) : z.Thins (s.windowReads id rx n) := by
  induction n generalizing s rx with
  | zero => exact thins_readPauses id h
  | succ n ih =>
    have hs := thins_windowStep id rx h
    unfold State.windowReads
    grind [← thins_readPauses]

theorem State.thins_aheadOver (id : Nat) (h : z.Thins s) : z.Thins (s.aheadOver id) := by
  unfold State.aheadOver
  grind [← thins_fillYard, ← thins_modOp]

theorem State.thins_startAhead (id : Nat) (flips : Flips) (h : z.Thins s) : z.Thins (s.startAhead id flips) := by
  unfold State.startAhead
  grind [← thins_modOp, ← thins_readOn, ← thins_aheadOver]

theorem State.thins_writeChunk (o : Op) (flips : Flips) (rx : List Byte) (h : z.Thins s) :
    z.Thins (s.writeChunk o flips rx) := by
  have hp := thins_passAll o true (stonesFrom o.layAt o.payload.length) h
  unfold State.writeChunk
  generalize s.passAll o true (stonesFrom o.layAt o.payload.length) = g at hp
  obtain ⟨t, n, f⟩ := g
  dsimp only
  split
  · exact thins_endWindow _ _ hp
  · have hm : ∀ c, z.Thins (t.modOp o.id (fun x => { x with
        payload := x.payload.take n, result := c, position := x.units.toNat, index := 8 * x.units.toNat })) := fun c =>
      thins_modOp _ _ (fun _ => ⟨rfl, rfl⟩) hp
    have hr := fun c => thins_reachPartner o.addr rx (hm c)
    split
    · next heq => exact thins_endWindow _ _ ((hr _).fst heq)
    · next heq => exact thins_endWindow _ _ ((hr _).fst heq)
    · next heq => exact thins_startAhead _ _ (thins_programNext _ _ _ ((hr _).fst heq))

theorem State.thins_layChunk (o : Op) (flips : Flips) (h : z.Thins s) : z.Thins (s.layChunk o flips) := by
  unfold State.layChunk
  grind [← thins_setWork, ← thins_modBank, ← thins_decideLay, ← thins_startAhead]

theorem State.thins_chunkStaged (o : Op) (flips : Flips) (h : z.Thins s) : z.Thins (s.chunkStaged o flips) := by
  unfold State.chunkStaged
  grind [← thins_setWork, ← thins_layChunk]

theorem State.thins_stagingOver (id : Nat) (h : z.Thins s) : z.Thins (s.stagingOver id) := by
  unfold State.stagingOver
  grind [← thins_dropHeldLay, ← thins_endWindow, ← thins_fillYard, ← thins_chunkStaged]

theorem State.thins_stagingEnds (h : z.Thins s) : z.Thins s.stagingEnds :=
  thins_forEach _ (fun t o ht => thins_aheadOver o.id (thins_stagingOver o.id ht)) _ h

theorem State.thins_stageWindow (id : Nat) (rx : List Byte) (h : z.Thins s) : z.Thins (s.stageWindow id rx) := by
  unfold State.stageWindow
  grind [← thins_windowReads, ← thins_stagingOver]

theorem State.thins_stageChunk (o : Op) (flips : Flips) (rx : List Byte) (h : z.Thins s) :
    z.Thins (s.stageChunk o flips rx) := by
  unfold State.stageChunk
  grind [← thins_modOp, ← thins_setWork, ← thins_readOn, ← thins_stagingOver, ← thins_putLay, ← thins_stageWindow]

theorem State.thins_goAhead (o : Op) (a : Ahead) (flips : Flips) (rx : List Byte) (h : z.Thins s) :
    z.Thins (s.goAhead o a flips rx) := by
  unfold State.goAhead
  grind [← thins_modOp, ← thins_putLay, ← thins_setWork, ← thins_chunkStaged, ← thins_stageWindow, ← thins_stagingOver,
    ← thins_readOn]

theorem State.thins_takeSecond (o : Op) (h : z.Thins s) : z.Thins (s.takeSecond o) := by
  unfold State.takeSecond
  grind [← thins_modOp, ← thins_takeYard]

theorem State.thins_startChunk (o : Op) (flips : Flips) (rx : List Byte) (h : z.Thins s) :
    z.Thins (s.startChunk o flips rx) := by
  unfold State.startChunk
  split
  · exact thins_complete _ _ h
  · next main win _ =>
    have hr := thins_reachPartner win rx h
    split
    · exact thins_complete _ _ h
    · split
      · next heq => exact thins_endWindow _ _ (hr.fst heq)
      · next heq =>
        have h1 := hr.fst heq
        split
        · exact thins_endWindow _ _ h1
        · split
          · exact thins_goAhead _ _ _ _ (thins_takeSecond _ h1)
          · exact thins_stageChunk _ _ _ (thins_takeSecond _ h1)

theorem State.thins_dispatchChunk (o : Op) (flips : Flips) (rx : List Byte) (h : z.Thins s) :
    z.Thins (s.dispatchChunk o flips rx) := by
  unfold State.dispatchChunk
  grind [← thins_goAhead, ← thins_startChunk]

theorem State.thins_resumeHaul (o : Op) (flips : Flips) (rx : List Byte) (h : z.Thins s) :
    z.Thins (s.resumeHaul o flips rx) := by
  unfold State.resumeHaul
  grind [← thins_reachPartner, ← thins_stopsWith, ← thins_windowReads, ← thins_aheadOver, ← thins_dropHeldLay,
    ← thins_endWindow, ← thins_stageWindow, ← thins_writeChunk]

theorem State.thins_resumeHeld (o : Op) (flips : Flips) (rx : List Byte) (h : z.Thins s) :
    z.Thins (s.resumeHeld o flips rx) := by
  unfold State.resumeHeld
  grind [← thins_resumeHaul, ← thins_windowLay, ← thins_windowClear, ← thins_eraseNext]

theorem State.thins_pageConfirmed (o : Op) (ap : AnnexId × PartnerId) (rx : List Byte) (h : z.Thins s) :
    z.Thins (s.pageConfirmed o ap rx) := by
  have hm : ∀ (i : Nat) (u : BitVec 32), z.Thins (s.modOp o.id (fun x => { x with index := i, units := u })) := fun i u =>
    thins_modOp _ _ (fun _ => ⟨rfl, rfl⟩) h
  unfold State.pageConfirmed
  dsimp only
  split
  · exact thins_programNext _ _ _ (hm _ _)
  · split
    · exact thins_chunkEnds _ _ _ (thins_modOp _ _ (fun _ => ⟨rfl, rfl⟩) (hm _ _))
    · exact thins_endWindow _ _ (thins_drainYard _ (hm _ _))

theorem State.thins_eraseConfirmed (o : Op) (ap : AnnexId × PartnerId) (rx : List Byte) (h : z.Thins s) :
    z.Thins (s.eraseConfirmed o ap rx) := by
  unfold State.eraseConfirmed
  grind [← thins_modOp, ← thins_endWindow, ← thins_eraseNext]

theorem State.thins_yieldOp (a : AnnexId) (o : Op) (h : z.Thins s) : z.Thins (s.yieldOp a o) := by
  unfold State.yieldOp
  grind [← thins_losePartner, ← thins_modOp, ← thins_dropHeldLay, ← thins_loseOp, Op.lostSource_key]

/-! ### Dispatch -/

theorem State.thins_startFetchOp (o : Op) (flips : Flips) (rx : List Byte) (h : z.Thins s) :
    z.Thins (s.startFetchOp o flips rx) := by
  unfold State.startFetchOp
  grind [← thins_modOp, ← thins_stopsWith, ← thins_reachPartner, ← thins_endWindow, ← thins_readOn]

theorem State.thins_startRead (o : Op) (b : BankId) (flips : Flips) (h : z.Thins s) : z.Thins (s.startRead o b flips) := by
  unfold State.startRead
  grind [← thins_passAll, ← thins_complete, ← thins_modOp]

theorem State.thins_kilnNothing (o : Op) (b : BankId) (h : z.Thins s) : z.Thins (s.kilnNothing o b) := by
  unfold State.kilnNothing
  grind [← thins_modBank, ← thins_complete, ← thins_countDeferred]

theorem State.thins_beginSwap (o : Op) (b : BankId) (h : z.Thins s) : z.Thins (s.beginSwap o b) := by
  unfold State.beginSwap
  dsimp only
  split
  · exact thins_beginMove _ _ (thins_modOp _ _ (fun _ => ⟨rfl, rfl⟩) h)
  · exact h

theorem State.thins_startKiln (o : Op) (b : BankId) (act : Act) (flips : Flips) (h : z.Thins s) :
    z.Thins (s.startKiln o b act flips) := by
  unfold State.startKiln
  grind [← thins_passAll, ← thins_complete, ← thins_beginSwap, ← thins_startRow, ← thins_startSource, ← thins_startFiring,
    ← thins_kilnNothing]

theorem State.thins_startStep (o : Op) (act : Act) (flips : Flips) (rx : List Byte) (h : z.Thins s) :
    z.Thins (s.startStep o act flips rx) := by
  unfold State.startStep
  grind [← thins_startFetchOp, ← thins_dispatchChunk, ← thins_startLay, ← thins_startClear, ← thins_requestSuspend,
    ← thins_completeWith, ← thins_requestResume, ← thins_startRead, ← thins_startKiln, ← thins_startRow, ← thins_startSource,
    ← thins_windowLay, ← thins_windowClear, ← thins_complete]

theorem State.thins_wakeGal (g : GalId) (h : z.Thins s) : z.Thins (s.wakeGal g) := by
  unfold State.wakeGal
  grind [← thins_modGal]

theorem State.thins_charge (g : GalId) (i : SubId) (v : SvcId) (c : Nat) (h : z.Thins s) : z.Thins (s.charge g i v c) := by
  unfold State.charge
  grind [← thins_modGal]

theorem State.thins_passOthers (g : GalId) (id : Nat) (h : z.Thins s) : z.Thins (s.passOthers g id) :=
  h.mapOps _ fun o => by split <;> exact ⟨rfl, rfl⟩

theorem State.thins_countDispatch (g : GalId) (o : Op) (h : z.Thins s) : z.Thins (s.countDispatch g o) := by
  unfold State.countDispatch
  grind [← thins_modGal, ← thins_traceOp, ← thins_endReservation, ← thins_modOp]

theorem State.thins_dispatchOp (g : GalId) (o : Op) (counts : Bool) (h : z.Thins s) : z.Thins (s.dispatchOp g o counts) := by
  unfold State.dispatchOp
  grind [← thins_passOthers, ← thins_modGal, ← thins_charge, ← thins_countDispatch]

theorem State.thins_dispatchStep (g : GalId) (o : Op) (counts : Bool) (flips : Flips) (rx : List Byte) (h : z.Thins s) :
    z.Thins (s.dispatchStep g o counts flips rx) := by
  unfold State.dispatchStep
  grind [← thins_dispatchOp, ← thins_startStep]

theorem State.thins_dispatchProbed (g : GalId) (o : Op) (counts : Bool) (flips : Flips) (rx : List Byte) (h : z.Thins s) :
    z.Thins (s.dispatchProbed g o counts flips rx) := by
  unfold State.dispatchProbed
  grind [← thins_dispatchStep, ← thins_probePartner, ← thins_dispatchOp, ← thins_modOp, ← thins_endWindow]

theorem State.thins_dispatchPick (g : GalId) (e : Op × Bool) (flips : Flips) (rx : List Byte) (h : z.Thins s) :
    z.Thins (s.dispatchPick g e flips rx) := by
  unfold State.dispatchPick
  grind [← thins_modGal, ← thins_dispatchProbed]

theorem State.thins_fetchRequests (g : GalId) (h : z.Thins s) : z.Thins (s.fetchRequests g) :=
  thins_forEach _ (fun t o ht => by split; exacts [thins_fetchMeets _ _ _ ht, ht]) _ h

theorem State.thins_endFetch (o : Op) (h : z.Thins s) : z.Thins (s.endFetch o) := by
  unfold State.endFetch
  grind [← thins_modBank, ← thins_fillYard, ← thins_endWindow]

theorem State.thins_fetchOver (id : Nat) (h : z.Thins s) : z.Thins (s.fetchOver id) := by
  unfold State.fetchOver
  grind [← thins_endFetch]

theorem State.thins_takesTurn (q : AnnexId × PartnerId) (h : z.Thins s) : z.Thins (s.takesTurn q) := by
  unfold State.takesTurn
  grind [← thins_modAnx]

theorem State.thins_fetchWindow (o : Op) (n : Nat) (rx : List Byte) (h : z.Thins s) : z.Thins (s.fetchWindow o n rx) := by
  unfold State.fetchWindow
  grind [← thins_nextStone, ← thins_windowReads, ← thins_fetchOver, ← thins_stopsWith, ← thins_takesTurn]

/-! ### The house -/

theorem State.thins_noteOverdue (h : z.Thins s) : z.Thins s.noteOverdue :=
  thins_forEach _ (fun t b ht => by split; exacts [thins_modBank _ _ ht, ht]) _ h

theorem State.thins_passOver (h : z.Thins s) : z.Thins s.passOver := by
  unfold State.passOver
  grind [← thins_countDeferred, ← thins_modUpkeep]

/-! ### Pulses and pumps -/

theorem State.thins_closeAllGates (h : z.Thins s) : z.Thins s.closeAllGates := ⟨h.1, h.2, h.3⟩

theorem State.thins_runPumps (h : z.Thins s) : z.Thins s.runPumps := ⟨h.1, h.2, h.3⟩

theorem State.thins_tracePump (old new : Pump) (h : z.Thins s) : z.Thins (s.tracePump old new) := by
  unfold State.tracePump
  grind [← thins_addTrace]

theorem State.thins_adaptPump (g : GalId) (clearPump low : Bool) (h : z.Thins s) : z.Thins (s.adaptPump g clearPump low) := by
  unfold State.adaptPump
  grind [← thins_modGal, ← thins_tracePump]

theorem State.thins_adaptPumps (reglow : BitVec 8) (h : z.Thins s) : z.Thins (s.adaptPumps reglow) :=
  thins_forEach _ (fun t g ht => thins_adaptPump g true _ (thins_adaptPump g false _ ht)) _ h

theorem State.thins_countBrown (h : z.Thins s) : z.Thins s.countBrown := by
  unfold State.countBrown
  split
  · exact h
  · exact thins_cause _ (thins_modPower _ (thins_forEach _ (fun t n ht => thins_addTrace _ _ _ _ ht) _ h))

theorem State.thins_bankGoesOn (b : BankId) (h : z.Thins s) : z.Thins (s.bankGoesOn b) := by
  unfold State.bankGoesOn
  grind [← thins_decideLay, ← thins_decideUnit, ← thins_nextUnitStarts]

theorem State.thins_startPulses (f : Nat) (h : z.Thins s) : z.Thins (s.startPulses f) := ⟨h.1, h.2, h.3⟩

/-! ### Replies -/

theorem State.thins_feedMore (p : PortId) (data : List Byte) (feed : Feed) (h : z.Thins s) :
    z.Thins (s.feedMore p data feed) := by
  unfold State.feedMore
  grind [← thins_modPort]

theorem State.thins_pickRecord (p : PortId) (peek : Bool) (done : List Nat) (h : z.Thins s) :
    z.Thins (s.pickRecord p peek done) := by
  unfold State.pickRecord
  grind [← thins_feedMore, ← thins_modOp, ← thins_modPort]

theorem State.thins_pull (p : PortId) (h : z.Thins s) : z.Thins (s.pull p) := by
  unfold State.pull
  grind [← thins_nextStone, ← thins_feedMore, ← thins_recordSent, ← thins_pickRecord]

theorem State.thins_partDone (p : PortId) (h : z.Thins s) : z.Thins (s.partDone p) := by
  unfold State.partDone
  grind [← thins_modPort, ← thins_modOp, ← thins_collected]

theorem State.thins_emit (p : PortId) (h : z.Thins s) : z.Thins (s.emit p) := by
  unfold State.emit
  grind [← thins_modPort, ← thins_partDone]

theorem State.thins_fetchLate (p : PortId) (h : z.Thins s) : z.Thins (s.fetchLate p) := by
  unfold State.fetchLate
  grind [← thins_modPort]

theorem State.thins_fixStatus (p : PortId) (h : z.Thins s) : z.Thins (s.fixStatus p) := by
  unfold State.fixStatus
  grind [← thins_modPort, ← thins_fetchLate]

theorem State.thins_drive (p : PortId) (h : z.Thins s) : z.Thins (s.drive p) := by
  unfold State.drive
  grind [← thins_fixStatus, ← thins_pull, ← thins_emit]

theorem State.thins_clock (p : PortId) (dq0 : Bool) (h : z.Thins s) : z.Thins (s.clock p dq0) := by
  unfold State.clock
  grind [← thins_modPort, ← thins_drive]

/-! ### The pace edge -/

theorem State.thins_closeEdge (n : Nat) (h : z.Thins s) : z.Thins (s.closeEdge n) := by
  have hw : z.Thins (forEach allGals State.wakeGal s) := thins_forEach _ (fun t g ht => thins_wakeGal g ht) _ h
  have hm := hw.mapOps (State.agedOp (forEach allGals State.wakeGal s) n) (fun _ => ⟨rfl, rfl⟩)
  exact ⟨hm.1, hm.2, hm.3⟩

theorem State.thins_recordGuard (h : z.Thins s) : z.Thins s.recordGuard := by
  unfold State.recordGuard
  split
  · exact h
  · exact thins_modPace _ (thins_forEach _ (fun t g ht => by split; exacts [thins_addTrace _ _ _ _ ht, ht]) _ h)

theorem State.thins_countTicks (n : Nat) (h : z.Thins s) : z.Thins (s.countTicks n) := ⟨h.1, h.2, h.3⟩

theorem State.thins_portTokensMove (h : z.Thins s) : z.Thins s.portTokensMove := ⟨h.1, h.2, h.3⟩

theorem State.thins_checkReservation (h : z.Thins s) : z.Thins s.checkReservation := by
  unfold State.checkReservation
  grind [← thins_modPower]

theorem State.thins_annexEdge (inp : EdgeIn) (h : z.Thins s) : z.Thins (s.annexEdge inp) := ⟨h.1, h.2, h.3⟩

theorem State.thins_heldMeets (p : PortId) (h : z.Thins s) : z.Thins (s.heldMeets p) := by
  unfold State.heldMeets
  grind [← thins_fetchWaits]

/-! ### Boot -/

theorem State.thins_loadGate (g : GateId) (i : GateImage) (h : z.Thins s) : z.Thins (s.loadGate g i) := by
  unfold State.loadGate
  grind [← thins_modGate, ← thins_enableGate]

theorem State.thins_raised (id : Nat) (level : BitVec 2) (h : z.Thins s) : z.Thins (s.raised id level) := by
  unfold State.raised
  grind [← thins_modLife, ← thins_bumpEpochs, ← thins_cause, ← thins_complete]

theorem State.thins_regressionBegins (h : z.Thins s) : z.Thins s.regressionBegins := by
  unfold State.regressionBegins
  grind [← thins_startRegression, ← thins_cause]

theorem State.thins_openAgain (h : z.Thins s) : z.Thins s.openAgain := by
  have hf : ∀ t : State, z.Thins t → z.Thins (forEach allGates (fun t g => t.loadGate g GateImage.shipment) t) := fun t ht =>
    thins_forEach _ (fun t g ht => thins_loadGate g _ ht) _ ht
  unfold State.openAgain
  grind [← thins_cause, ← thins_bumpEpochs, ← thins_modLife, ← thins_modOp, ← thins_complete]

theorem State.thins_bootJournal (h : z.Thins s) : z.Thins s.bootJournal := by
  unfold State.bootJournal
  grind [← thins_modLife]

theorem State.thins_noteCopy (second : Bool) (h : z.Thins s) : z.Thins (s.noteCopy second) := by
  unfold State.noteCopy
  grind [← thins_modBoot]

theorem State.thins_setConfig (c : CfgRec) (h : z.Thins s) : z.Thins (s.setConfig c) := ⟨h.1, h.2, h.3⟩

theorem State.thins_bootConfig (h : z.Thins s) : z.Thins s.bootConfig := by
  unfold State.bootConfig
  grind [← thins_setConfig, ← thins_noteCopy, ← thins_modBoot]

theorem State.thins_bootBank (b : Fin 64) (h : z.Thins s) : z.Thins (s.bootBank b) := by
  unfold State.bootBank
  grind [← thins_modBank, ← thins_noteCopy, ← thins_modBoot]

theorem State.thins_bootGate (g : GateId) (h : z.Thins s) : z.Thins (s.bootGate g) := by
  unfold State.bootGate
  grind [← thins_loadGate, ← thins_noteCopy, ← thins_modGate, ← thins_modBoot]

theorem State.thins_bootTidy (b : Fin 64) (h : z.Thins s) : z.Thins (s.bootTidy b) := by
  unfold State.bootTidy
  grind [← thins_modBank, ← thins_refillGap]

theorem State.thins_bootRest (h : z.Thins s) : z.Thins s.bootRest := by
  have hb : z.Thins (forEach mainBanks State.bootBank s.bootConfig) :=
    thins_forEach State.bootBank (fun t b ht => thins_bootBank b ht) _ (thins_bootConfig h)
  have hg := thins_forEach State.bootGate (fun t g ht => thins_bootGate g ht) allGates hb
  simp only [State.bootRest]
  exact thins_modBoot _ (thins_forEach State.bootTidy (fun t b ht => thins_bootTidy b ht) _ hg)

theorem State.thins_afterJournal (h : z.Thins s) : z.Thins s.afterJournal := by
  unfold State.afterJournal
  grind [← thins_bootRest, ← thins_modBoot]

theorem State.thins_startRepair (h : z.Thins s) : z.Thins s.startRepair := by
  unfold State.startRepair
  grind [← thins_startJournal]

theorem State.thins_recordActs (j : JWrite) (h : z.Thins s) : z.Thins (s.recordActs j) := by
  unfold State.recordActs
  grind [← thins_raised, ← thins_begin, ← thins_regressionBegins, ← thins_openAgain, ← thins_bootRest]

end
end Sys2Proof.Machine
end

section
/-! PROOFS. Commits (R181, R213, R225): an operation joins the others under a name that none had, in a slot or direct place that
was free; so names and places stay distinct. -/
namespace Sys2Proof.Machine

/-! ### The invariant -/

theorem State.ledgerOk_iff (s : State) : s.ledgerOk = true ↔
    (s.ledger.ops.map (·.id)).Nodup ∧ (s.ledger.ops.map (·.origin)).Nodup ∧ ∀ o ∈ s.ledger.ops, o.id < s.ledger.nextId := by
  simp [State.ledgerOk, and_assoc]

/-- An operation that may join the others: its name is the next, its place is free. -/
structure State.Fresh (s : State) (o : Op) : Prop where
  id    : o.id = s.ledger.nextId
  place : ∀ x ∈ s.ledger.ops, x.origin ≠ o.origin

section
variable {s t : State} {o : Op}

theorem map_fst_key (l : List Op) : (l.map Op.key).map Prod.fst = l.map (·.id) := by
  rw [List.map_map]
  rfl

theorem map_snd_key (l : List Op) : (l.map Op.key).map Prod.snd = l.map (·.origin) := by
  rw [List.map_map]
  rfl

/-- Dropping operations keeps names and places distinct. -/
theorem State.ledgerOk_of_thins (h : s.Thins t) (hs : s.ledgerOk = true) : t.ledgerOk = true := by
  rw [State.ledgerOk_iff] at hs ⊢
  obtain ⟨hids, hplaces, hlt⟩ := hs
  have hi : (t.ledger.ops.map (·.id)).Sublist (s.ledger.ops.map (·.id)) := by
    simpa only [map_fst_key] using h.ops.map Prod.fst
  have hp : (t.ledger.ops.map (·.origin)).Sublist (s.ledger.ops.map (·.origin)) := by
    simpa only [map_snd_key] using h.ops.map Prod.snd
  refine ⟨hids.sublist hi, hplaces.sublist hp, fun o ho => ?_⟩
  obtain ⟨x, hx, he⟩ := List.mem_map.1 (hi.subset (List.mem_map_of_mem ho))
  rw [h.next, ← he]
  exact hlt x hx

theorem State.Fresh.of_thins (hf : s.Fresh o) (h : s.Thins t) : t.Fresh o where
  id := hf.id.trans h.next.symm
  place := fun x hx => by
    have hp : (t.ledger.ops.map (·.origin)).Sublist (s.ledger.ops.map (·.origin)) := by
      simpa only [map_snd_key] using h.ops.map Prod.snd
    obtain ⟨y, hy, he⟩ := List.mem_map.1 (hp.subset (List.mem_map_of_mem hx))
    exact he ▸ hf.place y hy

theorem State.Fresh.of_key {q : Op} (hf : s.Fresh o) (hid : q.id = o.id) (hplace : q.origin = o.origin) : s.Fresh q :=
  ⟨hid.trans hf.id, fun x hx => hplace ▸ hf.place x hx⟩

theorem State.ledgerOk_addOp (hs : s.ledgerOk = true) (hf : s.Fresh o) : (s.addOp o).ledgerOk = true := by
  rw [State.ledgerOk_iff] at hs ⊢
  obtain ⟨hids, hplaces, hlt⟩ := hs
  simp only [State.addOp, State.modLedger, List.map_append, List.map_cons, List.map_nil, List.mem_append, List.mem_singleton]
  refine ⟨List.nodup_append.2 ⟨hids, List.nodup_singleton _, ?_⟩, List.nodup_append.2 ⟨hplaces, List.nodup_singleton _, ?_⟩, ?_⟩
  · intro a ha b hb
    obtain ⟨x, hx, rfl⟩ := List.mem_map.1 ha
    obtain rfl := List.mem_singleton.1 hb
    have := hlt x hx
    rw [hf.id]
    omega
  · intro a ha b hb
    obtain ⟨x, hx, rfl⟩ := List.mem_map.1 ha
    obtain rfl := List.mem_singleton.1 hb
    exact hf.place x hx
  · rintro x (hx | rfl)
    · exact Nat.lt_succ_of_lt (hlt x hx)
    · rw [hf.id]
      exact Nat.lt_succ_self _

end

/-! ### Admission -/

section
variable {s : State}

theorem State.opOf_fresh {a : Ask} {k : Fin 256} (hk : k ∈ s.freeSlots) : s.Fresh (s.opOf a k) where
  id := rfl
  place := fun x hx he => by
    have hn : s.opOfSlot k = none := by simpa [State.freeSlots] using hk
    rw [State.opOfSlot, List.find?_eq_none] at hn
    exact hn x hx (beq_iff_eq.2 he)

theorem State.pick_mem {α : Type} {l : List α} {a : α} (h : s.pick l = some a) : a ∈ l := List.mem_of_getElem? h

/-- Checks 7 and 8 change neither name nor place of what they admit. -/
theorem State.check78_key {a : Ask} {k : Fin 256} {o q : Op} {t : State} (h : s.check78 a k o = (t, .admitted q)) :
    q.id = o.id ∧ q.origin = o.origin := by
  unfold State.check78 at h
  grind

theorem State.check58_key {a : Ask} {k : Fin 256} {q : Op} {t : State} (h : s.check58 a k = (t, .admitted q)) :
    q.id = (s.opOf a k).id ∧ q.origin = (s.opOf a k).origin := by
  unfold State.check58 at h
  dsimp only at h
  split at h
  · cases h
  · split at h
    · exact State.check78_key h
    · split at h
      · cases h
      · have hkey := State.check78_key h
        exact hkey

/-- What admission admits may join the operations. -/
theorem State.admitFrom3_fresh {a : Ask} {q : Op} {t : State} (h : s.admitFrom3 a = (t, .admitted q)) : t.Fresh q := by
  unfold State.admitFrom3 at h
  split at h
  · cases h
  · next s1 _ =>
    split at h
    · cases h
    · split at h
      · cases h
      · next k hk =>
        obtain ⟨hid, hplace⟩ := State.check58_key h
        have ht : s1.useFree.Thins t := (State.thins_check58 a k (.refl s1.useFree)).fst h
        have hmem : k ∈ s1.useFree.freeSlots := State.pick_mem hk
        exact ((State.opOf_fresh hmem).of_key hid hplace).of_thins ht

theorem State.admitPacket_fresh {p : PortId} {a : Ask} {q : Op} {t : State} (h : s.admitPacket p a = (t, .admitted q)) :
    t.Fresh q := by
  unfold State.admitPacket at h
  split at h
  · cases h
  · split at h
    · cases h
    · exact State.admitFrom3_fresh h

end

/-! ### Commits -/

/-- What a commit stages first: AFTERMISS, and the payload in its yard slot (R225, R234). -/
def State.payloadStaged (s : State) (o : Op) : State :=
  let s1 := if s.missesAfter o then s.modLedger (fun l => { l with aftermiss := true }) else s
  if o.payload.isEmpty then s1 else s1.fillYard o o.payload

/-- The operation as it stands once committed. -/
def Op.queuedAt (o : Op) (stamp : BitVec 32) : Op := { o with state := .queued, admitted := stamp }

/-- A committed operation stands among the others, in its subscriber's memory and in the trace (R225). -/
def State.joined (s : State) (o : Op) : State :=
  (((s.payloadStaged o).addOp (o.queuedAt s.stamp)).modSub o.sub (fun u => u.remember o.seq o.id)).traceOp tAdmit (o.queuedAt s.stamp)
    (BitVec.ofNat 16 (o.sub.val * 256 + o.seq.toNat))

theorem State.commit_eq (s : State) (o : Op) : s.commit o =
    if o.opcode = opCancel then (s.joined o).cancel (o.queuedAt s.stamp)
    else if o.opcode = opLevelRaise then (s.joined o).tryRaise
    else if o.opcode = opRegress then (s.joined o).modLife (fun l => { l with phase := 1 })
    else s.joined o := rfl

theorem State.thins_payloadStaged {s z : State} (o : Op) (h : z.Thins s) : z.Thins (s.payloadStaged o) := by
  unfold State.payloadStaged
  grind [← State.thins_modLedger, ← State.thins_fillYard]

section
variable {s : State} (hs : s.ledgerOk = true)
include hs

theorem State.ledgerOk_joined {o : Op} (hf : s.Fresh o) : (s.joined o).ledgerOk = true := by
  have h2 := State.thins_payloadStaged o (.refl s)
  have hfq : s.Fresh (o.queuedAt s.stamp) := hf.of_key rfl rfl
  have hadd := State.ledgerOk_addOp (State.ledgerOk_of_thins h2 hs) (hfq.of_thins h2)
  exact State.ledgerOk_of_thins (State.thins_traceOp _ _ _ (State.thins_modSub _ _ (.refl _))) hadd

theorem State.ledgerOk_commit {o : Op} (hf : s.Fresh o) : (s.commit o).ledgerOk = true := by
  rw [State.commit_eq]
  refine State.ledgerOk_of_thins ?_ (State.ledgerOk_joined hs hf)
  split
  · exact State.thins_cancel _ (.refl _)
  · split
    · exact State.thins_tryRaise (.refl _)
    · split
      · exact State.thins_modLife _ (.refl _)
      · exact .refl _

/-- A provisional operation commits under a new name in its own place. -/
theorem State.ledgerOk_commitOp (id : Nat) (payload : List Word) (src : BitVec 32) (badSrc : Bool) :
    (s.commitOp id payload src badSrc).ledgerOk = true := by
  unfold State.commitOp
  split
  · next o ho =>
    have ht : s.Thins ((s.dropOp id).modLedger (fun l => { l with
        yard := l.yard.map (fun e => if e.owner == id then { e with owner := s.ledger.nextId } else e) })) :=
      State.thins_modLedger _ rfl rfl (State.thins_dropOp id (.refl s))
    refine State.ledgerOk_commit (State.ledgerOk_of_thins ht hs) ⟨rfl, fun x hx he => ?_⟩
    obtain ⟨-, hplaces, -⟩ := (State.ledgerOk_iff s).1 hs
    obtain ⟨hmem, hne⟩ := List.mem_filter.1 (show x ∈ s.ledger.ops.filter (fun o => o.id != id) from hx)
    have hxo : x = o := List.inj_on_of_nodup_map hplaces hmem (List.mem_of_find?_eq_some ho) he
    have hid : (o.id == id) = true := List.find?_some (p := fun o : Op => o.id == id) ho
    rw [hxo, bne, hid] at hne
    cases hne
  · exact hs

theorem State.ledgerOk_decidePacket (p : PortId) (a : Ask) : (s.decidePacket p a).ledgerOk = true := by
  have ht := State.thins_admitPacket p a (.refl s)
  unfold State.decidePacket
  split
  · next h => exact State.ledgerOk_of_thins (State.thins_answerRefused _ _ _ _ _ (ht.fst h)) hs
  · next h => exact State.ledgerOk_of_thins (State.thins_answerAgain _ _ _ (ht.fst h)) hs
  · next s1 o h =>
    have hc := State.ledgerOk_commit (State.ledgerOk_of_thins (ht.fst h) hs) (State.admitPacket_fresh h)
    exact State.ledgerOk_of_thins (State.thins_answer _ _ _ (.refl _)) hc

theorem State.ledgerOk_openUpload (p : PortId) (op : Byte) (pk : Packet) : (s.openUpload p op pk).ledgerOk = true := by
  have ht := State.thins_admitPacket p (askOf p op pk []) (.refl s)
  unfold State.openUpload
  dsimp only
  split
  · exact hs
  · split
    · exact hs
    · exact hs
    · next s1 o h => exact State.ledgerOk_addOp (State.ledgerOk_of_thins (ht.fst h) hs) (State.admitPacket_fresh h)

theorem State.ledgerOk_closeUpload (p : PortId) (u : Upload) (payload : List Word) (crc : BitVec 16) :
    (s.closeUpload p u payload crc).ledgerOk = true := by
  have ht := State.thins_dropUpload p (.refl s)
  unfold State.closeUpload
  dsimp only
  have h1 : s.Thins (s.modPort p (fun x => { x with upload := none })) := State.thins_modPort _ _ (.refl s)
  have ho1 := State.ledgerOk_of_thins h1 hs
  generalize s.modPort p (fun x => { x with upload := none }) = s1 at h1 ho1
  split
  · exact hs
  · split
    · exact State.ledgerOk_of_thins (State.thins_payloadBad _ _ _ ht) hs
    · split
      · exact State.ledgerOk_of_thins (State.thins_answerBadAlign _ h1) hs
      · refine State.ledgerOk_of_thins (State.thins_answerRefused _ _ _ _ _ ?_) hs
        split
        · exact State.thins_modSub _ _ h1
        · exact h1
      · exact State.ledgerOk_of_thins (State.thins_answerAgain _ _ _ h1) hs
      · split
        · exact ho1
        · split
          · exact State.ledgerOk_of_thins (State.thins_answerAgain _ _ _ ht) hs
          · exact State.ledgerOk_of_thins (State.thins_answer _ _ _ (.refl _)) (State.ledgerOk_commitOp ho1 _ _ _ _)

theorem State.ledgerOk_ledgerPacket (p : PortId) (op : Byte) (pk : Packet) (payload : Option (List Word × BitVec 16)) :
    (s.ledgerPacket p op pk payload).ledgerOk = true := by
  unfold State.ledgerPacket
  dsimp only
  split
  · exact State.ledgerOk_of_thins (State.thins_badPacket p (.refl s)) hs
  · split
    · split
      · exact State.ledgerOk_decidePacket hs p _
      · exact State.ledgerOk_of_thins (State.thins_answerBadAlign p (.refl s)) hs
    · have ho := State.ledgerOk_openUpload hs p op pk
      split
      · exact ho
      · split
        · exact State.ledgerOk_closeUpload ho p _ _ _
        · exact ho

theorem State.ledgerOk_ledgerTaken (tx : Tx) (op : Byte) (pk : Packet) (payload : Option (List Word × BitVec 16)) :
    (s.ledgerTaken tx op pk payload).ledgerOk = true := by
  unfold State.ledgerTaken
  split
  · split
    · dsimp only
      have h1 : s.Thins (s.modPort tx.port (fun x => { x with cycle := tx.waited })) := State.thins_modPort _ _ (.refl s)
      have ho1 := State.ledgerOk_of_thins h1 hs
      generalize s.modPort tx.port (fun x => { x with cycle := tx.waited }) = s1 at h1 ho1
      split
      · exact State.ledgerOk_closeUpload ho1 _ _ _ _
      · exact State.ledgerOk_of_thins (State.thins_tooLate _ (State.thins_traceRefuse _ _ _ (State.thins_dropUpload _ h1))) hs
    · exact hs
  · have hb := State.thins_begin tx 0x7E false (.refl s)
    split
    · next h => exact State.ledgerOk_of_thins (hb.fst h) hs
    · next h =>
      have h1 := State.ledgerOk_of_thins (hb.fst h) hs
      split
      · exact State.ledgerOk_ledgerPacket h1 _ _ _ _
      · exact State.ledgerOk_of_thins (State.thins_tooLate _ (State.thins_traceRefuse _ _ _ (.refl _))) h1

theorem State.ledgerOk_ledgerCommand (tx : Tx) (op : Byte) (pk : Packet) (payload : Option (List Word × BitVec 16)) :
    (s.ledgerCommand tx op pk payload).ledgerOk = true := by
  unfold State.ledgerCommand
  split
  · exact State.ledgerOk_ledgerTaken hs tx op pk payload
  · exact hs

theorem State.ledgerOk_houseSubmit (op : Byte) (addr : BitVec 32) (count : Nat) (kind : MoveKind) :
    (s.houseSubmit op addr count kind).1.ledgerOk = true := by
  have ht := State.thins_admitFrom3 (s.houseAsk op addr count kind) (.refl s)
  unfold State.houseSubmit
  dsimp only
  split
  · next h => exact State.ledgerOk_commit (State.ledgerOk_of_thins (ht.fst h) hs) (State.admitFrom3_fresh h)
  · next s1 code slot full h =>
    have h1 := State.thins_endAdmission slot (s.houseAsk op addr count kind).traceBank code full (ht.fst h)
    dsimp only
    exact State.ledgerOk_of_thins (State.thins_modUpkeep _ h1) hs
  · next h => exact State.ledgerOk_of_thins (ht.fst h) hs

theorem State.ledgerOk_dutySubmit (op : Byte) (addr : BitVec 32) (count : Nat) (kind : MoveKind) :
    (s.dutySubmit op addr count kind).1.ledgerOk = true := by
  have h := State.thins_modUpkeep (fun u => { u with houseDone := true }) (.refl (s.houseSubmit op addr count kind).1)
  exact State.ledgerOk_of_thins h (State.ledgerOk_houseSubmit hs op addr count kind)

/-! ### Direct operations -/

omit hs in
theorem State.directBusy_eq_false {p : PortId} : s.directBusy p = false ↔ ∀ x ∈ s.ledger.ops, x.origin ≠ .direct p := by
  simp [State.directBusy, State.opOfDirect, List.find?_eq_none]

omit hs in
theorem State.directBusy_of_thins {t : State} {p : PortId} (ht : s.Thins t) (h : s.directBusy p = false) :
    t.directBusy p = false := by
  rw [State.directBusy_eq_false] at h ⊢
  intro x hx
  have hk : Op.key x ∈ s.ledger.ops.map Op.key := ht.ops.subset (List.mem_map_of_mem hx)
  obtain ⟨y, hy, he⟩ := List.mem_map.1 hk
  obtain ⟨-, hplace⟩ := Prod.mk.inj he
  exact hplace ▸ h y hy

omit hs in
theorem State.directOp_fresh {p : PortId} (h : s.directBusy p = false) (op : Byte) (addr : BitVec 32) (count : Nat)
    (payload : List Word) (c : Colour) (charge : Nat) (yard : Option (Fin 256)) :
    s.Fresh (s.directOp p op addr count payload c charge yard) :=
  ⟨rfl, State.directBusy_eq_false.1 h⟩

theorem State.ledgerOk_directCommit {p : PortId} (h : s.directBusy p = false) (op : Byte) (addr : BitVec 32) (count : Nat)
    (payload : List Word) (c : Colour) (charge : Nat) : (s.directCommit p op addr count payload c charge).ledgerOk = true := by
  have hfresh : ∀ (t : State) (o : Op), s.Thins t → t.Fresh o →
      (((t.addOp o).modPort p (fun x => { x with result := 0xFF, units := 0 })).answer p .ok []).ledgerOk = true :=
    fun t o ht hf => State.ledgerOk_of_thins (State.thins_answer _ _ _ (State.thins_modPort _ _ (.refl _)))
      (State.ledgerOk_addOp (State.ledgerOk_of_thins ht hs) hf)
  have hfull : ∀ t : State, s.Thins t →
      (((t.refundMeter (s.port p).dflt.toFin c charge).countFull).answer p .rfsd []).ledgerOk = true := fun t ht =>
    State.ledgerOk_of_thins (State.thins_answer _ _ _ (State.thins_countFull (State.thins_refundMeter _ _ _ ht))) hs
  unfold State.directCommit
  dsimp only
  split
  · exact hfresh s _ (.refl s) (State.directOp_fresh h op addr count [] c charge none)
  · split
    · exact hfull s (.refl s)
    · have hy := fun b => State.thins_takeYard s.ledger.nextId none b payload (.refl s)
      split
      · next heq =>
        have ht := (hy _).fst heq
        exact hfresh _ _ ht (State.directOp_fresh (State.directBusy_of_thins ht h) _ _ _ _ _ _ _)
      · next heq => exact hfull _ ((hy _).fst heq)

theorem State.ledgerOk_directAsk (p : PortId) (op : Byte) (addr : BitVec 32) (count : Nat) (payload : List Word) :
    (s.directAsk p op addr count payload).ledgerOk = true := by
  have ha : ∀ (t : State) (c : Cond), s.Thins t → (t.answer p c []).ledgerOk = true := fun t c ht =>
    State.ledgerOk_of_thins (State.thins_answer _ _ _ ht) hs
  unfold State.directAsk
  split
  · exact ha _ _ (State.thins_modPort _ _ (.refl s))
  · split
    · exact ha _ _ (.refl s)
    · next hbusy =>
      split
      · exact ha _ _ (.refl s)
      · split
        · exact ha _ _ (.refl s)
        · have hm : s.Thins (s.meter (s.port p).dflt.toFin (s.chargeOf op count)).1 := State.thins_meter _ _ (.refl s)
          dsimp only
          split
          · next heq => exact ha _ _ (hm.fst heq)
          · next heq =>
            have hb := State.directBusy_of_thins (hm.fst heq) (Bool.not_eq_true _ ▸ hbusy)
            exact State.ledgerOk_directCommit (State.ledgerOk_of_thins (hm.fst heq) hs) hb op addr count payload _ _

end
end Sys2Proof.Machine
end

section
/-! PROOFS. Every command keeps names and places of operations distinct (R181, R211, R213). -/
namespace Sys2Proof.Machine

section
variable {s z : State}

/-! ### CS# and the pace edge -/

theorem State.Thins.paceMoves {t : State} (hz : z.Thins s) (h : s.PaceMoves t) : z.Thins t := by
  rw [h.eq]
  exact hz.same rfl rfl rfl

theorem State.thins_writeAtRise (r : RegRef) (v : Word) (h : z.Thins s) : z.Thins (s.writeAtRise r v) := by
  cases r with
  | paceCtrl => exact h.paceMoves (s.setPolicy_moves _ _)
  | _ =>
    simp only [State.writeAtRise]
    grind [← State.thins_modPort, ← State.thins_modPower, ← State.thins_modUpkeep, ← State.thins_modGal, ← State.thins_modBank,
      ← State.thins_modSub, ← State.thins_modAnx, ← State.thins_risePriv, ← State.thins_riseTokens, ← State.thins_risePump,
      ← State.thins_riseChain, ← State.thins_riseSample, ← State.thins_riseMarkLock, ← State.thins_riseMapmode]

theorem State.thins_countedOut (cuts : List Cut) (n : PortId) (h : z.Thins s) : z.Thins (s.countedOut cuts n) := by
  unfold State.countedOut
  exact State.thins_countTransaction _ _ (State.thins_cutUpload _ (State.thins_dropDriving _ (State.thins_endFetchOf _ h)))

theorem State.thins_csUpHanded (rises late : BitVec 8) (h : z.Thins s) : z.Thins (s.csUpHanded rises late) := by
  rw [s.csUpHanded_eq]
  exact h.same rfl rfl rfl

theorem State.thins_csDownPaced (falls sck : BitVec 8) (h : z.Thins s) : z.Thins (s.csDownPaced falls sck) := by
  refine State.Thins.paceMoves ?_ (s.csDownPaced_moves falls sck)
  rw [s.csDown_eq]
  exact h.same rfl rfl rfl

theorem State.thins_edgeStart (e p : Nat) (q : Bool) (h : z.Thins s) : z.Thins (s.edgeStart e p q) := by
  unfold State.edgeStart
  exact State.thins_latchWaits (State.thins_checkReservation (State.thins_notePeak (State.thins_portTokensMove
    (State.thins_countTicks _ (State.thins_countBrown (State.thins_recordGuard (State.thins_modPace _
      (State.thins_closeEdge _ h))))))))

theorem State.thins_edgePulses (e f : Nat) (go : Bool) (inp : EdgeIn) (h : z.Thins s) : z.Thins (s.edgePulses e f go inp) := by
  have h1 : z.Thins { s with banks := s.banks.map (fun k => k.advance e s.pace.crossed go) } := h.same rfl rfl rfl
  have h3 : ∀ t : State, z.Thins t → z.Thins ((forEach allBanks State.bankGoesOn t.readsGoOn.stagingEnds).runPumps) := fun t ht =>
    State.thins_runPumps (State.thins_forEach State.bankGoesOn (fun u b hu => State.thins_bankGoesOn b hu) allBanks
      (State.thins_stagingEnds (State.thins_readsGoOn ht)))
  unfold State.edgePulses
  grind [← State.thins_modPower, ← State.thins_adaptPumps, ← State.thins_startPulses]

theorem State.thins_edge (p : PortId) (inp : EdgeIn) (h : z.Thins s) : z.Thins (s.edge p inp) := by
  unfold State.edge
  exact State.thins_modBoot _ (State.thins_annexEdge _ (State.thins_forEach State.heldMeets
    (fun t q ht => State.thins_heldMeets q ht) allPorts
    (State.thins_edgePulses _ _ _ _ (State.thins_sampleWp (State.thins_edgeStart _ _ _ h)))))

end

/-! ### Rows of work -/

theorem State.thins_paceEdge {s t : State} (p : PortId) (inp : EdgeIn) (h : execPaceEdge p inp s = .next t) : s.Thins t := by
  have hc := State.thins_clock p inp.dq0 (.refl s)
  have he : ∀ u v : State, s.Thins u → u.paceEdgeOf p inp = .next v → s.Thins v := fun u v hu hv => by
    unfold State.paceEdgeOf at hv
    split at hv
    · exact Host.Outcome.next.inj hv ▸ State.thins_edge p inp hu
    · cases hv
  unfold execPaceEdge at h
  split at h
  · exact Host.Outcome.next.inj h ▸ .refl s
  · unfold State.paceSide at h
    split at h
    · split at h
      · exact Host.Outcome.next.inj h ▸ State.thins_modPace _ hc
      · exact he _ t (State.thins_modPace _ hc) h
    · split at h
      · split at h
        · exact Host.Outcome.next.inj h ▸ State.thins_modPace _ hc
        · exact he _ t hc h
      · exact Host.Outcome.next.inj h ▸ hc


section
variable {s t u z : State}

theorem State.thins_of_onEdge (h : s.Thins t) (hu : s.onEdge t = .next u) : s.Thins u := by
  obtain rfl | rfl := State.eq_of_onEdge hu
  · exact h
  · exact .refl _

theorem State.thins_of_onStep {k : Nat} (h : s.Thins t) (hu : s.onStep k t = .next u) : s.Thins u := by
  obtain rfl | rfl := State.eq_of_onStep hu
  · exact h.same rfl rfl rfl
  · exact .refl _

theorem State.thins_of_next (h : s.Thins t) (hu : (.next t : Outcome) = .next u) : s.Thins u :=
  Host.Outcome.next.inj hu ▸ h

theorem State.ledgerOk_of_onStep {k : Nat} (hs : s.ledgerOk = true) (h : t.ledgerOk = true) (hu : s.onStep k t = .next u) :
    u.ledgerOk = true := by
  obtain rfl | rfl := State.eq_of_onStep hu
  · exact h
  · exact hs

/-! ### Resets -/

theorem State.deviceReset_ledger (s : State) (kind : ResetKind) : (s.deviceReset kind).ledger = Ledger.reset := by
  simp only [State.deviceReset]
  rfl

theorem State.ledgerOk_deviceReset (s : State) (kind : ResetKind) : (s.deviceReset kind).ledgerOk = true := by
  rw [State.ledgerOk, s.deviceReset_ledger kind]
  rfl

/-! ### The end of a transaction -/

theorem State.ledgerOk_riseAct (n : PortId) (a : RiseAct) (hs : s.ledgerOk = true) : (s.riseAct n a).ledgerOk = true := by
  cases a with
  | softReset => exact s.ledgerOk_deviceReset _
  | regAct r v => exact State.ledgerOk_of_thins (State.thins_writeAtRise _ v (.refl s)) hs
  | arm | trialEnter | trialEnd | confirm | revert => exact hs

theorem State.ledgerOk_foldl {α : Type} (f : State → α → State) (h : ∀ (t : State) (a : α), t.ledgerOk = true → (f t a).ledgerOk = true)
    (l : List α) (hs : s.ledgerOk = true) : (l.foldl f s).ledgerOk = true := by
  induction l generalizing s with
  | nil => exact hs
  | cons a l ih => exact ih (h s a hs)

theorem State.ledgerOk_riseActs (n : PortId) (hs : s.ledgerOk = true) : (s.riseActs n).ledgerOk = true :=
  State.ledgerOk_foldl (s := s.modPort n (fun p => { p with atRise := [] })) _
    (fun _ a ht => State.ledgerOk_riseAct n a ht) _ hs

theorem State.ledgerOk_endTransaction (cuts : List Cut) (n : PortId) (hs : s.ledgerOk = true) :
    (State.endTransaction cuts s n).ledgerOk = true := by
  rw [State.endTransaction_eq]
  have hc := State.ledgerOk_of_thins (State.thins_countedOut cuts n (.refl s)) hs
  have h2 := State.ledgerOk_riseActs n (State.ledgerOk_riseActs n hc)
  exact State.ledgerOk_of_thins (State.thins_modPort n Port.rest (.refl _)) h2

end

/-! ### Every command -/

/-- Commands that can add operations, or start them afresh. -/
def addsOps : Instr → Bool
  | .powerOnReset _ => true
  | .resetPin _ => true
  | .csRise _ _ => true
  | .ledgerFetch _ _ => true
  | .ledgerLay _ _ _ _ => true
  | .ledgerClear _ _ => true
  | .ledgerClearFoot _ _ => true
  | .haul _ _ _ _ => true
  | .kiln _ _ => true
  | .repoint _ _ => true
  | .signal _ _ => true
  | .fence _ _ => true
  | .cancel _ _ => true
  | .ledgerSuspend _ _ => true
  | .ledgerResume _ _ => true
  | .levelRaise _ _ => true
  | .regress _ _ => true
  | .lay _ _ _ _ _ => true
  | .clearBlock _ _ _ => true
  | .clearFooting _ _ _ => true
  | .relocation _ => true
  | .tidyKiln => true
  | .kilnDuty => true
  | .slideDuty => true
  | .scrubDuty => true
  | .boot _ => true
  | _ => false

theorem exec_thins (c : Instr) (s t : State) (hc : addsOps c = false) (h : exec c s = .next t) : s.Thins t := by
  cases c with
  | powerOnReset | resetPin | csRise | ledgerFetch | ledgerLay | ledgerClear | ledgerClearFoot | haul | kiln | repoint | signal
  | fence | cancel | ledgerSuspend | ledgerResume | levelRaise | regress | lay | clearBlock | clearFooting | relocation | tidyKiln
  | kilnDuty | slideDuty | scrubDuty | boot => cases hc
  | csFall falls sck =>
    rw [← Host.Outcome.next.inj h]
    exact State.thins_csDownPaced falls sck (.refl s)
  | paceEdge p inp => exact State.thins_paceEdge p inp h
  | wpHigh | wpLow | supplyGroupLoss | supplyGroupReturn =>
    rw [← Host.Outcome.next.inj h]
    exact (State.Thins.refl s).same rfl rfl rfl
  | stallGuardTrip | brownOutTrip =>
    rw [← Host.Outcome.next.inj h]
    split
    · exact .refl s
    · exact State.Thins.same (State.thins_closeAllGates (.refl s)) rfl rfl rfl
  | bootEnd =>
    refine State.thins_of_onEdge ?_ h
    have hb : s.Thins (({ s with ports := s.ports.map (fun p => { p with chainEn := p.booten }) } : State).modBoot
        (fun b => { b with step := 0 })) := (State.Thins.refl s).same rfl rfl rfl
    grind [← State.thins_startRegression, ← State.Thins.refl]
  | chainNop p | chainRegwr p | chainExit p => exact State.thins_of_next (State.thins_chainSegment p _ _ _ (.refl s)) h
  | regwr tx count entries => exact State.thins_of_next (State.thins_regWrite tx count entries (.refl s)) h
  | collect tx mode | peek tx mode => exact State.thins_of_next (State.thins_collect tx _ mode (.refl s)) h
  | declarePeriod tx | pacePolicy tx | waits tx | len tx | chainModeEnable tx | booten tx | subscriberMask tx | quota tx
  | forget tx | eventSet tx | eventClr tx | ledgerSel tx | empty tx | mapmode tx | plumbWrite tx | tampWrite tx | kilnAt tx
  | fixmax tx | meterBurstWrite tx | fill tx | clearmax tx | tokenwait tx | pumpWrite tx | peakclr tx | minclr tx
  | gateEnable tx | gateDisable tx | save tx | privWrite tx | lock tx | hide tx | div tx | partnerEnable tx | gpioWrite tx
  | manualOn tx | manualOff tx | annexEnable tx | annexDisable tx | reclaim tx | fencedClear tx =>
    exact State.thins_of_next (State.thins_regWrite1 tx _ _ (.refl s)) h
  | suspend tx addr =>
    exact State.thins_of_next (State.thins_directSusp tx _ addr _ (fun t b ht => State.thins_requestSuspend b true ht) (.refl s)) h
  | resume tx addr =>
    exact State.thins_of_next (State.thins_directSusp tx _ addr _ (fun t b ht => State.thins_requestResume b ht) (.refl s)) h
  | fetch tx | rawFetch tx | arm tx | status tx | ident tx | sfdp tx | regrd tx | propose tx | sweep tx | confirm tx
  | revert tx =>
    refine State.thins_of_next (State.thins_run2 tx _ _ _ (fun t ht => ?_) (.refl s)) h
    grind [← State.thins_fetchCommand, ← State.thins_startFetch, ← State.thins_answer, ← State.thins_replyWith,
      ← State.thins_queueRise, ← State.thins_propose, ← State.thins_sweep, ← State.thins_modPort, ← State.thins_badFrame,
      ← State.thins_abandonTrain, ← State.thins_abandon, ← State.thins_modGlob]
  | pace tx =>
    have hb := State.thins_begin tx 0x70 false (.refl s)
    refine State.thins_of_next ?_ h
    split
    · next heq => exact State.thins_modPort _ _ (State.thins_replyWith _ _ _ _ (hb.fst heq))
    · next heq => exact hb.fst heq
  | softReset tx second =>
    have hb := State.thins_begin tx 0xF0 false (.refl s)
    refine State.thins_of_next ?_ h
    split
    · next heq => exact hb.fst heq
    · next heq =>
      have h1 := hb.fst heq
      grind [← State.thins_badOpcode, ← State.thins_queueRise, ← State.thins_hush, ← State.thins_modBoot]
  | unknownOpcode tx op =>
    have hb := State.thins_begin tx op false (.refl s)
    refine State.thins_of_next ?_ h
    split
    · exact .refl s
    · exact hb
  | sample => 
    refine State.thins_of_onStep ?_ h
    dsimp only
    split
    · exact .refl s
    · exact (State.Thins.refl s).same rfl rfl rfl
  | modf a p =>
    refine State.thins_of_onStep ?_ h
    split
    · exact State.thins_forEach _ (fun t o ht => State.thins_yieldOp a o ht) _ (State.thins_cause _ (State.thins_modAnx _ _ (.refl s)))
    · exact .refl s
  | brownOutRelease | pulseEnd | pumpReady | regressBegin | regressionClear | journalWriteDone | plinthCopyDone | suspendedEntry
  | deferredGrant | autoResume | standstill | lapse | journalRepair | manualon =>
    have hr := State.Thins.refl s
    refine State.thins_of_onEdge ?_ h
    grind [← State.thins_modPower, ← State.thins_modGal, ← State.thins_modBank, ← State.thins_modOp, ← State.thins_modLife,
      ← State.thins_modLedger, ← State.thins_modPlinth, ← State.thins_modBoot, ← State.thins_modAnx, ← State.thins_runPumps,
      ← State.thins_countBrown, ← State.thins_complete, ← State.thins_startJournal, ← State.thins_regressionCheck,
      ← State.thins_unitCleared, ← State.thins_startRegressionClear, ← State.thins_recordActs, ← State.thins_tryRaise,
      ← State.thins_finishRegression, ← State.thins_resumeNow, ← State.thins_grantSuspend, ← State.thins_addTrace,
      ← State.thins_traceOp, ← State.thins_cause, ← State.thins_freeYard, ← State.thins_dropOp, ← State.thins_bootRest,
      ← State.thins_startRepair]
  | heldFetchServed | holdExpired =>
    have hr := State.Thins.refl s
    refine State.thins_of_onEdge ?_ h
    grind [← State.thins_fetchGoesOn, ← State.thins_fetchStarts, ← State.thins_noteMeet, ← State.thins_endStopped,
      ← State.thins_fetchRefused, ← State.thins_endData, ← State.thins_modPort]
  | signalComplete | fenceComplete | reservation | blockUnsettled | repointReadEnd | dispatch | floor | fetchComplete
  | rdsEdgeMissing =>
    have hr := State.Thins.refl s
    refine State.thins_of_onStep ?_ h
    grind [← State.thins_completeWith, ← State.thins_complete, ← State.thins_modPower, ← State.thins_modOp, ← State.thins_afterRead,
      ← State.thins_wakeGal, ← State.thins_fetchRequests, ← State.thins_dispatchProbed, ← State.thins_resumeHeld,
      ← State.thins_dispatchPick, ← State.thins_fetchOver, ← State.thins_fetchWindow, ← State.thins_windowReads,
      ← State.thins_takesTurn]
  | layEnd | clearUnitEnd | firingStageEnd | poll | partnerTimeout =>
    have hr := State.Thins.refl s
    refine State.thins_of_onStep ?_ h
    grind [← State.thins_endLay, ← State.thins_endUnit, ← State.thins_tracePulses, ← State.thins_modBank, ← State.thins_blankUnit,
      ← State.thins_countFiring, ← State.thins_endFiring, ← State.thins_openUnit, ← State.thins_countClearFail,
      ← State.thins_modPartner, ← State.thins_modAnx, ← State.thins_send, ← State.thins_loseOp, ← State.thins_eraseConfirmed,
      ← State.thins_pageConfirmed, ← State.thins_partnerEnds]

/-! Commands that add operations. -/

section
variable {s : State} (hs : s.ledgerOk = true)
include hs

theorem State.ledgerOk_run2 (tx : Tx) (op : Byte) (inTrial : Bool) (body : State → State)
    (hb : ∀ t : State, t.ledgerOk = true → (body t).ledgerOk = true) : (s.run2 tx op inTrial body).ledgerOk = true := by
  have h := State.thins_begin tx op inTrial (.refl s)
  unfold State.run2
  split
  · next heq => exact State.ledgerOk_of_thins (h.fst heq) hs
  · next heq =>
    have h1 := State.ledgerOk_of_thins (h.fst heq) hs
    split
    · exact hb _ h1
    · exact State.ledgerOk_of_thins (State.thins_tooLate _ (.refl _)) h1

theorem State.ledgerOk_hush (p : PortId) : (s.hush p).ledgerOk = true := hs

theorem State.ledgerOk_answer (p : PortId) (c : Cond) (data : List Byte) : (s.answer p c data).ledgerOk = true := hs

theorem State.ledgerOk_directBad (p : PortId) : (s.directBad p).ledgerOk = true := hs

theorem State.ledgerOk_layCrcBad (p : PortId) : (s.layCrcBad p).ledgerOk = true :=
  State.ledgerOk_of_thins (State.thins_layCrcBad p (.refl s)) hs

theorem State.ledgerOk_modBank (b : BankId) (f : Bank → Bank) : (s.modBank b f).ledgerOk = true := hs

theorem State.ledgerOk_modUpkeep (f : Upkeep → Upkeep) : (s.modUpkeep f).ledgerOk = true := hs

theorem State.ledgerOk_boot (inp : BootIn) (t : State) (h : execBoot inp s = .next t) : t.ledgerOk = true := by
  have hb : (s.bootSense inp).ledgerOk = true := hs
  unfold execBoot at h
  split at h
  · exact Host.Outcome.next.inj h ▸ hs
  · split at h
    · exact Host.Outcome.next.inj h ▸
        State.ledgerOk_of_thins (State.thins_afterJournal (State.thins_bootJournal (.refl _))) hb
    · cases h

theorem exec_ledgerOk (c : Instr) (t : State) (h : exec c s = .next t) : t.ledgerOk = true := by
  cases hc : addsOps c with
  | false => exact State.ledgerOk_of_thins (exec_thins c s t hc h) hs
  | true =>
    cases c with
    | powerOnReset b =>
      rw [← Host.Outcome.next.inj h]
      exact State.ledgerOk_deviceReset _ _
    | resetPin ns =>
      obtain rfl | rfl | rfl | rfl := execResetPin_cases ns s t h
      · exact s.ledgerOk_deviceReset _
      · exact hs
      · exact s.useFree.ledgerOk_deviceReset _
      · exact hs
    | csRise rises rise =>
      rw [← Host.Outcome.next.inj h]
      exact State.ledgerOk_foldl _ (fun _ n ht => State.ledgerOk_endTransaction rise.cuts n ht) _
        (State.ledgerOk_of_thins (State.thins_csUpHanded rises rise.late (.refl s)) hs)
    | ledgerFetch tx pk | ledgerLay tx pk | ledgerClear tx pk | ledgerClearFoot tx pk | haul tx pk | kiln tx pk | repoint tx pk
    | signal tx pk | fence tx pk | cancel tx pk | ledgerSuspend tx pk | ledgerResume tx pk | levelRaise tx pk
    | regress tx pk =>
      rw [← Host.Outcome.next.inj h]
      exact State.ledgerOk_ledgerCommand hs tx _ pk _
    | lay tx | clearBlock tx | clearFooting tx =>
      rw [← Host.Outcome.next.inj h]
      refine State.ledgerOk_run2 hs tx _ _ _ (fun u hu => ?_)
      grind [← State.ledgerOk_hush, ← State.ledgerOk_answer, ← State.ledgerOk_directBad, ← State.ledgerOk_layCrcBad,
        ← State.ledgerOk_directAsk]
    | tidyKiln | kilnDuty | slideDuty | scrubDuty | relocation =>
      have hpass := State.ledgerOk_of_thins (State.thins_passOver (.refl s)) hs
      have hover := State.ledgerOk_of_thins (State.thins_noteOverdue (.refl s)) hs
      have hpass2 := State.ledgerOk_of_thins (State.thins_passOver (.refl s.noteOverdue)) hover
      refine State.ledgerOk_of_onStep hs ?_ h
      grind [← State.ledgerOk_dutySubmit, ← State.ledgerOk_houseSubmit, ← State.ledgerOk_modBank, ← State.ledgerOk_modUpkeep]
    | boot inp => exact State.ledgerOk_boot hs inp t h
    | _ => cases hc

end

/-- Settles O9: no command but a commit adds an operation, and that one's name is the next and its place was free. -/
theorem ledgerStaysWellFormed : Obligations.LedgerStaysWellFormed := fun _ _ hs h =>
  step_keeps (P := fun s => s.ledgerOk = true) (fun _ _ hl => hl) (fun c _ t he hl => exec_ledgerOk hl c t he) h hs

end Sys2Proof.Machine
end

section
/-! PROOFS. What resets, trips and the pins do (02, 14, 15). -/
namespace Sys2Proof.Machine

/-! ### Resets (Table 15.2) -/

/-- What a reset leaves of the plinth: its records, and no write under way (R555, R560). -/
structure Plinth.CutOff (p q : Plinth) : Prop where
  config : q.config = p.config
  images : q.images = p.images
  banks  : q.banks = p.banks
  wear   : q.wear = p.wear
  queue  : q.queue = []
  begun  : q.begun = false
  jwrite : q.jwrite = none
  copies : p.jwrite = none → q.jA = p.jA ∧ q.jB = p.jB

theorem State.cutPlinth_cutOff (s : State) : s.plinth.CutOff s.cutPlinth.plinth := by
  unfold State.cutPlinth State.cutJournal
  split
  · next h => exact ⟨rfl, rfl, rfl, rfl, rfl, rfl, h, fun _ => ⟨rfl, rfl⟩⟩
  · next j h =>
    dsimp only
    cases j.copy with
    | false => exact ⟨rfl, rfl, rfl, rfl, rfl, rfl, rfl, fun hn => by simp [h] at hn⟩
    | true => exact ⟨rfl, rfl, rfl, rfl, rfl, rfl, rfl, fun hn => by simp [h] at hn⟩

theorem State.cutPlinth_eq (s : State) :
    s.cutPlinth = { s with plinth := s.cutPlinth.plinth, freeCtr := s.cutPlinth.freeCtr } := by
  unfold State.cutPlinth State.cutJournal
  split <;> rfl

theorem State.cutAll_eq (s : State) : s.cutAll =
    { s with mem := s.cutAll.mem, touched := s.cutAll.touched, plinth := s.cutAll.plinth, freeCtr := s.cutAll.freeCtr } := by
  have hb := s.cutBanks_onlyCells.eq
  unfold State.cutAll
  generalize forEach allBanks State.cutBank s = c at hb
  have hp := c.cutPlinth_eq
  generalize c.cutPlinth = d at hp
  rw [hp, hb]

theorem State.cutAll_plinth (s : State) : s.plinth.CutOff s.cutAll.plinth := by
  have hb := s.cutBanks_onlyCells.eq
  unfold State.cutAll
  generalize forEach allBanks State.cutBank s = c at hb
  have hp := c.cutPlinth_cutOff
  rwa [hb] at hp ⊢

/-- The registers of boot as a reset leaves them. -/
def ResetKind.boot (kind : ResetKind) (b : Boot) : Boot :=
  if kind = .powerOn then Boot.reset else { Boot.reset with boots := b.boots + 1, softx := b.softx, cause := kind.cause }

/-- Table 15.2: what a device-wide reset leaves. -/
theorem State.resetInto_deviceReset (s : State) (kind : ResetKind) :
    s.resetInto (s.deviceReset kind) (kind.boot s.boot) s.power.detector := by
  have heq := s.cutAll_eq
  obtain ⟨hconfig, himages, hbanks, hwear, hqueue, hbegun, hjwrite, hcopies⟩ := s.cutAll_plinth
  unfold State.deviceReset
  unfold State.cutAll at *
  generalize (forEach allBanks State.cutBank s).cutPlinth = c at *
  refine ⟨rfl, rfl, rfl, rfl, rfl, rfl, rfl, rfl, rfl, ?_, ?_, fun p => ?_, fun a => ?_, hconfig, himages, hbanks, hwear, hqueue,
    hbegun, hjwrite, hcopies, ?_, ?_⟩
  · rw [heq]
    rfl
  · rw [heq]
  · rw [heq]
    simp only [State.port, Vector.getElem_ofFn]
    rfl
  · rw [heq]
    simp [State.anx, Annex.afterReset]
  · rw [heq]
  · rw [heq]

theorem State.deviceReset_pace (s : State) (kind : ResetKind) (h : kind ≠ .soft) : (s.deviceReset kind).pace = Pace.reset := by
  unfold State.deviceReset
  dsimp only
  rw [if_neg h]

/-- Settles O11: RESET# pulses of each length, and power-on, by what a device-wide reset leaves. -/
theorem resetsRebuildTheBlock : Obligations.ResetsRebuildTheBlock := by
  refine ⟨fun ns s h => ⟨s.deviceReset .pin, ?_, s.resetInto_deviceReset .pin, s.deviceReset_pace .pin (by decide)⟩, fun ns s h => ?_,
    fun ns s h1 h2 => ?_, fun tripped s => ⟨State.deviceReset (s.modPower (fun w => { w with detector := tripped })) .powerOn, rfl, ?_⟩⟩
  · show execResetPin ns s = _
    rw [execResetPin, if_pos h]
  · show execResetPin ns s = _
    rw [execResetPin, if_neg (by omega), if_pos h]
  · show execResetPin ns s = _ ∨ execResetPin ns s = execResetPin 1000 s.useFree
    have hlong : execResetPin 1000 s.useFree = .next (s.useFree.deviceReset .pin) := if_pos (Nat.le_refl _)
    rw [hlong, execResetPin, if_neg (by omega), if_neg (by omega)]
    split
    · exact .inr rfl
    · exact .inl rfl
  · have hinto := (s.modPower (fun w => { w with detector := tripped })).resetInto_deviceReset .powerOn
    have hpace := (s.modPower (fun w => { w with detector := tripped })).deviceReset_pace .powerOn (by decide)
    generalize State.deviceReset (s.modPower (fun w => { w with detector := tripped })) .powerOn = t at hinto hpace
    exact ⟨hinto, hpace⟩

/-! ### Trips (R57 to R59, R543 to R547) -/

theorem mem_allBanks (b : BankId) : b ∈ allBanks := List.mem_finRange b

theorem State.mem_openBanks (s : State) (b : BankId) : b ∈ s.openBanks ↔ (s.bank b).gateOpen = true := by
  simp [State.openBanks, mem_allBanks]

theorem ClearRun.dropPulse_pulse (c : ClearRun) : c.dropPulse.pulse = none := by
  unfold ClearRun.dropPulse
  split
  · next h => exact h
  · rfl

theorem Bank.closeGates_gateOpen (k : Bank) : k.closeGates.gateOpen = false := by
  unfold Bank.gateOpen Bank.closeGates
  cases k.lay <;> cases k.clear <;> simp [ClearRun.dropPulse_pulse]

theorem State.closeAllGates_bank (s : State) (b : BankId) : (s.closeAllGates.bank b) = (s.bank b).closeGates := by
  simp [State.closeAllGates, State.bank]

/-- The galleries of some banks as a bit field. -/
def galBits (l : List BankId) : BitVec 4 := l.foldl (fun (m : BitVec 4) b => m ||| (1 <<< (galOf b).val)) 0

theorem foldl_galBits (l : List BankId) (m : BitVec 4) (b : BankId) (h : b ∈ l ∨ m.getLsbD (galOf b).val = true) :
    (l.foldl (fun (m : BitVec 4) b => m ||| (1 <<< (galOf b).val)) m).getLsbD (galOf b).val = true := by
  induction l generalizing m with
  | nil => simpa using h
  | cons a l ih =>
    have hself : (((1 <<< (galOf b).val : Nat) : BitVec 4)).getLsbD (galOf b).val = true := by
      generalize galOf b = g
      revert g
      decide
    refine ih _ ?_
    rcases h with h | h
    · rcases List.mem_cons.1 h with rfl | h
      · exact .inr (by rw [BitVec.getLsbD_or, hself, Bool.or_true])
      · exact .inl h
    · exact .inr (by rw [BitVec.getLsbD_or, h, Bool.true_or])

theorem galBits_getLsbD {l : List BankId} {b : BankId} (h : b ∈ l) : (galBits l).getLsbD (galOf b).val = true :=
  foldl_galBits l 0 b (.inl h)

theorem galBits_ne_zero {l : List BankId} (h : l ≠ []) : galBits l ≠ 0 := by
  obtain ⟨b, l, rfl⟩ := List.exists_cons_of_ne_nil h
  intro h0
  have hb := galBits_getLsbD (List.mem_cons_self (a := b) (l := l))
  rw [h0] at hb
  simp at hb

theorem execStallGuardTrip_of_open {s : State} (h : s.openBanks ≠ []) : execStallGuardTrip s = .next { s.closeAllGates with
    pace := { s.pace with guardGals := s.pace.guardGals ||| galBits s.openBanks },
    ports := s.ports.map (fun p => { p with guarded := true }) } := by
  have hne := galBits_ne_zero h
  show Host.Outcome.next (if galBits s.openBanks = 0 then s else _) = _
  rw [if_neg hne]
  rfl

/-- The state that a brown-out trip leaves. -/
def State.browned (s : State) : State := { s.closeAllGates with
  power := { s.power with
    detector := true, brown := true,
    brownCut := s.power.brownCut ++ (s.openBanks.map (·.val) ++ (if s.plinth.begun || s.plinth.jwrite.isSome then [65] else [])) },
  gals := s.gals.map (fun g => { g with lpump := g.lpump.run false, cpump := g.cpump.run false }) }

theorem execBrownOutTrip_of_released {s : State} (h : s.power.detector = false) : execBrownOutTrip s = .next s.browned := by
  unfold execBrownOutTrip State.browned
  rw [h]
  rfl

theorem Pump.run_false (p : Pump) : p.run false = { p with running := false, ready := false } := by
  simp [Pump.run]

theorem State.traces_eq {α : Type} (act : Byte) (k : State → α → Option (Fin 256)) (n : α → Nat) (v : α → BitVec 16) (l : List α)
    (s : State) : ∃ x : Trace, l.foldl (fun t a => t.addTrace act (k t a) (n a) (v a)) s = { s with trace := x } := by
  induction l generalizing s with
  | nil => exact ⟨s.trace, rfl⟩
  | cons a l ih =>
    obtain ⟨x, hx⟩ := ih (s.addTrace act (k s a) (n a) (v a))
    exact ⟨x, hx⟩

/-- The count of a trip touches the trace, the power registers and INT_STAT alone (R547). -/
theorem State.countBrown_eq (s : State) : ∃ (x : Trace) (g : Glob),
    s.countBrown = { s with trace := x, glob := g, power := s.countBrown.power }
    ∧ s.countBrown.power = (if s.power.brownCut = [] then s.power
      else { s.power with brownouts := s.power.brownouts + 1, brownseen := true, brownCut := [] }) := by
  unfold State.countBrown
  split
  · next h => exact ⟨s.trace, s.glob, rfl, by rw [if_pos (List.isEmpty_iff.1 h)]⟩
  · next h =>
    obtain ⟨x, hx⟩ := State.traces_eq tAbort (fun t n => if h : n < 65 then (t.pulseOp ⟨n, h⟩).bind Op.slot else none) (fun n => n)
      (fun n => BitVec.ofNat 16 n) s.power.brownCut s
    unfold forEach
    dsimp only
    rw [hx]
    exact ⟨x, _, rfl, by rw [if_neg (by simpa using h)]; rfl⟩

/-- Settles O13: each trip closes the gates of every bank; the count of a brown-out leaves all but trace, power and INT_STAT. -/
theorem tripsCloseGates : Obligations.TripsCloseGates := by
  refine ⟨fun s h => ?_, fun s h => ⟨_, execStallGuardTrip_of_open h, rfl, fun b => ?_, fun p => ?_, fun b hb => ?_⟩, fun s h => ?_,
    fun s h => ⟨s.browned, execBrownOutTrip_of_released h, rfl, fun b => ?_, fun g => ?_, fun b hb => ?_⟩, fun s hh hd => ?_⟩
  · show execStallGuardTrip s = _
    rw [execStallGuardTrip, h]
    rfl
  · exact (congrArg Bank.gateOpen (s.closeAllGates_bank b)).trans (Bank.closeGates_gateOpen _)
  · simp [State.port]
  · have hg := galBits_getLsbD ((s.mem_openBanks b).2 hb)
    simp [hg]
  · show execBrownOutTrip s = _
    rw [execBrownOutTrip, if_pos h]
  · exact (congrArg Bank.gateOpen (s.closeAllGates_bank b)).trans (Bank.closeGates_gateOpen _)
  · simp [State.browned, State.gal, Pump.run_false]
  · have hm := (s.mem_openBanks b).2 hb
    simp only [State.browned, List.mem_append, List.mem_map]
    exact .inr (.inl ⟨b, hm, rfl⟩)
  · obtain ⟨x, g, heq, hpower⟩ := s.countBrown_eq
    refine ⟨((s.countBrown).modPower (fun w => { w with detector := false, brown := false })).runPumps, ?_, rfl, rfl, ?_, ?_,
      fun g => ?_, ?_, ?_, ?_, ?_, ?_⟩
    · show execBrownOutRelease s = _
      simp [execBrownOutRelease, State.onEdge, hh, hd]
    · show s.countBrown.power.brownCut = []
      rw [hpower]
      split
      · assumption
      · rfl
    · show s.countBrown.power.brownouts = _
      rw [hpower]
      split
      · rfl
      · rfl
    · rw [heq]
      simp [State.runPumps, State.gal, Pump.run]
      exact ⟨rfl, rfl⟩
    all_goals rw [heq]; rfl

/-! ### Pins and supplies -/

/-- A group's bit cleared in the register of supplies. -/
theorem getLsbD_clearBit (x : BitVec 5) (g k : Fin 5) :
    (x &&& ~~~ ((1 : BitVec 5) <<< g.val)).getLsbD k.val = (x.getLsbD k.val && decide (k ≠ g)) := by
  revert x g k
  decide

theorem getLsbD_setBit (x : BitVec 5) (g k : Fin 5) :
    (x ||| (1 <<< g.val)).getLsbD k.val = (x.getLsbD k.val || decide (k = g)) := by
  revert x g k
  decide

theorem State.pins_eq {s t : State} (h : t.kept.still.pins = s.wpSampled.kept.still.pins) (hc : t.pins.chipid = s.pins.chipid) :
    t.pins = { s.pins with wp := s.pins.wpPin } := by
  obtain ⟨hwp, hpin, hsupply, huid, hgrade, hyear, hweek, -⟩ := Pins.mk.inj h
  cases hp : t.pins
  simp_all [State.wpSampled]

/-- Settles O14: WP# is among the pins that a pace edge's `Kept` shows sampled; the other rows change one field each. -/
theorem pinsMove : Obligations.PinsMove := by
  refine ⟨fun s => ⟨rfl, rfl⟩, fun s p inp hlow hh hs hmv => ⟨(s.pacing p inp).edge p inp, ?_, ?_⟩, fun s g => ⟨_, rfl, rfl, ?_, ?_⟩,
    fun s g => ⟨_, rfl, rfl, fun k => getLsbD_setBit _ g k⟩⟩
  · show execPaceEdge p inp s = _
    rw [execPaceEdge_pacing inp hlow hh hs, State.paceEdgeOf, vccInRange, decide_eq_true hmv, if_pos rfl]
  · have hk := congrArg Still.pins (congrArg Kept.still (s.pacing_edge_kept p inp))
    have hc := (State.thins_edge p inp (State.thins_modPace (fun x => { x with oldPacer := none, oldSync := 0 })
      (State.thins_clock p inp.dq0 (.refl s)))).chip
    unfold State.pacing at *
    generalize State.edge _ p inp = t at hk hc ⊢
    exact State.pins_eq hk hc
  · exact fun k => getLsbD_clearBit _ g k
  · intro p
    simp [State.port]

end Sys2Proof.Machine
end

section
/-! PROOFS. CS# falls and rises under the baton policy (R29, R31, R35, R38, R73, R75, R148, R149, R158, R160). -/
namespace Sys2Proof.Machine

/-- The lowest-numbered port of a kind comes first. -/
theorem first_allPorts {f : PortId → Bool} {p : PortId} (hp : f p = true) (hlow : ∀ q, q < p → f q = false) :
    (allPorts.filter f).head? = some p := by
  rw [List.head?_filter, List.find?_eq_some_iff_getElem]
  refine ⟨hp, p.val, by simp [allPorts], by simp [allPorts], fun j hj => ?_⟩
  have := hlow ⟨j, by omega⟩ hj
  simpa [allPorts] using this

theorem State.mem_falling (s : State) (falls : BitVec 8) (p : PortId) :
    p ∈ s.falling falls ↔ (falls.getLsbD p.val && !(s.port p).csLow) = true := mem_filter_allPorts _ p

theorem State.nominated_of_baton {s : State} (h : s.pace.policy = false) : s.nominated = none := by
  simp [State.nominated, h]

section
variable {s : State} (falls sck : BitVec 8)

theorem State.csDown_pace : (s.csDown falls sck).pace = s.pace := by rw [s.csDown_eq]

/-- Under the baton policy a fall leaves a holder in place, and with none the lowest port takes pace. -/
theorem State.csDownPaced_of_baton (h : s.pace.policy = false) : s.csDownPaced falls sck =
    match s.pace.holder, (s.csDown falls sck).lowPorts.head? with
    | some _, _ => s.csDown falls sck
    | none, some p => (s.csDown falls sck).takePace p
    | none, none => s.csDown falls sck := by
  have hn : (s.csDown falls sck).nominated = none := State.nominated_of_baton (by rw [State.csDown_pace, h])
  unfold State.csDownPaced State.baton
  rw [State.csDown_pace, hn]
  cases s.pace.holder with
  | some h => rfl
  | none => cases (s.csDown falls sck).lowPorts.head? <;> rfl

theorem State.csDown_low (q : PortId) : ((s.csDown falls sck).port q).low =
    if (falls.getLsbD q.val && !(s.port q).csLow) then !(s.port q).waitRise else (s.port q).low := by
  rw [s.csDown_port]
  simp only [State.mem_falling]
  split
  · rfl
  · rfl

end

/-- Settles O15: the ports are those of `csDown`; pace stays with its holder, or goes to the first low port. -/
theorem fallTakesPace : Obligations.FallTakesPace := by
  intro s falls sck hpol
  have heq : s.csDown falls sck = { s with ports := (s.csDown falls sck).ports, pace := (s.csDown falls sck).pace } := by
    rw [State.csDown_pace]
    exact s.csDown_eq falls sck
  have hpace := State.csDownPaced_of_baton falls sck hpol
  have hports : (s.csDownPaced falls sck).ports = (s.csDown falls sck).ports := by
    rw [(s.csDownPaced_moves falls sck).eq]
  have hport : ∀ p : PortId, (s.csDownPaced falls sck).port p = (s.csDown falls sck).port p := fun p => by
    rw [State.port, hports]
    rfl
  refine ⟨_, execCsFall_eq falls sck s, ?_, fun p hp => ?_, fun p hp => ?_, fun h hh => ?_, fun p hh hp hq hlow => ?_⟩
  · rw [hpace]
    split
    · exact heq
    · unfold State.takePace
      split
      · exact heq
      · rw [heq]
        rfl
    · exact heq
  · rw [hport, s.csDown_port, if_neg (by rw [State.mem_falling, hp]; decide)]
  · rw [hport, s.csDown_port, if_pos ((s.mem_falling falls p).2 hp)]
    rfl
  · rw [hpace, hh]
    exact State.csDown_pace falls sck
  · have hhead : (s.csDown falls sck).lowPorts.head? = some p := by
      refine first_allPorts ?_ (fun q hqp => ?_)
      · rw [Bool.and_eq_true] at hp
        rw [State.csDown_low, if_pos hp.1, hp.2]
      · obtain ⟨hql, hqf⟩ := hq q hqp
        rw [State.csDown_low]
        split
        · next hfall =>
          rw [hfall, Bool.true_and] at hqf
          exact hqf
        · exact hql
    rw [hpace, hh, hhead]
    simp [State.takePace, State.csDown_pace, hh]

/-! ### The end of a transaction that leaves nothing for its rise -/

/-- A port whose fetch has ended (R115). -/
def Port.fetchless (x : Port) : Port := { x with fetch := none, hold := none, fetchBank := none, reading := false }

/-- What a transaction counts at its end where no chain frame and no command was cut off (R130, R148, R179). -/
def Port.counted (x : Port) : Port := match x.txOp with
  | none => (Port.fail x).endTrial 6
  | some _ => { x with armed := false }

/-- A port after a transaction that left nothing for its rise. -/
def Port.ended (x : Port) : Port := Port.rest { x.fetchless.counted with atRise := [] }

theorem State.endStream_eq (s : State) (n : PortId) :
    ∃ a : Vector Annex 2, s.endStream n = { s with annex := a } ∧ ((s.port n).fetch = none → a = s.annex) := by
  unfold State.endStream State.stopRead
  split
  · next f hf =>
    split
    · exact ⟨s.annex, rfl, fun _ => rfl⟩
    · split
      · exact ⟨_, rfl, fun h => nomatch hf.symm.trans h⟩
      · exact ⟨s.annex, rfl, fun _ => rfl⟩
  · exact ⟨s.annex, rfl, fun _ => rfl⟩

/-- Banks that differ in no more than the ticks since their last fetch (R324). -/
def BanksAlike (b d : Vector Bank 65) : Prop := ∀ k : BankId, d[k] = { b[k] with quiet := d[k].quiet }

theorem State.modBank_quiet (s : State) (k : BankId) : BanksAlike s.banks (s.modBank k (fun x => { x with quiet := 0 })).banks := by
  intro j
  by_cases h : j = k
  · subst h
    have hj : (s.modBank j (fun x => { x with quiet := 0 })).banks[j] = { s.bank j with quiet := 0 } := State.modBank_bank_self _ _ _
    rw [hj]
    rfl
  · have hj : (s.modBank k (fun x => { x with quiet := 0 })).banks[j] = s.banks[j] := State.modBank_bank_of_ne _ _ _ _ h
    rw [hj]

/-- What the end of a port's fetch changes besides the port: what its bank and its annex hold. -/
theorem State.endFetchOf_eq (s : State) (n : PortId) : ∃ (b : Vector Bank 65) (a : Vector Annex 2),
    s.endFetchOf n = ({ s with banks := b, annex := a } : State).modPort n Port.fetchless
    ∧ BanksAlike s.banks b ∧ ((s.port n).fetch = none → a = s.annex) := by
  unfold State.endFetchOf
  cases (s.port n).fetchBank with
  | none =>
    obtain ⟨a, ha, hsame⟩ := s.endStream_eq n
    dsimp only
    rw [ha]
    exact ⟨s.banks, a, rfl, fun _ => rfl, hsame⟩
  | some k =>
    obtain ⟨a, ha, hsame⟩ := (s.modBank k (fun x => { x with quiet := 0 })).endStream_eq n
    dsimp only
    rw [ha]
    exact ⟨_, a, rfl, s.modBank_quiet k, hsame⟩

/-- A transaction that left nothing for its rise, was no chain frame and brings no payload. -/
structure Port.EndsPlain (x : Port) : Prop where
  acts   : x.atRise = []
  upload : x.upload = none
  chain  : x.chainFrame = false
  wait   : x.waitRise = false

theorem Port.counted_atRise (x : Port) : x.counted.atRise = x.atRise := by
  unfold Port.counted Port.fail Port.endTrial
  grind

theorem State.riseActs_of_nil {s : State} {n : PortId} (h : (s.port n).atRise = []) :
    s.riseActs n = s.modPort n (fun x => { x with atRise := [] }) := by
  rw [State.riseActs, h]
  rfl

theorem State.countTransaction_plain {s : State} {n : PortId} (hw : (s.port n).waitRise = false)
    (hc : (s.port n).chainFrame = false) : s.countTransaction n none = s.modPort n Port.counted := by
  unfold State.countTransaction
  simp only [hw, hc]
  cases h : (s.port n).txOp with
  | none => simp [State.modPort, Port.counted, h]
  | some op => simp [State.modPort, Port.counted, h]

/-- What is counted at the end of a transaction that was no chain frame and brings no payload. -/
theorem State.countedOut_plain {s : State} {n : PortId} (hup : (s.port n).upload = none) (hchain : (s.port n).chainFrame = false)
    (hwait : (s.port n).waitRise = false) :
    ∃ (b : Vector Bank 65) (a : Vector Annex 2) (l : Ledger),
      s.countedOut [] n = ({ s with banks := b, annex := a, ledger := l } : State).modPort n (fun x => x.fetchless.counted)
      ∧ BanksAlike s.banks b ∧ ((s.port n).fetch = none → a = s.annex) := by
  obtain ⟨b, a, hf, hb, ha⟩ := s.endFetchOf_eq n
  refine ⟨b, a, ((({ s with banks := b, annex := a } : State).modPort n Port.fetchless).dropDriving n).ledger, ?_, hb, ha⟩
  unfold State.countedOut
  rw [hf]
  have hd : (({ s with banks := b, annex := a } : State).modPort n Port.fetchless).dropDriving n =
    ({ s with banks := b, annex := a,
              ledger := ((({ s with banks := b, annex := a } : State).modPort n Port.fetchless).dropDriving n).ledger } :
      State).modPort n Port.fetchless := rfl
  rw [hd]
  generalize ((({ s with banks := b, annex := a } : State).modPort n Port.fetchless).dropDriving n).ledger = l
  have hp : (({ s with banks := b, annex := a, ledger := l } : State).modPort n Port.fetchless).port n = (s.port n).fetchless :=
    State.modPort_port_self _ _ _
  have hcut : (({ s with banks := b, annex := a, ledger := l } : State).modPort n Port.fetchless).cutUpload n =
      ({ s with banks := b, annex := a, ledger := l } : State).modPort n Port.fetchless := by
    unfold State.cutUpload
    rw [hp]
    simp [Port.fetchless, hup]
  rw [hcut]
  exact (State.countTransaction_plain (by rw [hp]; exact hwait) (by rw [hp]; exact hchain)).trans
    (State.modPort_modPort _ n Port.fetchless Port.counted)

/-- Such an end changes the port, and what its fetch and its records hold elsewhere. -/
theorem State.endTransaction_plain {s : State} {n : PortId} (h : (s.port n).EndsPlain) :
    ∃ (b : Vector Bank 65) (a : Vector Annex 2) (l : Ledger),
      State.endTransaction [] s n = ({ s with banks := b, annex := a, ledger := l } : State).modPort n Port.ended := by
  obtain ⟨hacts, hup, hchain, hwait⟩ := h
  obtain ⟨b, a, l, hcount, -, -⟩ := State.countedOut_plain hup hchain hwait
  refine ⟨b, a, l, ?_⟩
  have h1 : ((({ s with banks := b, annex := a, ledger := l } : State).modPort n
      (fun x => x.fetchless.counted)).port n).atRise = [] := by
    rw [State.modPort_port_self, Port.counted_atRise]
    exact hacts
  rw [State.endTransaction_eq, hcount, State.riseActs_of_nil h1, State.riseActs_of_nil (by rw [State.modPort_port_self])]
  simp only [State.modPort_modPort]
  rfl

/-- Such ends of several transactions. -/
theorem State.endTransactions_plain (l : List PortId) (hl : l.Nodup) (s : State) (h : ∀ p ∈ l, (s.port p).EndsPlain) :
    let t := l.foldl (State.endTransaction []) s
    t = { s with ports := t.ports, banks := t.banks, annex := t.annex, ledger := t.ledger }
    ∧ ∀ q, t.port q = if q ∈ l then (s.port q).ended else s.port q := by
  induction l generalizing s with
  | nil => exact ⟨rfl, fun q => by simp⟩
  | cons p l ih =>
    obtain ⟨hp, hl⟩ := List.nodup_cons.1 hl
    obtain ⟨b, a, g, heq⟩ := State.endTransaction_plain (h p List.mem_cons_self)
    have hother : ∀ q, q ≠ p → (State.endTransaction [] s p).port q = s.port q := fun q hq => by
      rw [heq, State.modPort_port_of_ne _ p _ q hq]
      rfl
    have hself : (State.endTransaction [] s p).port p = (s.port p).ended := by
      rw [heq, State.modPort_port_self]
      rfl
    obtain ⟨hrest, hport⟩ := ih hl (State.endTransaction [] s p) fun q hq => by
      rw [hother q (fun he => hp (he ▸ hq))]
      exact h q (List.mem_cons_of_mem p hq)
    refine ⟨?_, fun q => ?_⟩
    · rw [List.foldl_cons]
      refine hrest.trans ?_
      rw [heq]
      rfl
    · rw [List.foldl_cons, hport]
      by_cases hq : q = p
      · subst hq
        rw [if_neg hp, if_pos List.mem_cons_self, hself]
      · rw [hother q hq]
        simp [hq]

/-! ### A port after such an end (R148, R149, R179) -/

section
variable {x : Port}

theorem Port.ended_levels (x : Port) : x.ended.csLow = x.csLow ∧ x.ended.txOp = none ∧ x.ended.reply = Reply.none ∧ x.ended.fetch = none := by
  simp only [Port.ended, Port.rest, Port.silenceCheck, Port.counted, Port.fetchless, Port.fail, Port.endTrial, Port.revert]
  grind

theorem Port.ended_of_command (h : x.txOp.isSome = true) : x.ended.armed = false := by
  simp only [Port.ended, Port.rest, Port.silenceCheck, Port.counted, Port.fetchless, Port.fail, Port.endTrial, Port.revert]
  grind

theorem Port.ended_of_plain (h : x.txOp = none) (hp : x.plain = true) : x.ended.armed = x.armed ∧ x.ended.silent = x.silent := by
  simp only [Port.ended, Port.rest, Port.silenceCheck, Port.counted, Port.fetchless, Port.fail, Port.endTrial, Port.revert]
  grind

/-- R148: SILENT after a transaction without a complete command phase. -/
theorem Port.counted_silent (h : x.txOp = none) (hp : x.plain = false) (ht : x.trial = false) (hlt : x.silent.toNat < 255) :
    x.fetchless.counted = { x.fetchless with silent := x.silent + 1 } ∧ (x.silent + 1).toNat = x.silent.toNat + 1 := by
  have hx : x.fetchless.txOp = none := h
  refine ⟨?_, ?_⟩
  · rw [Port.counted, hx]
    simp [Port.fail, Port.endTrial, Port.fetchless, hp, ht, hlt]
  · rw [BitVec.toNat_add]
    exact Nat.mod_eq_of_lt (by simp; omega)

theorem Port.rest_of_quiet (h : x.tooSilent = false) : x.rest.armed = x.armed ∧ x.rest.silent = x.silent := by
  have hy : Port.tooSilent { x with atRise := [], txOp := none, chainFrame := false, waitRise := false, reply := Reply.none,
                                    cycle := 0, cell := none, level := 0xFF } = false := h
  rw [Port.rest, Port.silenceCheck, hy]
  exact ⟨rfl, rfl⟩

theorem Port.ended_of_silent (h : x.txOp = none) (hp : x.plain = false) (ht : x.trial = false)
    (hlt : x.silent.toNat + 1 < x.silenceLimit.toNat) : x.ended.armed = x.armed ∧ x.ended.silent = x.silent + 1 := by
  have hmax := x.silenceLimit.isLt
  obtain ⟨hc, hn⟩ := Port.counted_silent h hp ht (by omega)
  have hquiet : Port.tooSilent { x.fetchless.counted with atRise := [] } = false := by
    rw [hc]
    exact decide_eq_false (show ¬ (0 < x.silenceLimit.toNat ∧ x.silenceLimit.toNat ≤ (x.silent + 1).toNat) by omega)
  obtain ⟨ha, hs⟩ := Port.rest_of_quiet hquiet
  have h3 : x.fetchless.counted.armed = x.armed := by
    rw [hc]
    rfl
  have h4 : x.fetchless.counted.silent = x.silent + 1 := by rw [hc]
  exact ⟨ha.trans h3, hs.trans h4⟩

theorem Port.ended_of_tooSilent (h : x.txOp = none) (hp : x.plain = false) (ht : x.trial = false)
    (he : x.silent.toNat + 1 = x.silenceLimit.toNat) :
    x.ended.mode = 0 ∧ x.ended.plain = true ∧ x.ended.armed = false ∧ x.ended.silent = 0 ∧ x.ended.reverts = x.reverts + 1
    ∧ x.ended.trainResult = 8 := by
  have hmax := x.silenceLimit.isLt
  obtain ⟨hc, hn⟩ := Port.counted_silent h hp ht (by omega)
  have hover : 0 < x.silenceLimit.toNat ∧ x.silenceLimit.toNat ≤ (x.silent + 1).toNat := by omega
  unfold Port.ended Port.rest Port.silenceCheck Port.tooSilent
  rw [hc]
  simp only [Port.fetchless, Port.revert, decide_eq_true hover, hp, ht, Bool.not_false, Bool.and_self, if_true, and_self]

end

/-! ### Pace after the rise -/

theorem State.mem_rising (s : State) (rises : BitVec 8) (p : PortId) :
    p ∈ s.rising rises ↔ (rises.getLsbD p.val && (s.port p).csLow) = true := mem_filter_allPorts _ p

theorem State.handOver_of_low {s : State} {p : PortId} (h : s.lowPorts.head? = some p) : (s.handOver 0).pace =
    { s.pace with holder := some p, oldPacer := none, oldSync := 0, sync := 2, handovers := s.pace.handovers + 1 } := by
  have hc : s.lowPorts.find? (fun p => !(0 : BitVec 8).getLsbD p.val || Config.freeBool (s.freeCtr + p.val)) = some p := by
    rw [← h]
    cases s.lowPorts <;> simp
  unfold State.handOver
  simp only [if_true, hc]
  rfl

theorem State.handOver_of_none {s : State} (h : s.lowPorts = []) (hpol : s.pace.policy = false) : (s.handOver 0).pace =
    { s.pace with holder := none, oldPacer := none, oldSync := 0, sync := 0 } := by
  have hl : s.dropPace.lowPorts = [] := h
  have hn : s.dropPace.nominated = none := State.nominated_of_baton hpol
  unfold State.handOver
  simp only [if_true, h, List.find?_nil]
  unfold State.baton
  rw [hn, hl]
  rfl

section
variable {s : State} {rises : BitVec 8}

theorem State.csUp_low (q : PortId) : ((s.csUp rises).port q).low = ((s.port q).low && !rises.getLsbD q.val) := by
  rw [s.csUp_port]
  simp only [State.mem_rising, Port.low]
  grind

theorem State.csUp_first {n : PortId} (hn : (s.port n).low = true) (hr : rises.getLsbD n.val = false)
    (hq : ∀ q : PortId, q < n → (s.port q).low = true → rises.getLsbD q.val = true) :
    (s.csUp rises).lowPorts.head? = some n :=
  first_allPorts (by rw [State.csUp_low, hn, hr]; rfl) fun q hlt => by
    rw [State.csUp_low]
    have := hq q hlt
    grind

theorem State.csUp_none (hn : ∀ n : PortId, (s.port n).low = true → rises.getLsbD n.val = true) :
    (s.csUp rises).lowPorts = [] := by
  refine List.filter_eq_nil_iff.2 fun q _ => ?_
  rw [State.csUp_low]
  have := hn q
  grind

end

/-- Settles O16: a rising port ends plainly; the holder's rise gives pace to the first port whose CS# stays low. -/
theorem riseHandsPaceOver : Obligations.RiseHandsPaceOver := by
  intro s rises h hpol hh hrise hplain
  have hhand : s.csUpHanded rises 0 = (s.csUp rises).handOver 0 := by
    unfold State.csUpHanded
    rw [hh]
    simp [(s.mem_rising rises h).2 hrise]
  have hport : ∀ q, (s.csUpHanded rises 0).port q = if q ∈ s.rising rises then { s.port q with csLow := false } else s.port q :=
    s.csUpHanded_port rises 0
  obtain ⟨heq, hends⟩ := State.endTransactions_plain (s.rising rises) (s.rising_nodup rises) (s.csUpHanded rises 0) fun p hp => by
    obtain ⟨hacts, hup, hchain, hwait⟩ := hplain p ((s.mem_rising rises p).1 hp)
    rw [hport, if_pos hp]
    exact ⟨hacts, hup, hchain, hwait⟩
  have hcs := s.csUpHanded_eq rises 0
  refine ⟨_, execCsRise_eq rises { late := 0, cuts := [] } s, fun p hp => ?_, fun p hp => ?_, fun n hn hr hq => ?_, fun hn => ?_, ?_⟩
  · have hmem := (s.mem_rising rises p).2 hp
    have hp2 : (List.foldl (State.endTransaction []) (s.csUpHanded rises 0) (s.rising rises)).port p =
        Port.ended { s.port p with csLow := false } := by
      rw [hends, if_pos hmem, hport, if_pos hmem]
    rw [hp2]
    obtain ⟨h1, h2, h3, h4⟩ := Port.ended_levels { s.port p with csLow := false }
    exact ⟨h1, h2, h3, h4, Port.ended_of_command (x := { s.port p with csLow := false }),
      Port.ended_of_plain (x := { s.port p with csLow := false }), Port.ended_of_silent (x := { s.port p with csLow := false }),
      Port.ended_of_tooSilent (x := { s.port p with csLow := false })⟩
  · have hmem : p ∉ s.rising rises := by rw [State.mem_rising, hp]; decide
    exact ((hends p).trans (if_neg hmem)).trans ((hport p).trans (if_neg hmem))
  · rw [heq, hhand, State.handOver_of_low (State.csUp_first hn hr hq), State.csUp_pace]
  · rw [heq, hhand, State.handOver_of_none (State.csUp_none hn) (by rw [State.csUp_pace, hpol]), State.csUp_pace]
  · rw [heq, hcs]
    exact ⟨rfl, rfl, rfl, rfl, rfl, rfl, rfl, rfl, rfl⟩

end Sys2Proof.Machine
end

section
/-! PROOFS. A register write takes effect at the CS# rise (R179, R580). -/
namespace Sys2Proof.Machine

/-- What no register act at a rise looks at is set to the reset state's: ports, pace, ledger and banks. -/
def State.aside (s : State) : State :=
  { s with ports := State.reset.ports, pace := State.reset.pace, ledger := State.reset.ledger, banks := State.reset.banks,
           freeCtr := 0 }

/-- Two states that differ in port `n`, in pace and ledger, and in how long banks have been without a fetch. -/
structure State.Beside (n : PortId) (s t : State) : Prop where
  aside  : t.aside = s.aside
  banks  : BanksAlike s.banks t.banks
  ports  : ∀ q, q ≠ n → t.port q = s.port q
  booten : (t.port n).booten = (s.port n).booten

section
variable {n : PortId} {s t : State}

/-- What looks at nothing that may differ. -/
theorem State.Beside.same {α : Type} (h : State.Beside n s t) (f : State → α) (hf : ∀ u : State, f u.aside = f u) : f t = f s := by
  rw [← hf, h.aside, hf]

theorem State.Beside.booten_all (h : State.Beside n s t) (q : PortId) : (t.port q).booten = (s.port q).booten := by
  by_cases hq : q = n
  · rw [hq, h.booten]
  · rw [h.ports q hq]

/-- An operation that neither looks at nor changes what may differ. -/
theorem State.Beside.map (h : State.Beside n s t) (f : State → State)
    (hf : ∀ u : State, (f u).aside = f u.aside ∧ (f u).banks = u.banks ∧ (f u).ports = u.ports) :
    State.Beside n (f s) (f t) := by
  have hport : ∀ (u : State) (q : PortId), (f u).port q = u.port q := fun u q => by
    rw [State.port, (hf u).2.2]
    rfl
  refine ⟨?_, ?_, fun q hq => ?_, ?_⟩
  · rw [(hf t).1, (hf s).1, h.aside]
  · rw [(hf t).2.1, (hf s).2.1]
    exact h.banks
  · rw [hport, hport, h.ports q hq]
  · rw [hport, hport, h.booten]

theorem State.Beside.modPort (h : State.Beside n s t) (q : PortId) (f : Port → Port)
    (hf : ∀ x y : Port, x.booten = y.booten → (f x).booten = (f y).booten) :
    State.Beside n (s.modPort q f) (t.modPort q f) := by
  refine ⟨h.aside, h.banks, fun p hp => ?_, ?_⟩
  · by_cases hq : p = q
    · subst hq
      rw [State.modPort_port_self, State.modPort_port_self, h.ports p hp]
    · rw [State.modPort_port_of_ne _ q f p hq, State.modPort_port_of_ne _ q f p hq, h.ports p hp]
  · by_cases hq : n = q
    · subst hq
      rw [State.modPort_port_self, State.modPort_port_self]
      exact hf _ _ h.booten
    · rw [State.modPort_port_of_ne _ q f n hq, State.modPort_port_of_ne _ q f n hq, h.booten]

theorem State.Beside.modBank (h : State.Beside n s t) (b : BankId) (f : Bank → Bank)
    (hf : ∀ (x : Bank) (q : Nat), f { x with quiet := q } = { f x with quiet := q }) :
    State.Beside n (s.modBank b f) (t.modBank b f) := by
  refine ⟨h.aside, fun k => ?_, h.ports, h.booten⟩
  have hk := h.banks k
  by_cases hb : k = b
  · subst hb
    have ht : (t.modBank k f).banks[k] = f t.banks[k] := State.modBank_bank_self _ _ _
    have hs : (s.modBank k f).banks[k] = f s.banks[k] := State.modBank_bank_self _ _ _
    rw [ht, hs, hk, hf]
  · have ht : (t.modBank b f).banks[k] = t.banks[k] := State.modBank_bank_of_ne _ _ _ _ hb
    have hs : (s.modBank b f).banks[k] = s.banks[k] := State.modBank_bank_of_ne _ _ _ _ hb
    rw [ht, hs]
    exact hk

theorem State.Beside.configNow (h : State.Beside n s t) : t.configNow = s.configNow := by
  have hlife : t.life = s.life := h.same State.life fun _ => rfl
  have hglob : t.glob = s.glob := h.same State.glob fun _ => rfl
  unfold State.configNow
  simp only [hlife, hglob, h.booten_all]

theorem State.Beside.plinthWrite (h : State.Beside n s t) (d : PlinthData) :
    State.Beside n (s.plinthWrite d) (t.plinthWrite d) := h.map (fun u => u.plinthWrite d) fun _ => ⟨rfl, rfl, rfl⟩

theorem State.Beside.writeConfig (h : State.Beside n s t) : State.Beside n s.writeConfig t.writeConfig := by
  rw [State.writeConfig, State.writeConfig, h.configNow]
  exact h.plinthWrite _

theorem State.Beside.writeBooten (h : State.Beside n s t) : State.Beside n s.writeBooten t.writeBooten := by
  have hbooting : t.booting = s.booting := h.same State.booting fun _ => rfl
  have hboot : t.boot = s.boot := h.same State.boot fun _ => rfl
  have hplinth : t.plinth = s.plinth := h.same State.plinth fun _ => rfl
  unfold State.writeBooten
  rw [hbooting, hboot, hplinth, h.configNow]
  split
  · split
    · exact h.plinthWrite _
    · exact h.writeConfig
  · exact h.writeConfig

theorem State.Beside.setPolicy (h : State.Beside n s t) (policy : Bool) (q : PortId) :
    State.Beside n (s.setPolicy policy q) (t.setPolicy policy q) := by
  have hs := (s.setPolicy_moves policy q).eq
  have ht := (t.setPolicy_moves policy q).eq
  rw [hs, ht]
  exact ⟨h.aside, h.banks, h.ports, h.booten⟩

theorem State.Beside.risePriv (h : State.Beside n s t) (v : Word) : State.Beside n (s.risePriv v) (t.risePriv v) := by
  have hopen : t.isOpen = s.isOpen := h.same State.isOpen fun _ => rfl
  have hpins : t.pins = s.pins := h.same State.pins fun _ => rfl
  have hlife : t.life = s.life := h.same State.life fun _ => rfl
  unfold State.risePriv
  rw [hopen, hpins, hlife]
  dsimp only
  split
  · exact h.map (fun u => u.modLife (fun l => { l with lvlx := true })) fun _ => ⟨rfl, rfl, rfl⟩
  · split
    · exact h.map (fun u => u.modLife (fun l => { l with wpx := true })) fun _ => ⟨rfl, rfl, rfl⟩
    · refine State.Beside.writeConfig ?_
      have h1 := h.map (fun u => u.modLife (fun l => { l with priv := fieldOf v 0 32 &&& 0x7FFFFFFF })) fun _ => ⟨rfl, rfl, rfl⟩
      split
      · exact h1
      · exact h1.map State.bumpEpochs fun _ => ⟨rfl, rfl, rfl⟩

theorem State.Beside.riseMarkLock (h : State.Beside n s t) (v : Word) :
    State.Beside n (s.riseMarkLock v) (t.riseMarkLock v) := by
  have hpins : t.pins = s.pins := h.same State.pins fun _ => rfl
  unfold State.riseMarkLock
  rw [hpins]
  split
  · exact h
  · split
    · exact h.map (fun u => u.modLife (fun l => { l with wpx := true })) fun _ => ⟨rfl, rfl, rfl⟩
    · exact (h.map (fun u => u.modLife (fun l =>
        { l with lock := l.lock ||| fieldOf v 0 16, hide := l.hide ||| fieldOf v 16 16 })) fun _ => ⟨rfl, rfl, rfl⟩).writeConfig

theorem State.Beside.riseMapmode (h : State.Beside n s t) (v : Word) :
    State.Beside n (s.riseMapmode v) (t.riseMapmode v) := by
  have hpins : t.pins = s.pins := h.same State.pins fun _ => rfl
  unfold State.riseMapmode
  rw [hpins]
  split
  · exact (h.map (fun u => u.modGlob (fun g => { g with mapmode := v })) fun _ => ⟨rfl, rfl, rfl⟩).writeConfig
  · exact h.map (fun u => u.modGlob (fun g => { g with mapWpx := true })) fun _ => ⟨rfl, rfl, rfl⟩

theorem State.Beside.riseChain (h : State.Beside n s t) (m : PortId) (v : Word) :
    State.Beside n (s.riseChain m v) (t.riseChain m v) := by
  have hpins : t.pins = s.pins := h.same State.pins fun _ => rfl
  unfold State.riseChain
  rw [hpins, h.booten_all]
  dsimp only
  refine State.Beside.modPort ?_ m _ fun x y hxy => ?_
  · split
    · exact h
    · split
      · exact (h.modPort m _ fun _ _ _ => rfl).writeBooten
      · exact h.modPort m _ fun _ _ hxy => hxy
  · unfold Port.riseChainEn
    grind

theorem State.Beside.risePump (h : State.Beside n s t) (g : GalId) (cp : Bool) (v : Word) :
    State.Beside n (s.risePump g cp v) (t.risePump g cp v) := by
  have h1 := h.map (fun u => u.modGal g (fun x =>
    if cp then { x with cpump := x.cpump.rise v } else { x with lpump := x.lpump.rise v })) fun _ => ⟨rfl, rfl, rfl⟩
  unfold State.risePump
  dsimp only
  split
  · exact h1
  · exact h1.map (fun u => u.modPower (fun w => { w with badset := true })) fun _ => ⟨rfl, rfl, rfl⟩

theorem State.Beside.riseSample (h : State.Beside n s t) (v : Word) :
    State.Beside n (s.riseSample v) (t.riseSample v) := by
  refine h.map (fun u => u.riseSample v) fun u => ?_
  unfold State.riseSample
  dsimp only
  split
  · exact ⟨rfl, rfl, rfl⟩
  · exact ⟨rfl, rfl, rfl⟩

/-- R580: what a register write does at the rise does not depend on what may differ. -/
theorem State.Beside.writeAtRise (h : State.Beside n s t) (r : RegRef) (v : Word) :
    State.Beside n (s.writeAtRise r v) (t.writeAtRise r v) := by
  cases r with
  | paceCtrl => exact h.setPolicy _ _
  | priv => exact h.risePriv v
  | cpump g => exact h.risePump g true v
  | lpump g => exact h.risePump g false v
  | chain m => exact h.riseChain m v
  | markLock => exact h.riseMarkLock v
  | mapmode => exact h.riseMapmode v
  | sampleCtrl => exact h.riseSample v
  | bankCtrl b =>
    exact h.modBank (bankIx b) (fun k => { k with autoSuspend := v.getLsbD 1, unlimited := v.getLsbD 0 }) fun _ _ => rfl
  | plumb b => exact h.modBank (bankIx b) (fun k => k.risePlumb v) fun _ _ => rfl
  | timing m =>
    refine h.modPort m (fun x => x.riseTiming v) fun x y hxy => ?_
    unfold Port.riseTiming
    grind
  | len m =>
    refine h.modPort m (fun x => x.riseLen v) fun x y hxy => ?_
    unfold Port.riseLen
    grind
  | period m =>
    refine h.modPort m (fun x => x.risePeriod v) fun x y hxy => ?_
    unfold Port.risePeriod
    grind
  | mstat i =>
    simp only [State.writeAtRise]
    split
    · exact h.map (fun u => u.modSub i Sub.fillBuckets) fun _ => ⟨rfl, rfl, rfl⟩
    · exact h
  | _ => exact h.map (fun u => u.writeAtRise _ v) fun _ => ⟨rfl, rfl, rfl⟩

end

/-! ### What no register act at a rise changes -/

/-- What a port's transaction has left, but for its reply. -/
def Port.left (x : Port) : Bool × Bool × List RiseAct × Option Hold := (x.csLow, x.armed, x.atRise, x.hold)

theorem State.modPort_left (s : State) (m : PortId) (f : Port → Port) (n : PortId) (hf : ∀ x : Port, (f x).left = x.left) :
    ((s.modPort m f).port n).left = (s.port n).left := by
  by_cases h : n = m
  · subst h
    rw [State.modPort_port_self, hf]
  · rw [State.modPort_port_of_ne _ m f n h]

theorem State.port_of_ports {s t : State} (h : t.ports = s.ports) (n : PortId) : t.port n = s.port n := by
  rw [State.port, h]
  rfl

theorem State.writeBooten_ports (s : State) : s.writeBooten.ports = s.ports := by
  unfold State.writeBooten
  split
  · split
    · rfl
    · rfl
  · rfl

theorem State.risePriv_ports (s : State) (v : Word) : (s.risePriv v).ports = s.ports := by
  unfold State.risePriv
  split
  · rfl
  · split
    · rfl
    · dsimp only
      split
      · rfl
      · rfl

theorem State.riseMarkLock_ports (s : State) (v : Word) : (s.riseMarkLock v).ports = s.ports := by
  unfold State.riseMarkLock
  split
  · rfl
  · split
    · rfl
    · rfl

theorem State.riseMapmode_ports (s : State) (v : Word) : (s.riseMapmode v).ports = s.ports := by
  unfold State.riseMapmode
  split
  · rfl
  · rfl

theorem State.riseSample_ports (s : State) (v : Word) : (s.riseSample v).ports = s.ports := by
  unfold State.riseSample
  dsimp only
  split
  · rfl
  · rfl

theorem State.risePump_ports (s : State) (g : GalId) (cp : Bool) (v : Word) : (s.risePump g cp v).ports = s.ports := by
  unfold State.risePump
  dsimp only
  split
  · rfl
  · rfl

theorem State.writeAtRise_left (s : State) (r : RegRef) (v : Word) (n : PortId) :
    ((s.writeAtRise r v).port n).left = (s.port n).left := by
  cases r with
  | timing m =>
    refine s.modPort_left m (fun x => x.riseTiming v) n fun x => ?_
    unfold Port.riseTiming
    grind [Port.left]
  | len m =>
    refine s.modPort_left m (fun x => x.riseLen v) n fun x => ?_
    unfold Port.riseLen
    grind [Port.left]
  | period m =>
    refine s.modPort_left m (fun x => x.risePeriod v) n fun x => ?_
    unfold Port.risePeriod
    grind [Port.left]
  | chain m =>
    simp only [State.writeAtRise, State.riseChain]
    refine (State.modPort_left _ m (fun x => x.riseChainEn v) n fun x => ?_).trans ?_
    · unfold Port.riseChainEn
      grind [Port.left]
    · split
      · rfl
      · split
        · rw [State.port_of_ports (State.writeBooten_ports _)]
          exact s.modPort_left m (fun p => { p with booten := v.getLsbD 1 }) n fun _ => rfl
        · exact s.modPort_left m (fun p => { p with chainWpx := true }) n fun _ => rfl
  | paceCtrl =>
    have h := (s.setPolicy_moves (v.getLsbD 0) (fieldOf v 4 3).toFin).eq
    rw [State.writeAtRise, h]
    rfl
  | mstat i => exact congrArg Port.left (State.port_of_ports (by simp only [State.writeAtRise]; split <;> rfl) n)
  | priv => exact congrArg Port.left (State.port_of_ports (s.risePriv_ports v) n)
  | markLock => exact congrArg Port.left (State.port_of_ports (s.riseMarkLock_ports v) n)
  | mapmode => exact congrArg Port.left (State.port_of_ports (s.riseMapmode_ports v) n)
  | sampleCtrl => exact congrArg Port.left (State.port_of_ports (s.riseSample_ports v) n)
  | lpump g => exact congrArg Port.left (State.port_of_ports (s.risePump_ports g false v) n)
  | cpump g => exact congrArg Port.left (State.port_of_ports (s.risePump_ports g true v) n)
  | _ => rfl

theorem State.writeAtRise_mem (s : State) (r : RegRef) (v : Word) : (s.writeAtRise r v).mem = s.mem := by
  by_cases h : r = .paceCtrl
  · subst h
    have h := (s.setPolicy_moves (v.getLsbD 0) (fieldOf v 4 3).toFin).eq
    rw [State.writeAtRise, h]
  · exact State.mem_of_kept (s.kept_writeAtRise r v h)

/-! ### The rise of one port that holds no pace -/

theorem State.rising_one {s : State} {n : PortId} (h : (s.port n).csLow = true) : s.rising (1 <<< n.val) = [n] := by
  have hbit : ∀ m p : Fin 8, (1 <<< m.val : BitVec 8).getLsbD p.val = decide (p = m) := by decide
  have hone : ∀ m : Fin 8, allPorts.filter (fun p => decide (p = m)) = [m] := by decide
  rw [← hone n]
  refine List.filter_congr fun p _ => ?_
  rw [hbit]
  by_cases hp : p = n
  · rw [hp, h, Bool.and_true]
  · simp [hp]

theorem Port.counted_of_command {x : Port} (h : x.txOp.isSome = true) : x.fetchless.counted = { x.fetchless with armed := false } := by
  obtain ⟨op, hop⟩ := Option.isSome_iff_exists.1 h
  have hx : x.fetchless.txOp = some op := hop
  generalize x.fetchless = y at hx ⊢
  unfold Port.counted
  split
  · next hn => exact nomatch hx.symm.trans hn
  · rfl

/-- A register act of port `n`, at the end of whose transaction the state is `c`. -/
theorem State.endTransaction_regAct {s c : State} {n : PortId} {r : BitVec 12} {v : Word} {x : Port}
    (hc : c.aside = s.aside) (hbanks : c.banks = s.banks) (hports : ∀ q, q ≠ n → c.port q = s.port q) (hx : c.port n = x)
    (hboot : x.booten = (s.port n).booten) (hacts : x.atRise = [.regAct r v]) (hup : x.upload = none)
    (hchain : x.chainFrame = false) (hwait : x.waitRise = false) (hfetch : x.fetch = none)
    (htx : x.txOp.isSome = true) :
    ∃ w : State, State.endTransaction [] c n = (w.modPort n (fun y => { y with atRise := [] })).modPort n Port.rest
      ∧ State.Beside n (s.writeAtRise (regOf r) v) w
      ∧ (w.port n).left = (x.csLow, false, [], none) := by
  subst hx
  obtain ⟨b, a, l, hcount, hb, ha⟩ := State.countedOut_plain hup hchain hwait
  obtain rfl := ha hfetch
  let d := ({ c with banks := b, annex := c.annex, ledger := l } : State).modPort n
    (fun y => { y.fetchless.counted with atRise := [] })
  have hd : State.Beside n s d := by
    refine ⟨hc, ?_, fun q hq => ?_, ?_⟩
    · rw [← hbanks]
      exact hb
    · exact (State.modPort_port_of_ne _ n _ q hq).trans (hports q hq)
    · refine Eq.trans ?_ hboot
      rw [State.modPort_port_self]
      show (c.port n).fetchless.counted.booten = (c.port n).booten
      rw [Port.counted_of_command htx]
      rfl
  have hleft : ((d.writeAtRise (regOf r) v).port n).left = ((c.port n).csLow, false, [], none) := by
    rw [State.writeAtRise_left, State.modPort_port_self]
    show Port.left { (c.port n).fetchless.counted with atRise := [] } = _
    rw [Port.counted_of_command htx]
    rfl
  refine ⟨d.writeAtRise (regOf r) v, ?_, hd.writeAtRise (regOf r) v, hleft⟩
  have h1 : (({ c with banks := b, annex := c.annex, ledger := l } : State).modPort n
      (fun x => x.fetchless.counted)).riseActs n = d.writeAtRise (regOf r) v := by
    unfold State.riseActs
    have hx : (c.port n).fetchless.counted.atRise = [.regAct r v] := (Port.counted_atRise _).trans hacts
    rw [State.modPort_port_self]
    show List.foldl _ _ ((c.port n).fetchless.counted.atRise) = _
    rw [hx, State.modPort_modPort]
    rfl
  rw [State.endTransaction_eq, hcount, h1, State.riseActs_of_nil]
  exact (congrArg (fun y : Bool × Bool × List RiseAct × Option Hold => y.2.2.1) hleft)

theorem Port.rest_of_unarmed {x : Port} (h : x.armed = false) :
    x.rest.armed = false ∧ x.rest.atRise = [] ∧ x.rest.txOp = none ∧ x.rest.hold = x.hold := by
  unfold Port.rest Port.silenceCheck Port.revert
  split
  · exact ⟨rfl, rfl, rfl, rfl⟩
  · exact ⟨h, rfl, rfl, rfl⟩

/-- Settles O47: the act of the rise commutes with the end of the transaction. -/
theorem registerActsAtRise : Obligations.RegisterActsAtRise := by
  intro s n r v h
  simp only [State.endsWith, Bool.and_eq_true, Bool.not_eq_true', Option.isNone_iff_eq_none, beq_iff_eq, bne_iff_ne] at h
  obtain ⟨⟨⟨⟨⟨⟨⟨⟨⟨hlow, hwait⟩, hchain⟩, htx⟩, hacts⟩, hup⟩, hfetch⟩, hsome⟩, hholder⟩, hold⟩ := h
  have hrising := State.rising_one hlow
  have hport := s.csUpHanded_port (1 <<< n.val) 0
  have hself : (s.csUpHanded (1 <<< n.val) 0).port n = { s.port n with csLow := false } := by
    rw [hport, hrising, if_pos List.mem_cons_self]
  have hother : ∀ q, q ≠ n → (s.csUpHanded (1 <<< n.val) 0).port q = s.port q := fun q hq => by
    rw [hport, hrising, if_neg (by simpa using hq)]
  have heq := s.csUpHanded_eq (1 <<< n.val) 0
  obtain ⟨w, hend, hw, hleft⟩ := State.endTransaction_regAct (s := s) (c := s.csUpHanded (1 <<< n.val) 0) (n := n) (r := r) (v := v)
    (by rw [heq]; rfl) (by rw [heq]) hother hself rfl hacts hup hchain hwait hfetch htx
  have hexec : exec (.csRise (1 <<< n.val) { late := 0, cuts := [] }) s =
      .next ((w.modPort n (fun y => { y with atRise := [] })).modPort n Port.rest) := by
    rw [← hend]
    refine (execCsRise_eq _ _ s).trans ?_
    rw [hrising]
    rfl
  refine ⟨_, hexec, ?_⟩
  simp only [Port.left, Prod.mk.injEq] at hleft
  obtain ⟨hlow2, harmed, -, hhold⟩ := hleft
  have hp : (((w.modPort n (fun y => { y with atRise := [] })).modPort n Port.rest).port n) =
      Port.rest { w.port n with atRise := [] } := by
    rw [State.modPort_port_self, State.modPort_port_self]
  obtain ⟨h1, h2, h3, h4⟩ := Port.rest_of_unarmed (x := { w.port n with atRise := [] }) harmed
  refine ⟨hw.same State.gals fun _ => rfl, hw.same State.subs fun _ => rfl, hw.same State.power fun _ => rfl,
    hw.same State.upkeep fun _ => rfl, hw.same State.life fun _ => rfl, hw.same State.gates fun _ => rfl,
    hw.same State.glob fun _ => rfl, hw.same State.plinth fun _ => rfl, hw.same State.annex fun _ => rfl,
    hw.same State.trace fun _ => rfl, (hw.same State.mem fun _ => rfl).trans (s.writeAtRise_mem _ _), exec_pending _ _ _ hexec,
    hw.banks, fun q hq => ?_, ?_, ?_, ?_, ?_, ?_⟩
  · rw [State.modPort_port_of_ne _ n _ q hq, State.modPort_port_of_ne _ n _ q hq]
    exact hw.ports q hq
  · rw [hp, Port.rest_csLow]
    exact hlow2
  · rw [hp, h1]
  · rw [hp, h2]
  · rw [hp, h3]
  · rw [hp, h4]
    exact hhold

end Sys2Proof.Machine
end

section
/-! PROOFS. Admission of packets that pass every check, their commit and their receipt (R199, R220 to R225, R256). -/
namespace Sys2Proof.Machine

/-! ### The checks of Table 06.2, for a packet that passes them -/

theorem State.pick_of_ne_nil (s : State) {α : Type} {l : List α} (h : l ≠ []) : ∃ a ∈ l, s.pick l = some a := by
  have hlt : Config.freePick s.freeCtr % l.length < l.length := Nat.mod_lt _ (List.length_pos_iff.2 h)
  exact ⟨_, List.getElem_mem hlt, List.getElem?_eq_getElem hlt⟩

/-- What admission of `a` has made of `s`: the provisional operation `o` in slot `k`, its charge and its yard slot. -/
structure State.Admitted (s : State) (a : Ask) (k : Fin 256) (o : Op) (t : State) : Prop where
  slot   : k ∈ s.freeSlots
  built  : o = { s.opOf a k with colour := o.colour, charge := o.charge, yard := o.yard }
  rest   : t = { s with subs := t.subs, ledger := { s.ledger with yard := t.ledger.yard }, freeCtr := t.freeCtr }
  subs   : t.subs = (if ledgerOnly a.op then s else s.modSub a.sub (fun u => u.charged o.charge)).subs
  free   : ledgerOnly a.op = true → o.colour = .none ∧ o.charge = 0
  charge : ledgerOnly a.op = false → o.charge = s.chargeOf a.op a.pk.count.toNat ∧ some o.colour = (s.sub a.sub).colourOf o.charge
  yard   : takesYard a.op = true → ∃ y ∈ s.freeYardSlots, o.yard = some y
  noYard : takesYard a.op = false → o.yard = none

section
variable {s : State} {a : Ask}

/-- Check 7 fails (R47). -/
def State.lacksPeriod (s : State) (a : Ask) : Bool := match a.port with
  | some p => needsPeriod a.op && !(s.port p).periodOk
  | none => false

theorem State.check78_eq (k : Fin 256) (o : Op) : s.check78 a k o =
    if s.lacksPeriod a then (s.refundMeter a.sub o.colour o.charge, .refused rUndeclared (some k) false)
    else if !takesYard a.op then (s, .admitted o)
    else if !s.yardOpen a.sub then (s.refundMeter a.sub o.colour o.charge, .refused rFull (some k) true)
    else match s.takeYard o.id (some k) a.traceBank [] with
      | (s1, some y) => (s1, .admitted { o with yard := some y })
      | (s1, none) => (s1.refundMeter a.sub o.colour o.charge, .refused rFull (some k) true) := rfl

/-- A yard slot `z` taken, with nothing in it yet. -/
def State.yardTaken (s : State) (z : Fin 256) (owner : Nat) : State :=
  s.useFree.modLedger (fun l => { l with yard := { slot := z, owner := owner, data := [] } :: l.yard })

theorem State.takeYard_taken {z : Fin 256} (owner : Nat) (slot : Option (Fin 256)) (bank : Nat)
    (h : s.pick s.freeYardSlots = some z) : s.takeYard owner slot bank [] = (s.yardTaken z owner, some z) := by
  rw [State.takeYard, h]
  rfl

/-- Checks 7 and 8. -/
theorem State.check78_admitted (k : Fin 256) (o : Op) (hperiod : s.lacksPeriod a = false)
    (hyard : takesYard a.op = true → s.yardOpen a.sub = true ∧ s.freeYardSlots ≠ []) :
    ∃ (t : State) (y : Option (Fin 256)), s.check78 a k o = (t, .admitted { o with yard := y })
      ∧ t = { s with ledger := { s.ledger with yard := t.ledger.yard }, freeCtr := t.freeCtr }
      ∧ (takesYard a.op = true → ∃ z ∈ s.freeYardSlots, y = some z) ∧ (takesYard a.op = false → y = o.yard) := by
  cases hy : takesYard a.op with
  | false =>
    refine ⟨s, o.yard, ?_, rfl, nofun, fun _ => rfl⟩
    rw [State.check78_eq, hperiod, hy]
    rfl
  | true =>
    obtain ⟨hopen, hfree⟩ := hyard hy
    obtain ⟨z, hz, hpick⟩ := s.pick_of_ne_nil hfree
    refine ⟨s.yardTaken z o.id, some z, ?_, rfl, fun _ => ⟨z, hz, rfl⟩, nofun⟩
    rw [State.check78_eq, hperiod, hy, hopen, State.takeYard_taken _ _ _ hpick]
    rfl

/-- Checks 5 to 8. -/
theorem State.check58_admitted (k : Fin 256) (hk : k ∈ s.freeSlots) (hcycle : s.closesCycle (s.opOf a k) = false)
    (hcolour : ledgerOnly a.op = false → ((s.sub a.sub).colourOf (s.chargeOf a.op a.pk.count.toNat)).isSome = true)
    (hperiod : s.lacksPeriod a = false)
    (hyard : takesYard a.op = true → s.yardOpen a.sub = true ∧ s.freeYardSlots ≠ []) :
    ∃ (t : State) (o : Op), s.check58 a k = (t, .admitted o) ∧ s.Admitted a k o t := by
  cases hl : ledgerOnly a.op with
  | true =>
    obtain ⟨t, y, h, ht, hy, hn⟩ := s.check78_admitted k (s.opOf a k) hperiod hyard
    refine ⟨t, { s.opOf a k with yard := y }, ?_, ⟨hk, rfl, ?_, ?_, fun _ => ⟨rfl, rfl⟩, fun hf => (nomatch hf.symm.trans hl), hy, hn⟩⟩
    · rw [State.check58, hcycle, hl]
      exact h
    · rw [ht]
    · rw [ht, hl]
      rfl
  | false =>
    obtain ⟨col, hcol⟩ := Option.isSome_iff_exists.1 (hcolour hl)
    obtain ⟨t, y, h, ht, hy, hn⟩ := (s.modSub a.sub (fun u => u.charged (s.chargeOf a.op a.pk.count.toNat))).check78_admitted k
      { s.opOf a k with colour := col, charge := s.chargeOf a.op a.pk.count.toNat } hperiod hyard
    refine ⟨t, { s.opOf a k with colour := col, charge := s.chargeOf a.op a.pk.count.toNat, yard := y }, ?_,
      ⟨hk, rfl, ?_, ?_, fun hf => (nomatch hf.symm.trans hl), fun _ => ⟨rfl, hcol.symm⟩, hy, hn⟩⟩
    · rw [State.check58, hcycle, hl]
      dsimp only [State.meter]
      rw [hcol]
      exact h
    · rw [ht]
      rfl
    · rw [ht, hl]
      rfl

/-- The wait-for graph is the ledger's, and does not look at the place of the packet that asks. -/
theorem State.reach_of_ledger {t : State} (h : t.ledger = s.ledger) (n : Nat) (l : List Nat) : t.reach n l = s.reach n l := by
  have hop : t.op? = s.op? := by
    funext i
    rw [State.op?, h]
    rfl
  have hw : t.waitsFor = s.waitsFor := by
    funext x
    rw [State.waitsFor, h]
    rfl
  induction n generalizing l with
  | zero => rfl
  | succ n ih => rw [State.reach, State.reach, hop, hw, ih]

theorem State.closesCycle_of_ledger (s : State) {t : State} (h : t.ledger = s.ledger) (hsubs : t.subs = s.subs) (k : Fin 256) :
    t.closesCycle (t.opOf a k) = s.closesCycle (s.opOf a 0) := by
  have hev : t.eventSet = s.eventSet := by
    funext e
    rw [State.eventSet, h]
    rfl
  have hsub : t.sub a.sub = s.sub a.sub := by
    rw [State.sub, hsubs]
    rfl
  have hop : t.opOf a k = { s.opOf a 0 with origin := .ledger k } := by
    unfold State.opOf
    rw [h, hev, hsub]
  have hw : t.waitsFor { s.opOf a 0 with origin := .ledger k } = s.waitsFor (s.opOf a 0) := by
    rw [State.waitsFor, h]
    rfl
  rw [hop]
  unfold State.closesCycle
  rw [hev, hw, h, State.reach_of_ledger h]

/-- Checks 3 to 8. -/
theorem State.admitFrom3_admitted (h3 : s.check3 a = (s, true)) (hopen : s.slotOpen a.sub = true) (hfree : s.freeSlots ≠ [])
    (hcycle : s.closesCycle (s.opOf a 0) = false)
    (hcolour : ledgerOnly a.op = false → ((s.sub a.sub).colourOf (s.chargeOf a.op a.pk.count.toNat)).isSome = true)
    (hperiod : s.lacksPeriod a = false)
    (hyard : takesYard a.op = true → s.yardOpen a.sub = true ∧ s.freeYardSlots ≠ []) :
    ∃ (t : State) (o : Op) (k : Fin 256), s.admitFrom3 a = (t, .admitted o) ∧ s.Admitted a k o t := by
  obtain ⟨k, hk, hpick⟩ := s.pick_of_ne_nil hfree
  have hc : s.useFree.closesCycle (s.useFree.opOf a k) = false := (State.closesCycle_of_ledger s (t := s.useFree) rfl rfl k).trans hcycle
  obtain ⟨t, o, h, hadm⟩ := s.useFree.check58_admitted k hk hc hcolour hperiod hyard
  refine ⟨t, o, k, ?_, ⟨hadm.slot, hadm.built, ?_, ?_, hadm.free, hadm.charge, hadm.yard, hadm.noYard⟩⟩
  · rw [State.admitFrom3, h3]
    dsimp only
    rw [hopen, hpick]
    exact h
  · rw [hadm.rest]
    rfl
  · rw [hadm.subs]
    split
    · rfl
    · rfl

/-- Check 3 leaves no flag where it lets a packet through. -/
theorem State.check3_of_passes (h : (s.check3 a).2 = true) : s.check3 a = (s, true) := by
  unfold State.check3 State.checkLevel at h ⊢
  grind

/-- R220: a host packet that passes the eight checks. -/
theorem State.admitPacket_admitted {p : PortId} (hp : a.port = some p) (h : s.admits p a = true) :
    ∃ (t : State) (o : Op) (k : Fin 256), s.admitPacket p a = (t, .admitted o) ∧ s.Admitted a k o t := by
  simp only [State.admits, Bool.and_eq_true, Bool.or_eq_true, Bool.not_eq_true', Option.isNone_iff_eq_none, List.isEmpty_eq_false_iff] at h
  obtain ⟨⟨⟨⟨⟨⟨⟨⟨h1, h2⟩, h3⟩, hopen⟩, hfree⟩, hcycle⟩, hcolour⟩, hperiod⟩, hyard⟩ := h
  obtain ⟨t, o, k, hadm, hfacts⟩ := State.admitFrom3_admitted (State.check3_of_passes h3) hopen hfree hcycle
    (fun hl => hcolour.resolve_left (by rw [hl]; decide)) (by
      rw [State.lacksPeriod, hp]
      grind) (fun hy => hyard.resolve_left (by rw [hy]; decide))
  refine ⟨t, o, k, ?_, hfacts⟩
  rw [State.admitPacket, h1, h2]
  exact hadm

end

/-! ### The commit -/

/-- What a commit leaves of the state where its opcode does nothing on its commit edge. -/
structure State.Joined (s : State) (o : Op) (t : State) : Prop where
  rest   : t = { s with ledger := t.ledger, subs := t.subs, trace := t.trace }
  ops    : t.ledger.ops = s.ledger.ops ++ [o.queuedAt s.stamp]
  nextId : t.ledger.nextId = s.ledger.nextId + 1
  events : t.ledger.events = s.ledger.events
  subs   : t.subs = (s.modSub o.sub (fun u => u.remember o.seq o.id)).subs

theorem State.fillYard_eq (s : State) (o : Op) (data : List Word) : ∃ (y : List YardEntry) (tr : Trace),
    s.fillYard o data = { s with ledger := { s.ledger with yard := y }, trace := tr } := by
  unfold State.fillYard
  dsimp only
  split
  · exact ⟨_, _, rfl⟩
  · exact ⟨_, s.trace, rfl⟩

theorem State.payloadStaged_eq (s : State) (o : Op) : ∃ (m : Bool) (y : List YardEntry) (tr : Trace),
    s.payloadStaged o = { s with ledger := { s.ledger with aftermiss := m, yard := y }, trace := tr } := by
  have hmiss : ∃ m : Bool, (if s.missesAfter o then s.modLedger (fun l => { l with aftermiss := true }) else s) =
      { s with ledger := { s.ledger with aftermiss := m } } := by
    split
    · exact ⟨true, rfl⟩
    · exact ⟨s.ledger.aftermiss, rfl⟩
  obtain ⟨m, hm⟩ := hmiss
  unfold State.payloadStaged
  dsimp only
  rw [hm]
  split
  · exact ⟨m, s.ledger.yard, s.trace, rfl⟩
  · obtain ⟨y, tr, hf⟩ := State.fillYard_eq { s with ledger := { s.ledger with aftermiss := m } } o o.payload
    rw [hf]
    exact ⟨m, y, tr, rfl⟩

theorem State.joined_joined (s : State) (o : Op) : s.Joined o (s.joined o) := by
  obtain ⟨m, y, tr, h⟩ := s.payloadStaged_eq o
  unfold State.joined
  rw [h]
  exact ⟨rfl, rfl, rfl, rfl, rfl⟩

/-- Opcodes that do nothing more on their commit edge (R246, R448, R450). -/
theorem State.commit_joined (s : State) {o : Op} (hc : o.opcode ≠ opCancel) (hl : o.opcode ≠ opLevelRaise) (hr : o.opcode ≠ opRegress) :
    s.commit o = s.joined o := by
  rw [State.commit_eq, if_neg hc, if_neg hl, if_neg hr]

/-! ### The LEDGER transaction -/

section
variable {s : State} {tx : Tx} {op : Byte} {pk : Packet}

/-- What a packet's framing and its admission look at does not change with its reception. -/
theorem State.admits_received (b : Byte) {p : PortId} (a : Ask) : (s.received tx b).admits p a = s.admits p a := by
  have hport : ((s.received tx b).port p).mask = (s.port p).mask ∧ ((s.received tx b).port p).periodOk = (s.port p).periodOk := by
    by_cases hp : p = tx.port
    · subst hp
      rw [State.received_port_self]
      simp [Port.periodOk]
    · rw [State.received_port_of_ne s tx b p hp]
      exact ⟨rfl, rfl⟩
  have h1 : (s.received tx b).check1 p a = s.check1 p a := by
    unfold State.check1
    rw [hport.1]
  have h3 : ((s.received tx b).check3 a).2 = (s.check3 a).2 := by
    simp only [State.check3, State.checkLevel, apply_ite Prod.snd]
    rfl
  unfold State.admits
  rw [h1, h3, hport.2, State.closesCycle_of_ledger s (t := s.received tx b) rfl rfl 0]
  rfl

/-- A framed packet goes to its packet phase. -/
theorem State.ledgerCommand_framed (payload : Option (List Word × BitVec 16)) (h : s.framed tx op pk = true) :
    s.ledgerCommand tx op pk payload =
      ((s.received tx 0x7E).ledgerPacket tx.port op pk payload).modPace (fun x => { x with stage := orderPacket tx.port }) := by
  simp only [State.framed, Bool.and_eq_true, decide_eq_true_eq, Option.isNone_iff_eq_none] at h
  obtain ⟨⟨⟨⟨⟨htakes, hstage⟩, hup⟩, halien⟩, hcrc⟩, hfields⟩ := h
  simp only [State.takes, State.listens, Bool.and_eq_true] at htakes
  obtain ⟨hlistens, hintime⟩ := htakes
  have hbegin := State.begin_listens s tx 0x7E false (by simp [State.listens, hlistens]) (by decide)
  have hhold : s.pace.holder.isSome = true := by
    simp only [State.hears, Bool.and_eq_true] at hlistens
    exact hlistens.1.1.2
  have hop : opcodeOf pk op = op := by rw [opcodeOf, halien]
  have htaken : s.ledgerTaken tx op pk payload = (s.received tx 0x7E).ledgerPacket tx.port op pk payload := by
    unfold State.ledgerTaken
    rw [hup, hbegin]
    cases payload with
    | none => simp [State.inTime_received, hintime, hop]
    | some w => simp [State.inTime_received, hintime, hop]
  rw [State.ledgerCommand, htaken, hhold]
  simp [hlistens, hstage]

section
variable (h : s.framed tx op pk = true)
include h

theorem State.fieldsOk_framed : (s.received tx 0x7E).fieldsOk op pk = true := by
  simp only [State.framed, Bool.and_eq_true] at h
  exact h.2

theorem State.crc_framed : pk.crc = crc16 (packetBytes pk op) := by
  simp only [State.framed, Bool.and_eq_true, beq_iff_eq] at h
  exact h.1.2

/-- The packet phase of a packet that keeps framing and has no payload (R193 to R202). -/
theorem State.ledgerPacket_plain (payload : Option (List Word × BitVec 16)) (hn : payloadStones op pk = 0) :
    (s.received tx 0x7E).ledgerPacket tx.port op pk payload =
      (s.received tx 0x7E).decidePacket tx.port (askOf tx.port op pk []) := by
  simp only [State.ledgerPacket, State.crc_framed h, State.fieldsOk_framed h, hn, ne_eq, not_true, if_false, if_true]

/-- With a payload to come. -/
theorem State.ledgerPacket_opens (hn : payloadStones op pk ≠ 0) :
    (s.received tx 0x7E).ledgerPacket tx.port op pk none = (s.received tx 0x7E).openUpload tx.port op pk := by
  simp only [State.ledgerPacket, State.crc_framed h, hn, ne_eq, not_true, if_false]

/-- With a payload that has come. -/
theorem State.ledgerPacket_closes (hn : payloadStones op pk ≠ 0) (w : List Word) (crc : BitVec 16) {u : Upload}
    (hu : (((s.received tx 0x7E).openUpload tx.port op pk).port tx.port).upload = some u) :
    (s.received tx 0x7E).ledgerPacket tx.port op pk (some (w, crc)) =
      ((s.received tx 0x7E).openUpload tx.port op pk).closeUpload tx.port u w crc := by
  simp only [State.ledgerPacket, State.crc_framed h, hn, hu, ne_eq, not_true, if_false]

end

/-- R199: a packet whose payload is still to come is admitted provisionally. -/
theorem State.openUpload_admitted {p : PortId} (hfields : s.fieldsOk op pk = true) (hadm : s.admits p (askOf p op pk []) = true) :
    ∃ (t : State) (o : Op) (k : Fin 256), s.Admitted (askOf p op pk []) k o t
      ∧ s.openUpload p op pk = (t.addOp o).modPort p (fun x => { x with
          upload := some { op := op, pkt := pk, state := .admitted o.id (s.sameSeq (askOf p op pk [])) } }) := by
  obtain ⟨t, o, k, h, hfacts⟩ := State.admitPacket_admitted rfl hadm
  refine ⟨t, o, k, hfacts, ?_⟩
  unfold State.openUpload
  rw [hfields, h]
  rfl

end

/-- What stands before the commit of the packet `pk` from port `p`: its operation `o`, not among the others yet, and the
state `u` with its charge, its yard slot, and its name taken. -/
structure State.ToCommit (s : State) (p : PortId) (op : Byte) (pk : Packet) (k : Fin 256) (o : Op) (u : State) : Prop where
  rest   : u = { s with ports := u.ports, subs := u.subs, ledger := u.ledger, freeCtr := u.freeCtr }
  ports  : ∀ q, q ≠ p → u.port q = s.port q
  mask   : (u.port p).mask = (s.port p).mask
  ops    : u.ledger.ops = s.ledger.ops
  nextId : u.ledger.nextId = o.id
  subs   : u.subs = (if ledgerOnly op then s else s.modSub o.sub (fun x => x.charged o.charge)).subs
  slot   : k ∈ s.freeSlots
  built  : o = { s.opOf (askOf p op pk []) k with id := o.id, colour := o.colour, charge := o.charge, yard := o.yard,
                                                   payload := o.payload, src := o.src, bad := o.bad }
  free   : ledgerOnly op = true → o.colour = .none ∧ o.charge = 0
  charge : ledgerOnly op = false → o.charge = s.chargeOf op pk.count.toNat ∧ some o.colour = (s.sub o.sub).colourOf o.charge
  yard   : takesYard op = true → ∃ y ∈ s.freeYardSlots, o.yard = some y
  noYard : takesYard op = false → o.yard = none

section
variable {s : State} {p : PortId} {op : Byte} {pk : Packet} {k : Fin 256} {o : Op} {t : State}

/-- Without a payload, admission itself stands before the commit. -/
theorem State.Admitted.toCommit (h : s.Admitted (askOf p op pk []) k o t) : s.ToCommit p op pk k o t where
  rest := by rw [h.rest]
  ports := fun q _ => by rw [h.rest]; rfl
  mask := by rw [h.rest]; rfl
  ops := by rw [h.rest]
  nextId := by rw [h.rest, h.built]; rfl
  subs := by
    have hsub : o.sub = (askOf p op pk []).sub := by rw [h.built]; rfl
    rw [h.subs, hsub]
    rfl
  slot := h.slot
  built := by rw [h.built]
  free := h.free
  charge := fun hl => by
    have hsub : o.sub = (askOf p op pk []).sub := by rw [h.built]; rfl
    rw [hsub]
    exact h.charge hl
  yard := h.yard
  noYard := h.noYard

/-- The provisional operation has left its place; its new name is the next. -/
def State.renamed (t : State) (p : PortId) (o : Op) : State :=
  { t with
    ports := (t.modPort p (fun x => { x with upload := none })).ports,
    ledger := { t.ledger with nextId := t.ledger.nextId + 1,
                              yard := t.ledger.yard.map (fun e => if e.owner == o.id then { e with owner := t.ledger.nextId + 1 } else e) } }

/-- With its payload, the provisional operation is about to commit under its new name. -/
theorem State.Admitted.toCommit_renamed (h : s.Admitted (askOf p op pk []) k o t) (payload : List Word) (src : BitVec 32)
    (bad : Bool) : s.ToCommit p op pk k { o with id := s.ledger.nextId + 1, payload := payload, src := src, bad := bad }
      (t.renamed p o) := by
  have hc := h.toCommit
  have hport : ∀ q, (t.renamed p o).port q = (t.modPort p (fun x => { x with upload := none })).port q := fun _ => rfl
  refine ⟨?_, fun q hq => ?_, ?_, hc.ops, ?_, hc.subs, hc.slot, ?_, hc.free, hc.charge, hc.yard, hc.noYard⟩
  · rw [State.renamed, h.rest]
  · rw [hport, State.modPort_port_of_ne _ p _ q hq]
    exact hc.ports q hq
  · rw [hport, State.modPort_port_self]
    exact hc.mask
  · rw [h.rest]
    rfl
  · rw [h.built]

theorem Sub.charged_dedup (x : Sub) (n : Nat) : (x.charged n).dedup = x.dedup := by
  unfold Sub.charged
  grind

/-- No entry of the memory is newer than the packet's look at it (R224). -/
theorem State.twinOf_sameSeq {a : Ask} {v : State} (hdedup : (v.sub o.sub).dedup = (s.sub a.sub).dedup) (hseq : o.seq = a.pk.seq) :
    v.twinOf o (s.sameSeq a) = none := by
  unfold State.twinOf State.sameSeq
  rw [hdedup, hseq, List.find?_eq_none]
  intro d hd
  simp only [Bool.and_eq_true, beq_iff_eq, Bool.not_eq_true', not_and, Bool.not_eq_false, List.contains_iff_mem]
  intro he
  exact List.mem_map_of_mem (List.mem_filter.2 ⟨List.mem_reverse.1 hd, beq_iff_eq.2 he⟩)

/-- A fresh operation that has joined the others is found under its name. -/
theorem State.findOp_addOp (hs : s.ledgerOk = true) (hops : t.ledger.ops = s.ledger.ops) (hid : o.id = s.ledger.nextId) :
    (t.addOp o).op? o.id = some o ∧ (t.addOp o).ledger.ops.filter (fun x => x.id != o.id) = s.ledger.ops := by
  obtain ⟨-, -, hlt⟩ := (State.ledgerOk_iff s).1 hs
  have hne : ∀ x ∈ s.ledger.ops, x.id ≠ o.id := fun x hx he => by
    have := hlt x hx
    omega
  have hadd : (t.addOp o).ledger.ops = s.ledger.ops ++ [o] := by rw [← hops]; rfl
  refine ⟨?_, ?_⟩
  · have hn : s.ledger.ops.find? (fun x => x.id == o.id) = none := List.find?_eq_none.2 fun x hx => by simpa using hne x hx
    show (t.addOp o).ledger.ops.find? (fun x => x.id == o.id) = some o
    rw [hadd, List.find?_append, hn]
    simp
  · rw [hadd, List.filter_append, List.filter_eq_self.2 fun x hx => by simpa using hne x hx]
    simp

/-- R200, R224: the good payload of a packet admitted provisionally commits it. -/
theorem State.closeUpload_admitted (hs : s.ledgerOk = true) (h : s.Admitted (askOf p op pk []) k o t) (w : List Word)
    (crc : BitVec 16) (hlen : payloadStones op pk ≤ w.length) (hcrc : crc = crc16 ((w.take (payloadStones op pk)).flatMap be64)) :
    State.closeUpload ((t.addOp o).modPort p (fun x => { x with
          upload := some { op := op, pkt := pk, state := .admitted o.id (s.sameSeq (askOf p op pk [])) } })) p
        { op := op, pkt := pk, state := .admitted o.id (s.sameSeq (askOf p op pk [])) } w crc =
      ((t.renamed p o).commit { o with
        id := s.ledger.nextId + 1, payload := if op = opLay then w.take (payloadStones op pk) else [],
        src := (haulSrc op w).1, bad := (haulSrc op w).2 }).answer p .ok (admittedReceipt o) := by
  have hc := h.toCommit
  have hid : o.id = s.ledger.nextId := by rw [h.built]; rfl
  have hsub : o.sub = (askOf p op pk []).sub := by rw [h.built]; rfl
  have hseq : o.seq = pk.seq := by rw [h.built]; rfl
  obtain ⟨hfind, hdrop⟩ := State.findOp_addOp (t := t) hs hc.ops hid
  have hdedup : (t.sub o.sub).dedup = (s.sub (askOf p op pk []).sub).dedup := by
    rw [State.sub, hc.subs, ← hsub]
    split
    · rfl
    · show ((s.modSub o.sub (fun u => u.charged o.charge)).sub o.sub).dedup = _
      rw [State.modSub_sub_self, Sub.charged_dedup]
  have htwin := State.twinOf_sameSeq (v := ((t.addOp o).modPort p (fun x => { x with
          upload := some { op := op, pkt := pk, state := .admitted o.id (s.sameSeq (askOf p op pk [])) } }))) hdedup hseq
  unfold State.closeUpload
  simp only [Nat.not_lt.2 hlen, if_false, hcrc, ne_eq, not_true]
  have hfind2 := fun f : Port → Port => (show ((t.addOp o).modPort p f).op? o.id = some o from hfind)
  rw [hfind2]
  dsimp only
  rw [htwin]
  dsimp only
  rw [State.modPort_modPort, State.commitOp, hfind2]
  dsimp only
  have hu : (((t.addOp o).modPort p (fun x => { x with upload := none })).dropOp o.id).modLedger (fun l => { l with
      yard := l.yard.map (fun e => if e.owner == o.id then { e with owner := t.ledger.nextId + 1 } else e) }) = t.renamed p o := by
    unfold State.dropOp
    show ({ t with
      ports := _,
      ledger := { t.ledger with
        ops := (t.addOp o).ledger.ops.filter (fun x => x.id != o.id), nextId := _, yard := _ } } : State) = _
    rw [hdrop, ← hc.ops]
    rfl
  have hn : s.ledger.nextId + 1 = t.ledger.nextId + 1 := by rw [hc.nextId, hid]
  rw [hn, ← hu]
  rfl

/-- R220, R225, R256: the operation of a committed packet, and what its commit leaves of the block. -/
theorem State.ToCommit.queued {u : State} (h : s.ToCommit p op pk k o u) :
    (u.joined o).ledger.ops = s.ledger.ops ++ [o.queuedAt s.stamp] ∧ (u.joined o).ledger.nextId = o.id + 1
    ∧ (u.joined o).sub o.sub =
        ((if ledgerOnly op then s.sub o.sub else (s.sub o.sub).charged o.charge).remember pk.seq o.id)
    ∧ (∀ i, i ≠ o.sub → (u.joined o).sub i = s.sub i)
    ∧ (∀ q, q ≠ p → (u.joined o).port q = s.port q)
    ∧ (∀ l, (u.joined o).replyOf p .ok l = s.replyOf p .ok l)
    ∧ u.joined o = { s with ports := u.ports, subs := (u.joined o).subs, ledger := (u.joined o).ledger,
                            trace := (u.joined o).trace, freeCtr := u.freeCtr } := by
  have hj := u.joined_joined o
  have hrest := h.rest
  have hstamp : u.stamp = s.stamp := by rw [hrest]; rfl
  have heq : u.joined o = { s with ports := u.ports, subs := (u.joined o).subs, ledger := (u.joined o).ledger,
                                    trace := (u.joined o).trace, freeCtr := u.freeCtr } := by
    rw [hj.rest, hrest]
  have hops : (u.joined o).ledger.ops = s.ledger.ops ++ [o.queuedAt s.stamp] := by rw [hj.ops, h.ops, hstamp]
  have hsubs : ∀ i, (u.joined o).sub i = (u.modSub o.sub (fun x => x.remember o.seq o.id)).sub i := fun i => by
    rw [State.sub, hj.subs]
    rfl
  have husub : ∀ i, u.sub i = (if ledgerOnly op then s else s.modSub o.sub (fun x => x.charged o.charge)).sub i := fun i => by
    rw [State.sub, h.subs]
    rfl
  have hseq : o.seq = pk.seq := by rw [h.built]; rfl
  refine ⟨hops, by rw [hj.nextId, h.nextId], ?_, fun i hi => ?_, fun q hq => ?_, fun l => ?_, heq⟩
  · rw [hsubs, State.modSub_sub_self, husub, hseq]
    split
    · rfl
    · rw [State.modSub_sub_self]
  · rw [hsubs, State.modSub_sub_of_ne _ _ _ _ hi, husub]
    split
    · rfl
    · rw [State.modSub_sub_of_ne _ _ _ _ hi]
  · have : (u.joined o).port q = u.port q := by rw [heq]; rfl
    rw [this, h.ports q hq]
  · have hrec : ((u.joined o).recordsFor p) = s.recordsFor p := by
      have hport : (u.joined o).port p = u.port p := by rw [heq]; rfl
      unfold State.recordsFor
      rw [hops, hport, h.mask, List.filter_append]
      simp [Op.queuedAt]
    have hattn : (u.joined o).attn p = s.attn p := by rw [State.attn, hrec]; rfl
    have hdrives : (u.joined o).drives p = s.drives p := by rw [heq]; rfl
    have hboot : (u.joined o).bootBit = s.bootBit := by rw [heq]; rfl
    unfold State.replyOf State.replyFed
    rw [hattn, hdrives, hboot]

end

/-- R220: which command brings a packet. -/
theorem exec_packet {c : Instr} {tx : Tx} {op : Byte} {pk : Packet} {payload : Option (List Word × BitVec 16)} (s : State)
    (h : packetOf c = some (tx, op, pk, payload)) : exec c s = .next (s.ledgerCommand tx op pk payload) := by
  unfold packetOf at h
  split at h
  all_goals cases h
  all_goals rfl

/-- The state after a packet that was received has committed, its operation in `u.joined o`, and the receipt has gone. -/
def State.receipted (u : State) (p : PortId) (o : Op) : State :=
  ((u.joined o).answer p .ok (admittedReceipt o)).modPace (fun x => { x with stage := orderPacket p })

section
variable {s : State} {tx : Tx} {op : Byte} {pk : Packet}

/-- R199, R200: a framed packet that passes admission commits, with its payload or without one. -/
theorem State.ledgerCommand_commits {payload : Option (List Word × BitVec 16)} (hs : s.ledgerOk = true)
    (hframed : s.framed tx op pk = true) (hadm : s.admits tx.port (askOf tx.port op pk []) = true)
    (hc : op ≠ opCancel) (hl : op ≠ opLevelRaise) (hr : op ≠ opRegress) (hpay : payloadGood op pk payload = true) :
    ∃ (k : Fin 256) (o : Op) (u : State), (s.received tx 0x7E).ToCommit tx.port op pk k o u
      ∧ s.ledgerCommand tx op pk payload = u.receipted tx.port o
      ∧ o.id = s.ledger.nextId + (if payloadStones op pk = 0 then 0 else 1)
      ∧ o.payload = (if op = opLay then (payloadOf payload).take (payloadStones op pk) else [])
      ∧ (op = opHaul → o.src = ((payloadOf payload).headD 0).extractLsb' 32 32) := by
  have hadm2 : (s.received tx 0x7E).admits tx.port (askOf tx.port op pk []) = true := (State.admits_received _ _).trans hadm
  have hs2 : (s.received tx 0x7E).ledgerOk = true := hs
  rw [State.ledgerCommand_framed _ hframed]
  by_cases hn : payloadStones op pk = 0
  · obtain ⟨t, o, k, hpacket, h⟩ := State.admitPacket_admitted rfl hadm2
    have hop : o.opcode = op := by rw [h.built]; rfl
    rw [State.ledgerPacket_plain hframed _ hn]
    refine ⟨k, o, t, h.toCommit, ?_, ?_, ?_, ?_⟩
    · rw [State.decidePacket, hpacket]
      dsimp only
      rw [t.commit_joined (hop ▸ hc) (hop ▸ hl) (hop ▸ hr)]
      rfl
    · rw [h.built, if_pos hn]
      rfl
    · rw [h.built, hn]
      show (if op = opLay then [] else []) = _
      simp
    · rintro rfl
      cases hn
  · obtain ⟨t, o, k, h, hopen⟩ := State.openUpload_admitted (State.fieldsOk_framed hframed) hadm2
    have hop : o.opcode = op := by rw [h.built]; rfl
    simp only [payloadGood, Bool.or_eq_true, beq_iff_eq, hn, false_or] at hpay
    cases payload with
    | none => cases hpay
    | some wc =>
      obtain ⟨w, crc⟩ := wc
      simp only [Bool.and_eq_true, decide_eq_true_eq, beq_iff_eq] at hpay
      obtain ⟨hlen, hcrc⟩ := hpay
      have hclose := State.closeUpload_admitted hs2 h w crc hlen hcrc
      refine ⟨k, _, _, h.toCommit_renamed (if op = opLay then w.take (payloadStones op pk) else []) (haulSrc op w).1 (haulSrc op w).2,
        ?_, ?_, rfl, ?_⟩
      · rw [State.ledgerPacket_closes hframed hn w crc (by rw [hopen, State.modPort_port_self]), hopen, hclose,
          State.commit_joined _ (hop ▸ hc) (hop ▸ hl) (hop ▸ hr)]
        rfl
      · rw [if_neg hn]
        rfl
      · rintro rfl
        rfl

end

/-- What the operation of a packet takes from the packet. -/
theorem State.ToCommit.fields {s u : State} {p : PortId} {op : Byte} {pk : Packet} {k : Fin 256} {o : Op}
    (h : s.ToCommit p op pk k o u) :
    o.origin = .ledger k ∧ o.work = .waiting ∧ o.port = p ∧ o.opcode = op ∧ o.sub = (pk.sub.extractLsb' 0 5).toFin ∧ o.seq = pk.seq
    ∧ o.addr = pk.addr ∧ o.count = pk.count ∧ o.after = pk.after ∧ o.wait = pk.wait ∧ o.signal = pk.signal ∧ o.flags = pk.flags
    ∧ o.units = 0 ∧ o.latched = s.eventSet pk.wait ∧ o.state = .admitting := by
  rw [h.built]
  exact ⟨rfl, rfl, rfl, rfl, rfl, rfl, rfl, rfl, rfl, rfl, rfl, rfl, rfl, rfl, rfl⟩

/-! ### Replies -/

@[simp] theorem State.answer_reply (s : State) (p : PortId) (c : Cond) (data : List Byte) :
    ((s.answer p c data).port p).reply = s.replyOf p c data := by
  rw [State.answer, State.replyWith, State.modPort_port_self]
  rfl

theorem State.answer_port_of_ne (s : State) (p : PortId) (c : Cond) (data : List Byte) {q : PortId} (hq : q ≠ p) :
    (s.answer p c data).port q = s.port q := State.modPort_port_of_ne _ p _ q hq

/-- Reception changes nothing that a reply reports. -/
theorem State.replyFed_received (s : State) (tx : Tx) (b : Byte) (p : PortId) (c : Cond) (data : List Byte) (feed : Feed) :
    (s.received tx b).replyFed p c data feed = s.replyFed p c data feed := by
  have hmask : ((s.received tx b).port p).mask = (s.port p).mask := by
    by_cases hp : p = tx.port
    · subst hp
      rw [State.received_port_self]
      simp
    · rw [State.received_port_of_ne s tx b p hp]
  have hattn : (s.received tx b).attn p = s.attn p := by
    unfold State.attn State.recordsFor
    rw [hmask]
    rfl
  unfold State.replyFed
  rw [hattn]
  rfl

/-- Settles O36: what stands before the commit, and the commit. -/
theorem packetsAreQueued : Obligations.PacketsAreQueued := by
  refine ⟨fun c s tx op pk payload hs hpacket hc hl hr hpay hframed hadm => ?_, fun c s tx op pk hs hpacket hn hframed hadm => ?_⟩
  · obtain ⟨k, o, u, h, hexec, hid, hpayload, hsrc⟩ := State.ledgerCommand_commits hs hframed hadm hc hl hr hpay
    obtain ⟨hops, hnext, hsub, hothers, hports, hreply, hrest⟩ := h.queued
    obtain ⟨f1, f2, f3, f4, f5, f6, f7, f8, f9, f10, f11, f12, f13, f14, -⟩ := h.fields
    refine ⟨_, (exec_packet s hpacket).trans (congrArg Host.Outcome.next hexec), o.queuedAt s.stamp, k, hops, h.slot, f1, hid, hnext, rfl,
      f2, f3, f4, f5, f6, f7, f8, f9, f10, f11, f12, f13, rfl, f14, hpayload, hsrc, h.yard, h.noYard, h.free, h.charge, hothers, hsub,
      ?_, fun q hq => ?_, ?_⟩
    · show (((u.joined o).answer tx.port .ok (admittedReceipt o)).port tx.port).reply = _
      rw [State.answer_reply, hreply, State.replyOf, State.replyFed_received, admittedReceipt, Op.slot, f1]
      rfl
    · exact (State.answer_port_of_ne _ _ _ _ hq).trans ((hports q hq).trans (State.received_port_of_ne s tx _ q hq))
    · unfold State.receipted
      rw [hrest]
      exact ⟨rfl, rfl, rfl, rfl, rfl, rfl, rfl, rfl, rfl, rfl, rfl, rfl, rfl, rfl⟩
  · have hadm2 : (s.received tx 0x7E).admits tx.port (askOf tx.port op pk []) = true := (State.admits_received _ _).trans hadm
    obtain ⟨t, o, k, h, hopen⟩ := State.openUpload_admitted (State.fieldsOk_framed hframed) hadm2
    have hexec : s.ledgerCommand tx op pk none = ((t.addOp o).modPort tx.port (fun x => { x with
        upload := some { op := op, pkt := pk, state := .admitted o.id ((s.received tx 0x7E).sameSeq (askOf tx.port op pk [])) } })).modPace
          (fun x => { x with stage := orderPacket tx.port }) := by
      rw [State.ledgerCommand_framed _ hframed, State.ledgerPacket_opens hframed hn, hopen]
    have hcm := h.toCommit
    obtain ⟨f1, -, -, f4, f5, -, -, -, -, -, -, -, -, -, f15⟩ := hcm.fields
    have hid : o.id = s.ledger.nextId := by rw [h.built]; rfl
    have hup : takesYard op = true ∧ ledgerOnly op = false := by
      unfold payloadStones at hn
      split at hn
      · next he => exact he ▸ ⟨rfl, rfl⟩
      · split at hn
        · next he => exact he ▸ ⟨rfl, rfl⟩
        · exact absurd rfl hn
    obtain ⟨y, hy, hyard⟩ := h.yard hup.1
    obtain ⟨hcharge, -⟩ := h.charge hup.2
    have hsubs : ∀ i, t.sub i = (s.modSub o.sub (fun x => x.charged o.charge)).sub i := fun i => by
      rw [State.sub, hcm.subs, hup.2]
      rfl
    have hport : ∀ q, q ≠ tx.port → t.port q = s.port q := fun q hq =>
      (hcm.ports q hq).trans (State.received_port_of_ne s tx _ q hq)
    have hself : t.port tx.port = (s.received tx 0x7E).port tx.port := by
      rw [h.rest]
      rfl
    refine ⟨_, (exec_packet s hpacket).trans (congrArg Host.Outcome.next hexec), o, k, ?_, h.slot, f1, hid, f15, f4, f5, hcharge,
      ⟨y, hy, hyard⟩, ?_, fun i hi => ?_,
      ⟨{ op := op, pkt := pk, state := .admitted o.id ((s.received tx 0x7E).sameSeq (askOf tx.port op pk [])) }, ?_, rfl, rfl, _, rfl⟩,
      ?_, fun q hq => ?_, ?_⟩
    · show t.ledger.ops ++ [o] = _
      rw [hcm.ops]
      rfl
    · exact (hsubs o.sub).trans (State.modSub_sub_self _ _ _)
    · exact (hsubs i).trans (State.modSub_sub_of_ne _ _ _ _ hi)
    · rw [State.modPace_port, State.modPort_port_self]
    · rw [State.modPace_port, State.modPort_port_self]
      show (t.port tx.port).reply = _
      rw [hself, State.received_port_self]
      simp
    · rw [State.modPace_port, State.modPort_port_of_ne _ tx.port _ q hq]
      exact hport q hq
    · rw [h.rest]
      exact ⟨rfl, rfl, rfl, rfl⟩

end Sys2Proof.Machine
end

section
/-! PROOFS. What the end of an operation leaves alone (R181 to R183, R208), and CANCEL (R246, R247). -/
namespace Sys2Proof.Machine

/-! ### Ends of one operation leave the others and much of the block alone -/

/-- What no end of an operation touches. -/
def State.fixed (s : State) : Pace × Vector Gal 4 × Vector Gate 66 × Life × Plinth × Boot × Pins × List Host.Cell × List Instr :=
  (s.pace, s.gals, s.gates, s.life, s.plinth, s.boot, s.pins, s.mem, s.pending)

/-- What an operation is: name, place, subscriber, opcode and sequence, whatever it has come to. -/
def Op.card (o : Op) : Nat × Origin × SubId × Byte × Byte := (o.id, o.origin, o.sub, o.opcode, o.seq)

/-- Of `z`, what no end touches stands in `s`, and so does every operation but `i`. -/
structure State.Spares (i : Nat) (z s : State) : Prop where
  fixed : s.fixed = z.fixed
  ops   : ∀ x ∈ z.ledger.ops, x.id ≠ i → ∃ y ∈ s.ledger.ops, y.card = x.card

theorem State.Spares.refl (i : Nat) (s : State) : s.Spares i s := ⟨rfl, fun x hx _ => ⟨x, hx, rfl⟩⟩

section
variable {i : Nat} {s z : State}

theorem State.Spares.same {t : State} (h : z.Spares i s) (h1 : t.fixed = s.fixed) (h2 : t.ledger.ops = s.ledger.ops) : z.Spares i t :=
  ⟨h1.trans h.fixed, fun x hx hi => h2 ▸ h.ops x hx hi⟩

/-- A change of operations that leaves each one's card. -/
theorem State.Spares.mapOps (h : z.Spares i s) (f : Op → Op) (hf : ∀ o, (f o).card = o.card) :
    z.Spares i (s.modLedger (fun l => { l with ops := l.ops.map f })) :=
  ⟨h.fixed, fun x hx hi => by
    obtain ⟨y, hy, hc⟩ := h.ops x hx hi
    exact ⟨f y, List.mem_map_of_mem hy, (hf y).trans hc⟩⟩

theorem State.spares_modLedger (f : Ledger → Ledger) (h1 : (f s.ledger).ops = s.ledger.ops) (h : z.Spares i s) :
    z.Spares i (s.modLedger f) := h.same rfl h1

theorem State.spares_modPort (p : PortId) (f : Port → Port) (h : z.Spares i s) : z.Spares i (s.modPort p f) := h.same rfl rfl

theorem State.spares_modBank (b : BankId) (f : Bank → Bank) (h : z.Spares i s) : z.Spares i (s.modBank b f) := h.same rfl rfl

theorem State.spares_modSub (j : SubId) (f : Sub → Sub) (h : z.Spares i s) : z.Spares i (s.modSub j f) := h.same rfl rfl

theorem State.spares_modPower (f : Power → Power) (h : z.Spares i s) : z.Spares i (s.modPower f) := h.same rfl rfl

theorem State.spares_modUpkeep (f : Upkeep → Upkeep) (h : z.Spares i s) : z.Spares i (s.modUpkeep f) := h.same rfl rfl

theorem State.spares_modGlob (f : Glob → Glob) (h : z.Spares i s) : z.Spares i (s.modGlob f) := h.same rfl rfl

theorem State.spares_modPartner (a : AnnexId) (p : PartnerId) (f : Partner → Partner) (h : z.Spares i s) :
    z.Spares i (s.modPartner a p f) := h.same rfl rfl

theorem State.spares_addTrace (action : Byte) (slot : Option (Fin 256)) (bank : Nat) (arg : BitVec 16) (h : z.Spares i s) :
    z.Spares i (s.addTrace action slot bank arg) := h.same rfl rfl

theorem State.spares_modOp (id : Nat) (f : Op → Op) (hf : ∀ o, (f o).card = o.card) (h : z.Spares i s) : z.Spares i (s.modOp id f) :=
  h.mapOps _ fun o => by
    split
    · exact hf o
    · rfl

theorem State.spares_dropOp (h : z.Spares i s) : z.Spares i (s.dropOp i) :=
  ⟨h.fixed, fun x hx hi => by
    obtain ⟨y, hy, hc⟩ := h.ops x hx hi
    have hid : y.id = x.id := congrArg Prod.fst hc
    exact ⟨y, List.mem_filter.2 ⟨hy, by simpa [hid] using hi⟩, hc⟩⟩

theorem State.spares_release (id : Nat) (bank : Nat) (h : z.Spares i s) : z.Spares i (s.release id bank) := by
  unfold State.release
  split
  · exact spares_addTrace _ _ _ _ (spares_modOp _ _ (fun _ => rfl) h)
  · exact h

theorem State.spares_leaveRecord {o : Op} (ho : o.id = i) (result : Byte) (h : z.Spares i s) : z.Spares i (s.leaveRecord o result) := by
  have h1 : z.Spares i (s.dedupResult o result) := spares_modSub _ _ h
  unfold State.leaveRecord
  dsimp only
  rw [ho]
  split
  · exact spares_dropOp (spares_modLedger _ rfl h1)
  · exact spares_modLedger _ rfl (spares_modOp _ _ (fun _ => rfl) h1)

theorem State.spares_postDirect {o : Op} (ho : o.id = i) (p : PortId) (result : Byte) (h : z.Spares i s) :
    z.Spares i (s.postDirect p o result) := by
  unfold State.postDirect
  rw [ho]
  exact spares_dropOp (spares_modGlob _ (spares_modPort _ _ h))

theorem State.spares_raiseEvent (e : Byte) (h : z.Spares i s) : z.Spares i (s.raiseEvent e) := by
  unfold State.raiseEvent
  split
  · exact spares_modLedger _ rfl h
  · exact h

theorem State.spares_latchWaits (h : z.Spares i s) : z.Spares i s.latchWaits :=
  h.mapOps _ fun o => by
    split
    · rfl
    · rfl

theorem State.spares_endReservation (id : Nat) (h : z.Spares i s) : z.Spares i (s.endReservation id) := by
  unfold State.endReservation
  split
  · exact spares_modPower _ h
  · exact h

theorem State.op?_id {id : Nat} {o : Op} (h : s.op? id = some o) : o.id = id :=
  beq_iff_eq.1 (List.find?_some (p := fun x : Op => x.id == id) h)

theorem State.op?_mem {id : Nat} {o : Op} (h : s.op? id = some o) : o ∈ s.ledger.ops := List.mem_of_find?_eq_some h

/-- What the end of `o` releases before its record: the reservation, and its yard slots but for what a FETCH has read. -/
def State.letGo (s : State) (o : Op) (result : Byte) : State :=
  let s1 := (s.traceOp tComplete o ((0 : BitVec 8) ++ result)).endReservation o.id
  if o.opcode == opFetch && !o.isDirect && o.state != .queued then s1 else s1.freeYard o.id

theorem State.completeWith_direct {id : Nat} {o : Op} {p : PortId} (h : s.op? id = some o) (hp : o.origin = .direct p) (latch : Bool)
    (result : Byte) : State.completeWith latch s id result =
      if latch then ((s.letGo o result).postDirect p o result).latchWaits else (s.letGo o result).postDirect p o result := by
  have hid := State.op?_id h
  subst hid
  have hd : o.isDirect = true := by rw [Op.isDirect, hp]
  unfold State.completeWith State.letGo
  rw [h]
  simp only [hp, hd, if_true]

theorem State.completeWith_ledger {id : Nat} {o : Op} {k : Fin 256} (h : s.op? id = some o) (hk : o.origin = .ledger k) (latch : Bool)
    (result : Byte) : State.completeWith latch s id result =
      if latch then (((s.letGo o result).leaveRecord o result).raiseEvent o.signal).latchWaits
      else ((s.letGo o result).leaveRecord o result).raiseEvent o.signal := by
  have hid := State.op?_id h
  subst hid
  have hd : o.isDirect = false := by rw [Op.isDirect, hk]
  unfold State.completeWith State.letGo
  rw [h]
  simp only [hk, hd, Bool.false_eq_true, if_false]

theorem State.spares_letGo (o : Op) (result : Byte) (h : z.Spares i s) : z.Spares i (s.letGo o result) := by
  have h1 := spares_endReservation o.id (spares_addTrace tComplete o.slot o.traceBank ((0 : BitVec 8) ++ result) h)
  unfold State.letGo
  dsimp only
  split
  · exact h1
  · exact spares_modLedger _ rfl h1

theorem State.spares_completeWith (latch : Bool) (result : Byte) (h : z.Spares i s) :
    z.Spares i (State.completeWith latch s i result) := by
  cases ho : s.op? i with
  | none =>
    unfold State.completeWith
    rwa [ho]
  | some o =>
    have hid := State.op?_id ho
    have h1 := spares_letGo o result h
    cases hp : o.origin with
    | direct p =>
      rw [State.completeWith_direct ho hp]
      have h2 := spares_postDirect hid p result h1
      split
      · exact spares_latchWaits h2
      · exact h2
    | ledger k =>
      rw [State.completeWith_ledger ho hp]
      have h2 := spares_raiseEvent o.signal (spares_leaveRecord hid result h1)
      split
      · exact spares_latchWaits h2
      · exact h2

theorem State.spares_slotShows (b : BankId) (st : OpState) (h : z.Spares i s) : z.Spares i (s.slotShows b st) := by
  unfold State.slotShows
  grind [← spares_modOp, Op.card]

theorem State.spares_resumeNow (b : BankId) (h : z.Spares i s) : z.Spares i (s.resumeNow b) := by
  unfold State.resumeNow State.traceSusp
  have h1 := fun f st => spares_slotShows b st (spares_modBank b f h)
  split
  · exact spares_addTrace _ _ _ _ (h1 _ _)
  · exact h1 _ _

theorem State.spares_leaveLay (b : BankId) (op : Nat) (h : z.Spares i s) : z.Spares i (s.leaveLay b op) := by
  unfold State.leaveLay
  dsimp only
  have h1 := fun f => spares_release op b.val (spares_modBank b f h)
  split
  · exact spares_resumeNow b (h1 _)
  · exact h1 _

theorem State.spares_dropHeldLay (id : Nat) (h : z.Spares i s) : z.Spares i (s.dropHeldLay id) := by
  unfold State.dropHeldLay
  split
  · exact spares_leaveLay _ _ h
  · exact h

theorem State.spares_closeClear (b : BankId) (c : ClearRun) (h : z.Spares i s) : z.Spares i (s.closeClear b c) := by
  unfold State.closeClear
  exact spares_release _ _ (spares_modBank _ _ h)

theorem State.spares_freeWindow (o : Op) (r : Byte) (h : z.Spares i s) : z.Spares i (s.freeWindow o r) := by
  unfold State.freeWindow State.freeOwned State.freePartner State.lastResult
  grind [← spares_modPartner]

theorem State.dutyBack_ledger (o : Op) : (s.dutyBack o).ledger = s.ledger := by
  unfold State.dutyBack
  split
  · rfl
  · split
    · rfl
    · rfl
    · rfl

theorem State.spares_dutyBack (o : Op) (h : z.Spares i s) : z.Spares i (s.dutyBack o) := by
  unfold State.dutyBack
  grind [← spares_modBank, ← spares_modUpkeep]

theorem State.spares_endMarked (t : Op) (h : z.Spares t.id s) : z.Spares t.id (s.endMarked t) := by
  unfold State.endMarked
  exact spares_dutyBack t (spares_completeWith _ _ (spares_freeWindow _ _ (spares_dropHeldLay _ (spares_modOp _ _ (fun _ => rfl) h))))

theorem State.spares_markOp (t : Op) (h : z.Spares t.id s) : z.Spares t.id (s.markOp t) := by
  unfold State.markOp
  split
  · exact spares_endMarked t h
  · split
    · exact spares_endMarked t (spares_closeClear _ _ h)
    · exact spares_modOp _ _ (fun _ => rfl) h

/-! ### The record of an operation that has ended -/

/-- An operation as the record that its end leaves. -/
def Op.asRecord (x : Op) (result : Byte) (progress : BitVec 16) (stamp : BitVec 32) (done : Nat) : Op :=
  { x with state := .complete, result := result, progress := progress, stamp := stamp, completed := done, age := 0, tokens := 0 }

theorem State.letGo_ops (o : Op) (result : Byte) : (s.letGo o result).ledger.ops = s.ledger.ops := by
  unfold State.letGo State.endReservation
  dsimp only
  split
  · split
    · rfl
    · rfl
  · split
    · rfl
    · rfl

theorem State.leaveRecord_ops {o : Op} (h : o.house = false) (result : Byte) : ∃ (progress : BitVec 16) (done : Nat),
    (s.leaveRecord o result).ledger.ops =
      s.ledger.ops.map (fun x => if x.id == o.id then x.asRecord result progress s.stamp done else x) := by
  refine ⟨s.progressOf o true, s.ledger.nextDone, ?_⟩
  unfold State.leaveRecord
  rw [h]
  rfl

theorem State.raiseEvent_ops (e : Byte) : (s.raiseEvent e).ledger.ops = s.ledger.ops := by
  unfold State.raiseEvent
  split
  · rfl
  · rfl

/-- R208: the record that the end of a ledger operation leaves. -/
theorem State.completeWith_record {id : Nat} {o : Op} {k : Fin 256} (h : s.op? id = some o) (hk : o.origin = .ledger k)
    (hhouse : o.sub ≠ 31) (latch : Bool) (result : Byte) :
    ∃ x ∈ (State.completeWith latch s id result).ledger.ops, x.card = o.card ∧ x.state = .complete ∧ x.result = result
      ∧ x.units = o.units ∧ x.stamp = s.stamp ∧ x.tokens = 0 := by
  have hid := State.op?_id h
  have hmem := State.op?_mem h
  have hnot : o.house = false := by simp [Op.house, hhouse]
  have hstamp : (s.letGo o result).stamp = s.stamp :=
    congrArg (fun f => (Prod.fst f).devtime.extractLsb' 20 32) (State.spares_letGo o result (.refl 0 s)).fixed
  obtain ⟨progress, done, hops⟩ := State.leaveRecord_ops (s := s.letGo o result) hnot result
  have hrec : o.asRecord result progress s.stamp done ∈ (((s.letGo o result).leaveRecord o result).raiseEvent o.signal).ledger.ops := by
    rw [State.raiseEvent_ops, hops, hstamp, State.letGo_ops]
    exact List.mem_map.2 ⟨o, hmem, by rw [beq_self_eq_true, if_pos rfl]⟩
  refine ⟨o.asRecord result progress s.stamp done, ?_, rfl, rfl, rfl, rfl, rfl, rfl⟩
  rw [State.completeWith_ledger h hk]
  split
  · exact List.mem_map.2 ⟨_, hrec, rfl⟩
  · exact hrec

/-- Where an operation has ended without a latch, every operation of its name is a record with its result. -/
theorem State.completeWith_all {id : Nat} {o : Op} (h : s.op? id = some o) (result : Byte) :
    ∀ x ∈ (State.completeWith false s id result).ledger.ops, x.id = id → x.state = .complete ∧ x.result = result := by
  have hid := State.op?_id h
  intro x hx hxi
  have hdrop : ∀ t : State, x ∈ (t.dropOp o.id).ledger.ops → False := fun t hm => by
    have := (List.mem_filter.1 (show x ∈ t.ledger.ops.filter (fun y => y.id != o.id) from hm)).2
    simp [hxi, hid] at this
  cases hp : o.origin with
  | direct p =>
    rw [State.completeWith_direct h hp] at hx
    exact absurd hx (hdrop _)
  | ledger k =>
    rw [State.completeWith_ledger h hp] at hx
    rw [if_neg Bool.false_ne_true, State.raiseEvent_ops] at hx
    unfold State.leaveRecord at hx
    dsimp only at hx
    split at hx
    · exact absurd hx (hdrop _)
    · obtain ⟨y, -, rfl⟩ := List.mem_map.1 (show x ∈ List.map _ _ from hx)
      split at hxi
      · next he => 
        rw [if_pos he]
        exact ⟨rfl, rfl⟩
      · next he => exact absurd (by rw [hxi, hid]; exact beq_self_eq_true _) he

/-- Without a latch, the end of an operation leaves the others as they are. -/
theorem State.completeWith_others {id : Nat} (result : Byte) {x : Op} (hx : x ∈ (State.completeWith false s id result).ledger.ops)
    (hne : x.id ≠ id) : x ∈ s.ledger.ops := by
  cases h : s.op? id with
  | none =>
    unfold State.completeWith at hx
    rwa [h] at hx
  | some o =>
    have hid := State.op?_id h
    cases hp : o.origin with
    | direct p =>
      rw [State.completeWith_direct h hp, if_neg Bool.false_ne_true] at hx
      have hx2 := (List.mem_filter.1 (show x ∈ (s.letGo o result).ledger.ops.filter (fun y => y.id != o.id) from hx)).1
      rwa [State.letGo_ops] at hx2
    | ledger k =>
      rw [State.completeWith_ledger h hp, if_neg Bool.false_ne_true, State.raiseEvent_ops] at hx
      unfold State.leaveRecord at hx
      dsimp only at hx
      split at hx
      · have hx2 := (List.mem_filter.1 (show x ∈ (s.letGo o result).ledger.ops.filter (fun y => y.id != o.id) from hx)).1
        rwa [State.letGo_ops] at hx2
      · obtain ⟨y, hy, rfl⟩ := List.mem_map.1 (show x ∈ List.map _ (s.letGo o result).ledger.ops from hx)
        rw [State.letGo_ops] at hy
        split at hne
        · next he => exact absurd ((beq_iff_eq.1 he).trans hid) hne
        · next he =>
          rw [if_neg he]
          exact hy

/-- Names tell operations apart. -/
theorem State.op?_of_mem (hs : s.ledgerOk = true) {o : Op} (ho : o ∈ s.ledger.ops) : s.op? o.id = some o := by
  obtain ⟨hnames, -, -⟩ := (State.ledgerOk_iff s).1 hs
  cases h : s.op? o.id with
  | none => exact absurd (beq_self_eq_true o.id) (List.find?_eq_none.1 h o ho)
  | some x => rw [List.inj_on_of_nodup_map hnames (State.op?_mem h) ho (State.op?_id h)]

theorem State.op?_modOp (hs : s.ledgerOk = true) {o : Op} (ho : o ∈ s.ledger.ops) (f : Op → Op) (hf : ∀ x, (f x).key = x.key) :
    (s.modOp o.id f).op? o.id = some (f o) := by
  have hid : (f o).id = o.id := congrArg Prod.fst (hf o)
  have hmem : f o ∈ (s.modOp o.id f).ledger.ops := List.mem_map.2 ⟨o, ho, by rw [beq_self_eq_true, if_pos rfl]⟩
  have hok := State.ledgerOk_of_thins (State.thins_modOp o.id f (fun x => Prod.mk.inj (hf x)) (.refl s)) hs
  rw [← hid]
  exact hid ▸ State.op?_of_mem hok hmem

end

/-! ### CANCEL -/

/-- What a CANCEL does to its target, and its UNITS. -/
def State.cancelled (s : State) (o : Op) : State × Nat := match s.cancelTarget o.addr with
  | none => (s, 0)
  | some t => match cancelAct t with
    | .ends => ((State.completeWith false s t.id rCancelled).dutyBack t, 1)
    | .marks => (s.markOp t, 1)
    | .nothing => (s, 0)

theorem State.cancel_eq (s : State) (o : Op) : s.cancel o = State.completeWith false
    ((s.cancelled o).1.modOp o.id (fun x => { x with units := BitVec.ofNat 32 (s.cancelled o).2 })) o.id rDone := rfl

section
variable {s : State} {o : Op} {k : Fin 256} (hs : s.ledgerOk = true) (ho : o ∈ s.ledger.ops) (hop : o.opcode = opCancel)
include hs ho hop

omit hs ho hop in
theorem State.cancelTarget_mem {a : BitVec 32} {t : Op} (h : s.cancelTarget a = some t) : s.op? t.id = some t := by
  obtain ⟨d, -, hd⟩ := Option.bind_eq_some_iff.1 h
  rw [State.op?_id hd]
  exact hd

/-- A CANCEL does not end itself. -/
theorem State.cancelTarget_ne {t : Op} (h : s.cancelTarget o.addr = some t) (ha : cancelAct t ≠ .nothing) : o.id ≠ t.id := by
  intro he
  have h1 := State.op?_of_mem hs ho
  rw [he, State.cancelTarget_mem h] at h1
  obtain rfl := Option.some.inj h1
  exact ha (by simp [cancelAct, hop])

theorem State.cancelled_spares : (∃ i, i ≠ o.id ∧ s.Spares i (s.cancelled o).1) ∧ ((s.cancelled o).2 = 0 ∨ (s.cancelled o).2 = 1) := by
  have hno : ∃ i, i ≠ o.id ∧ s.Spares i s := ⟨o.id + 1, Nat.succ_ne_self _, .refl _ s⟩
  unfold State.cancelled
  split
  · exact ⟨hno, .inl rfl⟩
  · next t ht =>
    split
    · next ha =>
      have hne := State.cancelTarget_ne hs ho hop ht (by rw [ha]; exact nofun)
      exact ⟨⟨t.id, hne.symm, State.spares_dutyBack t (State.spares_completeWith _ _ (.refl _ s))⟩, .inr rfl⟩
    · next ha =>
      have hne := State.cancelTarget_ne hs ho hop ht (by rw [ha]; exact nofun)
      exact ⟨⟨t.id, hne.symm, State.spares_markOp t (.refl _ s)⟩, .inr rfl⟩
    · exact ⟨hno, .inl rfl⟩

omit ho hop in
theorem State.cancelled_ledgerOk : (s.cancelled o).1.ledgerOk = true := by
  refine State.ledgerOk_of_thins ?_ hs
  unfold State.cancelled
  split
  · exact .refl s
  · next t _ =>
    split
    · exact State.thins_dutyBack t (State.thins_completeWith _ _ _ (.refl s))
    · exact State.thins_markOp t (.refl s)
    · exact .refl s

/-- R246: a CANCEL completes, and its UNITS tell whether it met its target. -/
theorem State.cancel_completes (hk : o.origin = .ledger k) (hsub : o.sub ≠ 31) :
    (∃ x ∈ (s.cancel o).ledger.ops, x.card = o.card ∧ x.state = .complete ∧ x.result = rDone
      ∧ x.units = BitVec.ofNat 32 (s.cancelled o).2 ∧ x.stamp = s.stamp) ∧ (s.cancel o).fixed = s.fixed := by
  obtain ⟨⟨i, hi, hspares⟩, -⟩ := State.cancelled_spares hs ho hop
  obtain ⟨y, hy, hcard⟩ := hspares.ops o ho hi.symm
  have hok := State.cancelled_ledgerOk (o := o) hs
  have hid : y.id = o.id := congrArg Prod.fst hcard
  have horigin : y.origin = o.origin := congrArg (fun c => c.2.1) hcard
  have hysub : y.sub = o.sub := congrArg (fun c => c.2.2.1) hcard
  have hstamp : (s.cancelled o).1.stamp = s.stamp := congrArg (fun f => (Prod.fst f).devtime.extractLsb' 20 32) hspares.fixed
  have hfind := State.op?_modOp hok hy (fun x => { x with units := BitVec.ofNat 32 (s.cancelled o).2 }) fun _ => rfl
  rw [State.cancel_eq, ← hid]
  obtain ⟨x, hx, hxc, hstate, hresult, hunits, hst, -⟩ := State.completeWith_record hfind (horigin.trans hk) (hysub ▸ hsub) false rDone
  refine ⟨⟨x, hx, hxc.trans hcard, hstate, hresult, hunits, hst.trans hstamp⟩, ?_⟩
  have h2 := State.spares_completeWith (i := y.id) false rDone (.refl y.id
    ((s.cancelled o).1.modOp y.id (fun x => { x with units := BitVec.ofNat 32 (s.cancelled o).2 })))
  exact h2.fixed.trans hspares.fixed

/-- Table 06.5: a QUEUED target has ended CANCELLED. -/
theorem State.cancel_target {t : Op} (ht : s.cancelTarget o.addr = some t) (ha : cancelAct t = .ends) :
    (s.cancelled o).2 = 1 ∧ ∀ y ∈ (s.cancel o).ledger.ops, y.id = t.id → y.state = .complete ∧ y.result = rCancelled := by
  have hne := State.cancelTarget_ne hs ho hop ht (by rw [ha]; exact nofun)
  have heq : s.cancelled o = ((State.completeWith false s t.id rCancelled).dutyBack t, 1) := by
    rw [State.cancelled, ht]
    dsimp only
    rw [ha]
  refine ⟨by rw [heq], fun y hy hid => ?_⟩
  rw [State.cancel_eq] at hy
  have hy1 := State.completeWith_others _ hy (by rw [hid]; exact hne.symm)
  obtain ⟨z, hz, rfl⟩ := List.mem_map.1 (show y ∈ List.map _ (s.cancelled o).1.ledger.ops from hy1)
  split at hid
  · next he => exact absurd ((beq_iff_eq.1 he).symm.trans hid) hne
  · next he =>
    rw [if_neg he]
    rw [heq, State.dutyBack_ledger] at hz
    exact State.completeWith_all (State.cancelTarget_mem ht) rCancelled z hz hid

end

/-- The target lookup looks at the memories and at the operations. -/
theorem State.cancelTarget_of {v w : State} {l : List Op} {a : BitVec 32} {y : Op} (hsub : ∀ i, w.sub i = v.sub i)
    (hops : w.ledger.ops = v.ledger.ops ++ l) (h : v.cancelTarget a = some y) : w.cancelTarget a = some y := by
  obtain ⟨d, hd, hfind⟩ := Option.bind_eq_some_iff.1 h
  refine Option.bind_eq_some_iff.2 ⟨d, (hsub _).symm ▸ hd, ?_⟩
  show w.ledger.ops.find? (fun o => o.id == d.op) = some y
  have hv : v.ledger.ops.find? (fun o => o.id == d.op) = some y := hfind
  rw [hops, List.find?_append, hv]
  rfl

/-- R220: a framed packet without a payload that passes admission is about to commit. -/
theorem State.ledgerCommand_plain {s : State} {tx : Tx} {op : Byte} {pk : Packet} (hframed : s.framed tx op pk = true)
    (hadm : s.admits tx.port (askOf tx.port op pk []) = true) (hn : payloadStones op pk = 0) :
    ∃ (k : Fin 256) (o : Op) (t : State), (s.received tx 0x7E).admitPacket tx.port (askOf tx.port op pk []) = (t, .admitted o)
      ∧ (s.received tx 0x7E).Admitted (askOf tx.port op pk []) k o t
      ∧ s.ledgerCommand tx op pk none = ((t.commit o).answer tx.port .ok (admittedReceipt o)).modPace
          (fun x => { x with stage := orderPacket tx.port }) := by
  obtain ⟨t, o, k, hpacket, h⟩ := State.admitPacket_admitted rfl ((State.admits_received 0x7E _).trans hadm)
  refine ⟨k, o, t, hpacket, h, ?_⟩
  rw [State.ledgerCommand_framed _ hframed, State.ledgerPacket_plain hframed _ hn, State.decidePacket, hpacket]

/-- Settles O37: the CANCEL joins the others, and then does what `cancelled` says. -/
theorem cancelCompletes : Obligations.CancelCompletes := by
  intro s tx pk hs hframed hadm
  obtain ⟨k, o, t, hpacket, h, hcommand⟩ := State.ledgerCommand_plain hframed hadm rfl
  have hc := h.toCommit
  obtain ⟨hops, hnext, hsub, hothers, hports, hreply, hrest⟩ := hc.queued
  obtain ⟨f1, f2, f3, f4, f5, f6, f7, f8, f9, f10, f11, f12, f13, f14, -⟩ := hc.fields
  have hfresh := State.admitPacket_fresh hpacket
  have hok : (t.joined o).ledgerOk = true := State.ledgerOk_joined (State.ledgerOk_of_thins
    ((State.thins_admitPacket _ _ (.refl (s.received tx 0x7E))).fst hpacket) hs) hfresh
  have hstamp : t.stamp = s.stamp := by rw [h.rest]; rfl
  have hexec : exec (.cancel tx pk) s = .next ((((t.joined o).cancel (o.queuedAt s.stamp)).answer tx.port .ok
      (admittedReceipt o)).modPace (fun x => { x with stage := orderPacket tx.port })) := by
    rw [exec_packet s (op := opCancel) (payload := none) rfl, hcommand, State.commit_eq, if_pos f4, hstamp]
  have hmem : o.queuedAt s.stamp ∈ (t.joined o).ledger.ops := by
    rw [hops]
    exact List.mem_append_right _ List.mem_cons_self
  have hnot31 : o.sub ≠ 31 := by
    rw [f5]
    simp only [State.admits, State.check1, Bool.and_eq_true, decide_eq_true_eq] at hadm
    exact hadm.1.1.1.1.1.1.1.1.1.2
  have hstamp2 : (t.joined o).stamp = s.stamp := by rw [hrest]; rfl
  have hunits := (State.cancelled_spares hok hmem f4).2
  obtain ⟨⟨x, hx, hcard, hstate, hresult, hxunits, hst⟩, hfixed⟩ := State.cancel_completes hok hmem f4 f1 hnot31
  simp only [Op.card, Prod.mk.injEq] at hcard
  obtain ⟨hid, -, hxsub, hxop, hseq⟩ := hcard
  have hid2 : o.id = s.ledger.nextId := by rw [h.built]; rfl
  have hxs : x.sub = o.sub := hxsub
  refine ⟨_, hexec, ⟨x, hx, hid.trans hid2, hstate, hxop.trans f4, hresult, ?_, hst.trans hstamp2, hseq.trans f6, hxs.trans f5,
    fun y hy hq h1 h2 h3 => ?_⟩, ?_⟩
  · rw [hxunits]
    rcases hunits with h0 | h0
    · exact .inl (by rw [h0]; rfl)
    · exact .inr (by rw [h0]; rfl)
  · have haddr : (o.queuedAt s.stamp).addr = pk.addr := f7
    have htarget : (t.joined o).cancelTarget (o.queuedAt s.stamp).addr = some y := by
      refine State.cancelTarget_of (v := (s.received tx 0x7E).modSub x.sub (fun u => u.remember pk.seq s.ledger.nextId))
        (fun i => ?_) hops (haddr ▸ hy)
      rw [hxs]
      by_cases hi : i = o.sub
      · rw [hi, hsub, State.modSub_sub_self, ← hid2]
        rfl
      · rw [hothers i hi, State.modSub_sub_of_ne _ _ _ _ hi]
    have ha : cancelAct y = .ends := by
      unfold cancelAct
      rw [if_neg (by simp [h1, h2, h3]), hq]
    obtain ⟨hone, hall⟩ := State.cancel_target hok hmem f4 htarget ha
    exact ⟨by rw [hxunits, hone]; rfl, hall⟩
  · have hj : (t.joined o).fixed = s.fixed := by rw [hrest]; rfl
    have hf := hfixed.trans hj
    generalize (t.joined o).cancel (o.queuedAt s.stamp) = w at hf ⊢
    simp only [State.fixed, Prod.mk.injEq] at hf
    obtain ⟨hpace, -, hgates, hlife, hplinth, -, hpins, hmem2, hpending⟩ := hf
    refine ⟨hmem2, hgates, hlife, hplinth, hpins, ?_, hpending⟩
    show ({ w.pace with stage := orderPacket tx.port } : Pace) = _
    rw [hpace]

/-! ### LEVEL_RAISE and REGRESS -/

section
variable {s u : State} {p : PortId} {pk : Packet} {k : Fin 256} {o : Op}

/-- A LEVEL_RAISE whose links are satisfied is the next, where no other and no open FENCE is in the ledger. -/
theorem State.nextRaise_joined (h : s.ToCommit p opLevelRaise pk k o u) (hafter : pk.after = 0xFF) (hwait : pk.wait = 0xFF)
    (hops : ∀ x ∈ s.ledger.ops, x.opcode ≠ opLevelRaise ∧ (x.opcode = opFence → x.state = .complete)) :
    (u.joined o).nextRaise = some (o.queuedAt s.stamp) := by
  obtain ⟨hjops, -⟩ := h.queued
  obtain ⟨f1, -, -, f4, -, -, -, -, f9, f10, -⟩ := h.fields
  have hawaits : o.awaits = none := by
    rw [h.built]
    exact if_pos hafter
  have hfence : (u.joined o).fenceBefore (o.queuedAt s.stamp) = none := by
    unfold State.fenceBefore
    rw [hjops, List.find?_append, List.find?_eq_none.2 fun x hx => ?_]
    · simp [Op.queuedAt, f4, opLevelRaise, opFence]
    · have hx2 := (hops x hx).2
      simp only [Bool.and_eq_true, beq_iff_eq, bne_iff_ne, not_and, not_not]
      exact fun hf => hx2 hf.1.1.1
  have hlinks : (u.joined o).linksOk (o.queuedAt s.stamp) = true := by
    have hwaits : (o.queuedAt s.stamp).waitOk = true := by
      show (o.wait == 0xFF || o.latched) = true
      rw [f10, hwait]
      rfl
    have hafters : (u.joined o).afterOk (o.queuedAt s.stamp) = true := by
      show (match o.awaits with | none => true | some id => _) = true
      rw [hawaits]
    rw [State.linksOk, hafters, hwaits, hfence]
    rfl
  unfold State.nextRaise
  rw [hjops, List.find?_append, List.find?_eq_none.2 fun x hx => ?_]
  · have hself : ((o.queuedAt s.stamp).opcode == opLevelRaise && !(o.queuedAt s.stamp).isDirect && (o.queuedAt s.stamp).state == .queued
        && (u.joined o).linksOk (o.queuedAt s.stamp)) = true := by
      rw [hlinks]
      simp [Op.queuedAt, Op.isDirect, f1, f4]
    rw [Option.none_or]
    exact List.find?_cons_of_pos (p := fun x : Op => x.opcode == opLevelRaise && !x.isDirect && x.state == .queued && (u.joined o).linksOk x) hself
  · simp [(hops x hx).1]

end

/-- R444: a LEVEL_RAISE passes check 3 only where its target is above the level. -/
theorem State.check3_raise {s : State} {a : Ask} (hop : a.op = opLevelRaise) (h : (s.check3 a).2 = true) :
    s.raiseOk a.pk.count.toNat = true := by
  have hne : a.op ≠ opRegress := by rw [hop]; decide
  unfold State.check3 State.checkLevel at h
  grind

/-- Settles O38: the packet joins the others; a LEVEL_RAISE is then the next raise, and a REGRESS begins the drain. -/
theorem levelPacketsStart : Obligations.LevelPacketsStart := by
  refine ⟨fun s tx pk hs hframed hadm hfree hafter hwait hops => ?_, fun s tx pk hframed hadm => ?_⟩
  · obtain ⟨k, o, t, hpacket, h, hcommand⟩ := State.ledgerCommand_plain hframed hadm rfl
    have hc := h.toCommit
    obtain ⟨hjops, -, -, -, -, -, hrest⟩ := hc.queued
    obtain ⟨f1, -, -, f4, -, -, -, f8, -⟩ := hc.fields
    have hnext := State.nextRaise_joined hc hafter hwait hops
    have hid : o.id = s.ledger.nextId := by rw [h.built]; rfl
    have hraise : (t.joined o).raiseOk o.count.toNat = true := by
      simp only [State.admits, Bool.and_eq_true] at hadm
      rw [f8, hrest]
      exact State.check3_raise rfl hadm.1.1.1.1.1.1.2
    have hjfree : (t.joined o).journalFree = true := by
      rw [hrest]
      exact hfree
    have hexec : exec (.levelRaise tx pk) s = .next (((((t.joined o).modOp o.id (fun x => { x with state := .running, work := .lifecycle })).startJournal
        kLevelSet (BitVec.ofNat 8 o.count.toNat) (.raise o.id)).answer tx.port .ok (admittedReceipt o)).modPace
          (fun x => { x with stage := orderPacket tx.port })) := by
      rw [exec_packet s (op := opLevelRaise) (payload := none) rfl, hcommand, State.commit_eq, if_neg (by rw [f4]; decide),
        if_pos f4, State.tryRaise, hjfree, hnext]
      dsimp only [Op.queuedAt]
      rw [hraise]
      rfl
    have hmem : o.queuedAt s.stamp ∈ (t.joined o).ledger.ops := by
      rw [hjops]
      exact List.mem_append_right _ List.mem_cons_self
    refine ⟨_, hexec, ⟨{ o.queuedAt s.stamp with state := .running, work := .lifecycle },
      List.mem_map.2 ⟨_, hmem, if_pos (beq_self_eq_true o.id)⟩, hid, rfl, f4, f8⟩, ?_⟩
    rw [hrest, f8, hid]
    exact ⟨rfl, rfl, rfl, rfl, rfl⟩
  · obtain ⟨k, o, t, hpacket, h, hcommand⟩ := State.ledgerCommand_plain hframed hadm rfl
    have hc := h.toCommit
    obtain ⟨hjops, -, -, -, -, -, hrest⟩ := hc.queued
    obtain ⟨f1, -, -, f4, -⟩ := hc.fields
    have hid : o.id = s.ledger.nextId := by rw [h.built]; rfl
    have hexec : exec (.regress tx pk) s = .next ((((t.joined o).modLife (fun l => { l with phase := 1 })).answer tx.port .ok
        (admittedReceipt o)).modPace (fun x => { x with stage := orderPacket tx.port })) := by
      rw [exec_packet s (op := opRegress) (payload := none) rfl, hcommand, State.commit_eq, if_neg (by rw [f4]; decide),
        if_neg (by rw [f4]; decide), if_pos f4]
    refine ⟨_, hexec, ⟨_, hjops, hid, rfl, f4⟩, ?_⟩
    rw [hrest]
    exact ⟨rfl, rfl, rfl, rfl, rfl⟩

end Sys2Proof.Machine
end

section
/-! PROOFS. Registers at release (Table 17.2), commands that are turned away, whole REGWRs and SOFT RESET. -/
namespace Sys2Proof.Machine

/-- Settles O2: the reset state evaluated, register by register. -/
theorem registersAtRelease : Obligations.RegistersAtRelease := by
  refine ⟨fun e he => ?_, by decide +kernel, by decide +kernel, by decide +kernel, by decide +kernel, by decide +kernel,
    by decide +kernel, by decide +kernel⟩
  revert e
  refine fun e he => of_decide_eq_true
    (List.all_eq_true.1 (?_ : List.all _ (fun e => decide (State.reset.regValue (regOf e.1) = e.2)) = true) e he)
  decide +kernel

/-! ### Direct operations without ARMED (R180) -/

/-- R180: check 2 of Table 05.2. -/
theorem State.directAsk_unarmed {s : State} {p : PortId} (h : (s.port p).armed = false) (op : Byte) (addr : BitVec 32) (count : Nat)
    (payload : List Word) :
    s.directAsk p op addr count payload = (s.modPort p (fun x => { x with notarmed := true })).answer p .notReady [] := by
  rw [State.directAsk, h]
  rfl

theorem State.received_armed (s : State) (tx : Tx) (op : Byte) : ((s.received tx op).port tx.port).armed = (s.port tx.port).armed := by
  rw [State.received_port_self]
  simp

/-- Settles O24: each command comes to the checks of Table 05.2, whose second is ARMED. -/
theorem unarmedIsNotCarriedOut : Obligations.UnarmedIsNotCarriedOut := by
  refine ⟨fun s tx addr count payload h harmed hlen halign h1 h64 hrow => ?_, fun s tx addr h harmed halign => ?_,
    fun s tx addr h harmed halign hregion hfoot => ?_⟩
  · have hu : ((s.received tx 0x2C).port tx.port).armed = false := (s.received_armed tx 0x2C).trans harmed
    refine congrArg Host.Outcome.next ((s.run2_takes tx 0x2C false _ h (by decide)).trans ?_)
    have htake : payload.take count.toNat = payload := by rw [← hlen, List.take_length]
    have hgood : ¬ (addr &&& 7 ≠ 0 ∨ count.toNat < 1 ∨ 64 < count.toNat ∨ withinRow addr count.toNat = false) := by
      rintro (h | h | h | h)
      · exact h halign
      · omega
      · omega
      · exact absurd hrow (by rw [h]; decide)
    dsimp only
    rw [if_neg (by omega), htake, if_neg (not_not_intro rfl), if_neg hgood]
    exact State.directAsk_unarmed hu _ _ _ _
  · have hu : ((s.received tx 0x3C).port tx.port).armed = false := (s.received_armed tx 0x3C).trans harmed
    refine congrArg Host.Outcome.next ((s.run2_takes tx 0x3C false _ h (by decide)).trans ?_)
    rw [if_neg (not_not_intro rfl), if_neg (not_not_intro halign)]
    exact State.directAsk_unarmed hu _ _ _ _
  · have hu : ((s.received tx 0x3E).port tx.port).armed = false := (s.received_armed tx 0x3E).trans harmed
    have hgood : ¬ (addr &&& 0xFFF ≠ 0 ∨ regionOf addr ≠ .main ∨ isFooting (bankIx (addrBank addr)) (addrBlock addr) = false) := by
      rintro (h | h | h)
      · exact h halign
      · exact h hregion
      · exact absurd hfoot (by rw [h]; decide)
    refine congrArg Host.Outcome.next ((s.run2_takes tx 0x3E false _ h (by decide)).trans ?_)
    rw [if_neg (not_not_intro rfl), if_neg hgood]
    exact State.directAsk_unarmed hu _ _ _ _

/-! ### REGWR of whole entries (R578, R580, R583 to R585) -/

/-- R578: one entry after another. -/
def State.takeOne (p : PortId) (t : State × Bool) (e : BitVec 12 × Word) : State × Bool :=
  ((t.1.takeEntry p e.1 e.2).1, t.2 || (t.1.takeEntry p e.1 e.2).2 == .refused)

theorem State.takeEntries_foldl (p : PortId) (l : List (BitVec 12 × Word)) (t : State × Bool) :
    let r := t.1.takeEntries p (l.map (fun e => (BitVec.setWidth 16 e.1, e.2)))
    (r.1, t.2 || r.2.1) = l.foldl (State.takeOne p) t ∧ r.2.2 = false := by
  induction l generalizing t with
  | nil => exact ⟨by simp [State.takeEntries], rfl⟩
  | cons e l ih =>
    obtain ⟨h1, h2⟩ := ih (State.takeOne p t e)
    simp only [List.map_cons, State.takeEntries_cons, List.foldl_cons]
    refine ⟨?_, h2⟩
    rw [← h1]
    simp only [State.takeOne, Bool.or_assoc]

/-- Settles O28. -/
theorem regwrTakesEntries : Obligations.RegwrTakesEntries := by
  refine ⟨fun s tx count l h hlen h1 h16 => ?_, fun s p r v => ⟨fun hi => ?_, fun hi hp => ?_, fun hi hp => ⟨?_, fun hr => ?_⟩⟩⟩
  · have hcount : ¬ (count.toNat < 1 ∨ 16 < count.toNat) := by omega
    obtain ⟨hfold, hform⟩ := State.takeEntries_foldl tx.port l (s.received tx 0x61, false)
    have htake : (l.map (fun e => (BitVec.setWidth 16 e.1, e.2))).take count.toNat = l.map (fun e => (BitVec.setWidth 16 e.1, e.2)) := by
      rw [← hlen, ← List.length_map (fun e : BitVec 12 × Word => (BitVec.setWidth 16 e.1, e.2)), List.take_length]
    refine congrArg Host.Outcome.next ((s.regWrite_takes tx count _ h).trans ?_)
    rw [if_neg hcount, htake]
    dsimp only
    rw [List.length_map, if_neg (by omega), hform, if_neg Bool.false_ne_true]
    have h1 := congrArg Prod.fst hfold
    have h2 := congrArg Prod.snd hfold
    rw [Bool.false_or] at h2
    exact h1 ▸ h2 ▸ rfl
  · rw [State.takeEntry, if_pos hi]
  · rw [State.takeEntry, hi, hp]
    rfl
  · rw [State.takeEntry, hi, hp]
    rfl
  · rw [State.takeEntry, hi, hp, hr]
    rfl

/-! ### SOFT RESET (R552, R555, R558, R169) -/

theorem State.begin_takes {s : State} {tx : Tx} (h : s.takes tx = true) {op : Byte} (hop : knownOpcode op = true) (inTrial : Bool) :
    s.begin tx op inTrial = (s.received tx op, true) := by
  simp only [State.takes, Bool.and_eq_true] at h
  exact State.begin_listens s tx op inTrial h.1 hop

theorem Port.fail_fields (x : Port) : x.fail.reply = x.reply ∧ x.fail.badop = x.badop ∧ x.fail.atRise = x.atRise := by
  unfold Port.fail
  split
  · exact ⟨rfl, rfl, rfl⟩
  · exact ⟨rfl, rfl, rfl⟩

/-- What a SOFT RESET that was received does on its edge. -/
theorem execSoftReset_takes {s : State} {tx : Tx} (h : s.takes tx = true) (x : Byte) : exec (.softReset tx x) s = .next (
    if x ≠ 0x0F then (s.received tx 0xF0).badOpcode tx.port (s.port tx.port).silent
    else if s.privileged (s.port tx.port).dflt.toFin then ((s.received tx 0xF0).hush tx.port).queueRise tx.port .softReset
    else ((s.received tx 0xF0).hush tx.port).modBoot (fun b => { b with softx := true })) := by
  have hdflt : ((s.received tx 0xF0).port tx.port).dflt = (s.port tx.port).dflt := by
    rw [State.received_port_self]
    simp
  show execSoftReset tx x s = _
  unfold execSoftReset
  rw [State.begin_takes h (by decide)]
  dsimp only
  rw [hdflt]
  rfl

/-- Settles O32: on its edge a SOFT RESET is queued for the rise, or turned away; the rise is a device-wide reset. -/
theorem softResetIsPrivileged : Obligations.SoftResetIsPrivileged := by
  refine ⟨fun s tx h hp => ?_, fun s tx h hp => ?_, fun s tx x h hx => ?_, fun s n => ⟨s.resetInto_deviceReset .soft, ?_⟩⟩
  · rw [execSoftReset_takes h, if_neg (not_not_intro rfl), if_pos hp]
    rfl
  · rw [execSoftReset_takes h, if_neg (not_not_intro rfl), if_neg (by rw [hp]; decide)]
    rfl
  · have hexec : exec (.softReset tx x) s = .next ((s.received tx 0xF0).modPort tx.port (fun y =>
        Port.fail { y with reply := Reply.none, badop := true, silent := (s.port tx.port).silent })) := by
      rw [execSoftReset_takes h, if_pos hx]
      exact congrArg Host.Outcome.next (State.modPort_modPort _ _ _ _)
    obtain ⟨h1, h2, h3⟩ := Port.fail_fields { (s.received tx 0xF0).port tx.port with
      reply := Reply.none, badop := true, silent := (s.port tx.port).silent }
    refine ⟨_, hexec, ?_, ?_, ?_, rfl, fun q hq => ?_⟩
    · rw [State.modPort_port_self, h1]
    · rw [State.modPort_port_self, h2]
    · rw [State.modPort_port_self, h3, State.received_port_self]
      simp
    · rw [State.modPort_port_of_ne _ tx.port _ q hq, State.received_port_of_ne s tx _ q hq]
  · show (s.deviceReset .soft).pace = _
    rw [← State.devtime_of_still s.cutAll_still]
    simp only [State.deviceReset, State.cutAll, if_true]

end Sys2Proof.Machine
end

section
/-! PROOFS. Writes of the port, ledger and scheduling registers (R25, R39, R89, R112, R114, R151, R153, R213 to R217, R231, R237,
R260, R387, R388, R405 to R410, R550). -/
namespace Sys2Proof.Machine

/-! ### Rows that write one register -/

section
variable {s : State} {tx : Tx} {k : Nat} {v : Word} {r : RegRef} (h : s.mayWrite tx (BitVec.ofNat 12 k) = true)

/-- The state on which the register of a taken entry acts. -/
def State.counted (s : State) (tx : Tx) : State := (s.received tx 0x61).modGlob (fun g => { g with regwrites := g.regwrites + 1 })

theorem State.afterWrite_congr {f g : State → State} (hfg : f (s.counted tx) = g (s.counted tx)) :
    s.afterWrite tx f = s.afterWrite tx g := by
  unfold State.afterWrite
  exact congrArg (fun t => State.answer t tx.port .ok []) hfg

include h

/-- A register that acts on the edge alone. -/
theorem State.writes_now (hk : k < 4096) (hr : regOf (BitVec.ofNat 12 k) = r) (hrise : r.atRise = false) :
    s.regWrite1 tx k v = s.afterWrite tx (fun t => t.writeNow tx.port (s.fullWrite tx.port) r v) := by
  rw [State.regWrite1_ofNat s tx k hk v h, hr]
  simp only [hrise, Bool.false_eq_true, if_false]

/-- A register with a part that acts at the rise. -/
theorem State.writes_later (hk : k < 4096) (hr : regOf (BitVec.ofNat 12 k) = r) (hrise : r.atRise = true) :
    s.regWrite1 tx k v = s.afterWrite tx (fun t => (t.writeNow tx.port (s.fullWrite tx.port) r v).leaves tx.port
      (.regAct (BitVec.ofNat 12 k) v)) := by
  rw [State.regWrite1_ofNat s tx k hk v h, hr]
  simp only [hrise, if_true]

end

theorem State.riseAct_reg {k : BitVec 12} {r : RegRef} (hr : regOf k = r) (u : State) (m : PortId) (v : Word) :
    u.riseAct m (.regAct k v) = u.writeAtRise r v := by rw [State.riseAct, hr]

theorem regOf_timing : ∀ n : PortId, regOf (BitVec.ofNat 12 (0x101 + 0x20 * n.val)) = .timing n := by decide +kernel
theorem regOf_len : ∀ n : PortId, regOf (BitVec.ofNat 12 (0x102 + 0x20 * n.val)) = .len n := by decide +kernel
theorem regOf_chain : ∀ n : PortId, regOf (BitVec.ofNat 12 (0x113 + 0x20 * n.val)) = .chain n := by decide +kernel
theorem regOf_subsReg : ∀ n : PortId, regOf (BitVec.ofNat 12 (0x106 + 0x20 * n.val)) = .subsReg n := by decide +kernel

/-! ### Port registers -/

theorem lenOk_iff (v : Word) : lenOk v = true ↔ 1 ≤ (v.extractLsb' 0 14).toNat ∧ (v.extractLsb' 0 14).toNat ≤ 8192 :=
  decide_eq_true_iff

theorem Port.writeLen_eq (v : Word) : (fun p : Port => p.writeLen v) = fun p =>
    if 1 ≤ (v.extractLsb' 0 14).toNat ∧ (v.extractLsb' 0 14).toNat ≤ 8192 then { p with len := v.extractLsb' 0 14 }
    else { p with badset := true } := funext fun p => by
  unfold Port.writeLen
  by_cases hok : lenOk v = true
  · rw [if_pos hok, if_pos ((lenOk_iff v).1 hok)]
    rfl
  · rw [if_neg hok, if_neg fun hn => hok ((lenOk_iff v).2 hn)]

theorem Port.riseLen_eq (v : Word) : (fun p : Port => p.riseLen v) = fun p =>
    if 1 ≤ (v.extractLsb' 0 14).toNat ∧ (v.extractLsb' 0 14).toNat ≤ 8192 then { p with lenSet := v.extractLsb' 0 14 }
    else p := funext fun p => by
  unfold Port.riseLen
  by_cases hok : lenOk v = true
  · rw [if_pos hok, if_pos ((lenOk_iff v).1 hok)]
    rfl
  · rw [if_neg hok, if_neg fun hn => hok ((lenOk_iff v).2 hn)]

/-- A mask without its DEFAULT sets SUBX, whatever bit 8 says (R217). -/
theorem Port.writeSubs_eq (v : Word) : (fun p : Port => p.writeSubs v) = fun p =>
    if (v.extractLsb' 32 32).getLsbD (v.extractLsb' 0 5).toNat then
      { p with mask := v.extractLsb' 32 32, dflt := v.extractLsb' 0 5, subx := p.subx && !v.getLsbD 8 }
    else { p with subx := true } := rfl

theorem Port.riseChainEn_eq (v : Word) : (fun p : Port => p.riseChainEn v) = fun p =>
    if v.getLsbD 0 = false then { p with chainEn := false }
    else if p.mode = 0 ∧ p.trial = false then { p with chainEn := true } else { p with modeConflict := true } := funext fun p => by
  unfold Port.riseChainEn
  cases v.getLsbD 0 with
  | false => rfl
  | true =>
    simp only [if_true, Bool.true_eq_false, if_false, Bool.not_eq_true]

theorem Port.riseChainEn_kept (v : Word) (p : Port) : (p.riseChainEn v).booten = p.booten := by
  unfold Port.riseChainEn
  grind

theorem Port.riseChainEn_chainWpx (v : Word) (p : Port) : (p.riseChainEn v).chainWpx = p.chainWpx := by
  unfold Port.riseChainEn
  grind

/-- A write waits behind those queued before it. -/
theorem State.plinthWrite_queue (s : State) (d : PlinthData) : (s.plinthWrite d).plinth.queue = s.plinth.queue ++ [d] := by
  have hq : ∀ (p : Plinth) (e : PlinthData) (f : {α : Type} → Copies α → α → Copies α), (p.onCopies e f).queue = p.queue := by
    intro p e f
    unfold Plinth.onCopies
    split
    · rfl
    · rfl
    · rfl
    · split
      · rfl
      · rfl
  have hs : ∀ p : Plinth, p.startHead.queue = p.queue := by
    intro p
    unfold Plinth.startHead
    split
    · exact hq p _ _
    · rfl
  show Plinth.queue (if _ then _ else _) = _
  split
  · rfl
  · exact hs _

/-- A change of BOOTEN goes to the plinth. -/
theorem State.writeBooten_queue (s : State) : s.writeBooten.plinth.queue.length = s.plinth.queue.length + 1 := by
  have hw : ∀ d : PlinthData, (s.plinthWrite d).plinth.queue.length = s.plinth.queue.length + 1 := fun d => by
    rw [State.plinthWrite_queue, List.length_append]
    rfl
  unfold State.writeBooten State.writeConfig
  split
  · split
    · exact hw _
    · exact hw _
  · exact hw _

/-- Settles O40: each register's write on its edge, and its act at the rise. -/
theorem portRegisters : Obligations.PortRegisters := by
  refine ⟨fun s tx v h => ?_, fun u m v h0 hh => ?_, fun s tx n v h => ?_, fun u m n v => ?_, fun s tx n v h => ?_, fun u m n v => ?_,
    fun s tx n v h => ⟨fun w hw => ?_, ?_⟩, fun u m n v hv => ?_, fun u m n v hv => ?_, fun s tx n v h => ?_⟩
  · show Host.Outcome.next (s.regWrite1 tx 0x008 v) = _
    rw [State.writes_later (r := .paceCtrl) h (by decide) rfl rfl]
    rfl
  · obtain ⟨p, hp⟩ := Option.isSome_iff_exists.1 hh
    rw [State.riseAct_reg (r := .paceCtrl) rfl, State.writeAtRise, h0, State.setPolicy]
    have hn : (u.modPace (fun x => { x with policy := false, fixedPort := (fieldOf v 4 3).toFin })).nominated = none := State.nominated_of_baton rfl
    have hp2 : (u.modPace (fun x => { x with policy := false, fixedPort := (fieldOf v 4 3).toFin })).pace.holder = some p := hp
    rw [hn, hp2]
    rfl
  · show Host.Outcome.next (s.regWrite1 tx (0x101 + 0x20 * n.val) v) = _
    rw [State.writes_later h (by omega) (regOf_timing n) rfl]
    rfl
  · rw [State.riseAct_reg (regOf_timing n)]
    rfl
  · show Host.Outcome.next (s.regWrite1 tx (0x102 + 0x20 * n.val) v) = _
    rw [State.writes_later h (by omega) (regOf_len n) rfl]
    simp only [State.writeNow, Port.writeLen_eq]
  · rw [State.riseAct_reg (regOf_len n)]
    simp only [State.writeAtRise, Port.riseLen_eq]
  · subst hw
    show Host.Outcome.next (s.regWrite1 tx (0x113 + 0x20 * n.val) (v ||| 1)) = _
    rw [State.writes_later h (by omega) (regOf_chain n) rfl]
    simp only [State.writeNow, w1cBit]
  · show Host.Outcome.next (s.regWrite1 tx (0x113 + 0x20 * n.val) v) = _
    rw [State.writes_later h (by omega) (regOf_chain n) rfl]
    simp only [State.writeNow, w1cBit]
  · rw [State.riseAct_reg (regOf_chain n), State.writeAtRise, State.riseChain]
    simp only [hv, bne_self_eq_false, Bool.not_false, if_true, Port.riseChainEn_eq]
  · refine ⟨_, rfl, ?_⟩
    rw [State.riseAct_reg (regOf_chain n), State.writeAtRise, State.riseChain]
    simp only [bne_iff_ne.2 hv, Bool.not_true, Bool.false_eq_true, if_false]
    cases hwp : u.pins.wp with
    | true =>
      simp only [if_true]
      rw [State.modPort_port_self, Port.riseChainEn_kept, State.port_of_ports (State.writeBooten_ports _), State.modPort_port_self]
      exact ⟨rfl, State.writeBooten_queue _⟩
    | false =>
      simp only [Bool.false_eq_true, if_false]
      rw [State.modPort_port_self, State.modPort_port_self]
      exact ⟨Port.riseChainEn_kept v _, Port.riseChainEn_chainWpx v _, rfl⟩
  · show Host.Outcome.next (s.regWrite1 tx (0x106 + 0x20 * n.val) v) = _
    rw [State.writes_now h (by omega) (regOf_subsReg n) rfl]
    simp only [State.writeNow, Port.writeSubs_eq]

end Sys2Proof.Machine
end

section
/-! PROOFS. Writes of the ledger registers (R213, R214, R231, R237, R260). -/
namespace Sys2Proof.Machine

theorem regOf_quota : ∀ i : SubId, regOf (BitVec.ofNat 12 (0x306 + 8 * i.val)) = .quota i := by decide +kernel

/-- R214: the bounds of SnQUOTA. -/
theorem State.writeQuota_eq (s : State) (i : SubId) (v : Word) : s.writeQuota i v = s.modSub i (fun u =>
    if (v.extractLsb' 0 6).toNat ≤ 32 ∧ (v.extractLsb' 0 6).toNat ≤ (v.extractLsb' 16 9).toNat ∧ 1 ≤ (v.extractLsb' 16 9).toNat
        ∧ (v.extractLsb' 16 9).toNat ≤ 256
        ∧ ((allSubs.filter (fun j => j != i)).map (fun j => (s.sub j).reserve.toNat)).sum + (v.extractLsb' 0 6).toNat ≤ 256
    then { u with reserve := v.extractLsb' 0 6, max := v.extractLsb' 16 9, quotax := u.quotax && !v.getLsbD 15 }
    else { u with quotax := true }) := by
  unfold State.writeQuota
  dsimp only [fieldOf]
  generalize ((allSubs.filter (fun j => j != i)).map (fun j => (s.sub j).reserve.toNat)).sum = others
  by_cases hbad : (v.extractLsb' 0 6).toNat > 32 ∨ (v.extractLsb' 0 6).toNat > (v.extractLsb' 16 9).toNat
      ∨ (v.extractLsb' 16 9).toNat = 0 ∨ (v.extractLsb' 16 9).toNat > 256 ∨ others + (v.extractLsb' 0 6).toNat > 256
  · rw [if_pos hbad]
    exact congrArg (s.modSub i) (funext fun u => (if_neg (by omega)).symm)
  · rw [if_neg hbad]
    exact congrArg (s.modSub i) (funext fun u => (if_pos (by omega)).symm)

theorem forget_bits (v : Word) : (v ||| 0x20).getLsbD 5 = true ∧ (v ||| 0x20).extractLsb' 0 5 = v.extractLsb' 0 5 := by
  refine ⟨by simp, BitVec.eq_of_getLsbD_eq fun i hi => ?_⟩
  have h32 : ∀ j : Fin 5, (0x20 : Word).getLsbD j.val = false := by decide
  have := h32 ⟨i, hi⟩
  simp_all

/-- R237: events that rise latch the waits for them. -/
theorem State.eventsRise_eq (s : State) (v : Word) : (s.modLedger (fun l => { l with events := l.events ||| v })).latchWaits =
    s.modLedger (fun l => { l with
        events := l.events ||| v,
        ops := l.ops.map (fun o => if (o.state == .queued || o.state == .admitting) && decide (o.wait.toNat < 64)
          && (l.events ||| v).getLsbD o.wait.toNat then { o with latched := true } else o) }) := by
  unfold State.latchWaits State.eventSet
  simp only [Bool.and_assoc]
  rfl

/-! ### What a view shows does not change with the write that asks for it -/

section
variable (s : State) (tx : Tx)

theorem Port.received_tokens (s : State) (tx : Tx) (op : Byte) (q : PortId) :
    ((s.received tx op).port q).tokens = (s.port q).tokens := by
  by_cases h : q = tx.port
  · subst h
    rw [State.received_port_self]
    simp
  · rw [State.received_port_of_ne s tx op q h]

theorem State.portTokens_congr {t : State} (h : ∀ q, (t.port q).tokens = (s.port q).tokens) : t.portTokens = s.portTokens := by
  have hl : t.ports.toList.map (·.tokens) = s.ports.toList.map (·.tokens) := by
    refine List.ext_getElem (by simp) fun i h1 h2 => ?_
    have hi : i < 8 := by simpa using h1
    simpa [State.port] using h ⟨i, hi⟩
  rw [State.portTokens, hl]
  rfl

theorem State.counted_heldTokens : (s.counted tx).heldTokens = s.heldTokens := by
  have hp : (s.counted tx).portTokens = s.portTokens := s.portTokens_congr (Port.received_tokens s tx 0x61)
  rw [State.heldTokens, hp]
  rfl

theorem State.kilnAct_congr {t : State} (b : BankId) (o : Op) (hb : t.bank b = s.bank b) (hw : t.pins.wp = s.pins.wp)
    (hn : t.nextRow = s.nextRow) : t.kilnAct b o = s.kilnAct b o := by
  unfold State.kilnAct State.spareSlot
  rw [hb, hw, hn]

theorem State.counted_nextAct (o : Op) : (s.counted tx).nextAct o = s.nextAct o := by
  have hk : ∀ b, (s.counted tx).kilnAct b o = s.kilnAct b o := fun b => s.kilnAct_congr (t := s.counted tx) b o rfl rfl rfl
  unfold State.nextAct
  simp only [hk]
  rfl

theorem State.counted_tokensFit (o : Op) (a : Act) : (s.counted tx).tokensFit o a = s.tokensFit o a := by
  have ht : (s.counted tx).tokensOf o a = s.tokensOf o a := rfl
  have hf : ∀ n, (s.counted tx).fits n = s.fits n := fun n => by
    rw [State.fits, State.counted_heldTokens]
    rfl
  unfold State.tokensFit
  rw [ht]
  simp only [hf]

theorem State.counted_view2 (o : Op) : (s.counted tx).view2 o = s.view2 o := by
  have h1 : (s.counted tx).waitsAtGate o = s.waitsAtGate o := rfl
  have h2 : ∀ a, (s.counted tx).targetOk o a = s.targetOk o a := fun _ => rfl
  have h3 : ∀ a, (s.counted tx).notBarred o a = s.notBarred o a := fun _ => rfl
  have h4 : ∀ a, (s.counted tx).yardOk o a = s.yardOk o a := fun _ => rfl
  have hwhy : (s.counted tx).why o = s.why o := by
    unfold State.why
    simp only [h1, h2, h3, h4, State.counted_nextAct, State.counted_tokensFit]
    rfl
  have hprogress : (s.counted tx).progressNow o = s.progressNow o := rfl
  have hblocker : (s.counted tx).blocker o = s.blocker o := rfl
  unfold State.view2
  rw [hwhy, hprogress, hblocker]

end

theorem freeView1 : fields [fld (0xFF : Byte) 8, fld (0xFF : Byte) 0] = 0xFFFF := by decide +kernel

theorem freeView2 : fields [fld (0xFF : Byte) 56, fld (0xFF : Byte) 40] = 0xFF00FF0000000000 := by decide +kernel

/-- R260: what LEDGER_SEL captures. -/
theorem State.captureViews_eq (s : State) (k : BitVec 8) : ∃ l : Ledger, s.captureViews k = { s with ledger := l }
    ∧ l.sel = k ∧ l.ops = s.ledger.ops
    ∧ (s.opOfSlot k.toFin = none → l.view0 = 0 ∧ l.view1 = 0xFFFF ∧ l.view2 = 0xFF00FF0000000000 ∧ l.view3 = 0)
    ∧ ∀ o, s.opOfSlot k.toFin = some o → l.view0 = o.view0 ∧ l.view1 = o.view1 ∧ l.view2 = s.view2 o ∧ l.view3 = s.view3 o := by
  unfold State.captureViews
  cases h : s.opOfSlot k.toFin with
  | none =>
    refine ⟨{ s.ledger with
        sel := k, view0 := 0, view1 := fields [fld (0xFF : Byte) 8, fld (0xFF : Byte) 0],
        view2 := fields [fld (0xFF : Byte) 56, fld (0xFF : Byte) 40], view3 := 0 }, rfl, rfl, rfl, fun _ => ?_,
      fun x hx => absurd hx.symm (Option.some_ne_none x)⟩
    exact ⟨rfl, freeView1, freeView2, rfl⟩
  | some o =>
    refine ⟨{ s.ledger with sel := k, view0 := o.view0, view1 := o.view1, view2 := s.view2 o, view3 := s.view3 o },
      rfl, rfl, rfl, fun hx => absurd hx (Option.some_ne_none o), fun x hx => ?_⟩
    obtain rfl := Option.some.inj hx
    exact ⟨rfl, rfl, rfl, rfl⟩

/-- Settles O41: each register's write on its edge. -/
theorem ledgerRegisters : Obligations.LedgerRegisters := by
  refine ⟨fun s tx i v h => ?_, fun s tx v h hfull => ?_, fun s tx v h hfull => ?_, fun s tx v h => ?_, fun s tx v h => ?_,
    fun s tx v h => ?_⟩
  · show Host.Outcome.next (s.regWrite1 tx (0x306 + 8 * i.val) v) = _
    rw [State.writes_now h (by omega) (regOf_quota i) rfl]
    refine congrArg Host.Outcome.next (State.afterWrite_congr ?_)
    exact State.writeQuota_eq _ i v
  · show Host.Outcome.next (s.regWrite1 tx 0x08A (v ||| 0x20)) = _
    rw [State.writes_now (r := .dedupCtrl) h (by decide) rfl rfl]
    refine congrArg Host.Outcome.next (State.afterWrite_congr ?_)
    obtain ⟨h5, hlow⟩ := forget_bits v
    rw [hfull]
    simp only [State.writeNow, State.writeDedup, fieldOf, h5, hlow, if_true, Bool.true_or]
    rfl
  · show Host.Outcome.next (s.regWrite1 tx 0x08A (v ||| 0x20)) = _
    rw [State.writes_now (r := .dedupCtrl) h (by decide) rfl rfl]
    refine congrArg Host.Outcome.next (State.afterWrite_congr ?_)
    obtain ⟨h5, hlow⟩ := forget_bits v
    have hmask : ((s.counted tx).port tx.port).mask = (s.port tx.port).mask := by
      show ((s.received tx 0x61).port tx.port).mask = _
      rw [State.received_port_self]
      simp
    rw [hfull]
    simp only [State.writeNow, State.writeDedup, fieldOf, h5, hlow, hmask, if_true, Bool.false_or, Bool.false_eq_true, if_false]
    rfl
  · show Host.Outcome.next (s.regWrite1 tx 0x081 v) = _
    rw [State.writes_now (r := .eventSet) h (by decide) rfl rfl]
    exact congrArg Host.Outcome.next (State.afterWrite_congr (State.eventsRise_eq _ v))
  · exact congrArg Host.Outcome.next (State.writes_now (r := .eventClr) h (by decide) rfl rfl)
  · refine ⟨_, congrArg Host.Outcome.next (State.writes_now (r := .ledgerSel) h (by decide) rfl rfl), ?_⟩
    obtain ⟨l, hl, hsel, hops, hnone, hsome⟩ := (s.counted tx).captureViews_eq (v.extractLsb' 0 8)
    have hview3 : ∀ o, (s.counted tx).view3 o = s.view3 o := fun o => rfl
    have hcapture : (s.counted tx).writeNow tx.port (s.fullWrite tx.port) .ledgerSel v = { s.counted tx with ledger := l } := hl
    have hafter : s.afterWrite tx (fun t => t.writeNow tx.port (s.fullWrite tx.port) .ledgerSel v) =
        State.answer { s.counted tx with ledger := l } tx.port .ok [] := congrArg (fun t => State.answer t tx.port .ok []) hcapture
    rw [hafter]
    refine ⟨hsel, hnone, fun o ho => ?_, hops, rfl, rfl, rfl, rfl⟩
    obtain ⟨h0, h1, h2, h3⟩ := hsome o ho
    exact ⟨h0, h1, h2.trans (s.counted_view2 tx o), h3.trans (hview3 o)⟩

end Sys2Proof.Machine
end

section
/-! PROOFS. Writes of the scheduling registers (R25, R387, R388, R405 to R410, R550). -/
namespace Sys2Proof.Machine

theorem regOf_commit : ∀ i : SubId, regOf (BitVec.ofNat 12 (0x300 + 8 * i.val)) = .commit i := by decide +kernel
theorem regOf_peak : ∀ i : SubId, regOf (BitVec.ofNat 12 (0x301 + 8 * i.val)) = .peak i := by decide +kernel
theorem regOf_mstat : ∀ i : SubId, regOf (BitVec.ofNat 12 (0x304 + 8 * i.val)) = .mstat i := by decide +kernel

/-! ### A bit that a row writes -/

/-- A bit set in an operand stays out of a field that does not hold it. -/
theorem extractLsb'_or_of (v b : Word) {lo w : Nat} (h : b.extractLsb' lo w = 0) : (v ||| b).extractLsb' lo w = v.extractLsb' lo w := by
  rw [BitVec.extractLsb'_or, h]
  exact BitVec.or_zero

theorem getLsbD_or_of (v b : Word) {i : Nat} (h : b.getLsbD i = false) : (v ||| b).getLsbD i = v.getLsbD i := by
  rw [BitVec.getLsbD_or, h, Bool.or_false]

theorem getLsbD_or_self (v b : Word) {i : Nat} (h : b.getLsbD i = true) : (v ||| b).getLsbD i = true := by
  rw [BitVec.getLsbD_or, h, Bool.or_true]

/-- R408: CLEARMAX. -/
theorem State.riseSample_clears (u : State) (v : Word) : u.riseSample (v ||| 0x20000000000) =
    { u with
      power := { u.power with
        sampleFreeze := v.getLsbD 40, sampleScope := v.extractLsb' 32 3, sampleInt := v.extractLsb' 0 32 },
      subs := u.subs.map (fun x => { x with leaf := x.leaf.map (fun l => { l with maxdelay := 0, maxdepth := 0 }) }) } := by
  unfold State.riseSample
  rw [getLsbD_or_self v 0x20000000000 (i := 41) (by decide), getLsbD_or_of v 0x20000000000 (i := 40) (by decide)]
  simp only [fieldOf, extractLsb'_or_of v 0x20000000000 (lo := 32) (w := 3) (by decide),
    extractLsb'_or_of v 0x20000000000 (lo := 0) (w := 32) (by decide), if_true]
  rfl

/-- Settles O42: each register's write on its edge, and its act at the rise. -/
theorem schedulingRegisters : Obligations.SchedulingRegisters := by
  refine ⟨fun s tx i v h => ?_, fun s tx i v h => ?_, fun u m i v => ⟨?_, ?_⟩, fun s tx i v h => ⟨?_, fun u m => ?_⟩,
    fun s tx v h => ⟨?_, fun u m => ?_⟩, fun s tx v h => ⟨?_, fun u m => ?_⟩, fun s tx v h => ?_, fun s tx v h => ?_, fun s tx v h => ?_⟩
  · show Host.Outcome.next (s.regWrite1 tx (0x300 + 8 * i.val) v) = _
    rw [State.writes_later h (by omega) (regOf_commit i) rfl]
    rfl
  · show Host.Outcome.next (s.regWrite1 tx (0x301 + 8 * i.val) v) = _
    rw [State.writes_later h (by omega) (regOf_peak i) rfl]
    rfl
  · rw [State.riseAct_reg (regOf_commit i)]
    rfl
  · rw [State.riseAct_reg (regOf_peak i)]
    rfl
  · show Host.Outcome.next (s.regWrite1 tx (0x304 + 8 * i.val) (v ||| 1)) = _
    rw [State.writes_later h (by omega) (regOf_mstat i) rfl]
    rfl
  · rw [State.riseAct_reg (regOf_mstat i), State.writeAtRise, getLsbD_or_self v 1 (by decide), if_pos rfl]
    rfl
  · show Host.Outcome.next (s.regWrite1 tx 0x480 (v ||| 0x20000000000)) = _
    rw [State.writes_later (r := .sampleCtrl) h (by decide) rfl rfl]
    rfl
  · refine ⟨_, rfl, fun i k => ?_, ?_⟩
    · rw [State.riseAct_reg (r := .sampleCtrl) rfl, State.writeAtRise, State.riseSample_clears]
      simp [State.sub]
    · rw [State.riseAct_reg (r := .sampleCtrl) rfl, State.writeAtRise, State.riseSample_clears]
  · show Host.Outcome.next (s.regWrite1 tx 0x04C v) = _
    rw [State.writes_later (r := .tokens) h (by decide) rfl rfl]
    rfl
  · rw [State.riseAct_reg (r := .tokens) rfl]
    rfl
  · show Host.Outcome.next (s.regWrite1 tx 0x041 (v ||| 8)) = _
    rw [State.writes_now (r := .budgetStat) h (by decide) rfl rfl]
    refine congrArg Host.Outcome.next (State.afterWrite_congr ?_)
    simp only [State.writeNow, getLsbD_or_self v 8 (i := 3) (by decide), getLsbD_or_of v 8 (i := 2) (by decide),
      getLsbD_or_of v 8 (i := 1) (by decide), if_true]
    have hheld : ∀ f : Power → Power, ((s.counted tx).modPower f).heldTokens = s.heldTokens := fun f => s.counted_heldTokens tx
    rw [hheld]
    rfl
  · show Host.Outcome.next (s.regWrite1 tx 0x042 (v ||| 0x10000)) = _
    rw [State.writes_now (r := .vccSense) h (by decide) rfl rfl]
    simp only [State.writeNow, getLsbD_or_self v 0x10000 (i := 16) (by decide), if_true]
  · show Host.Outcome.next (s.regWrite1 tx 0xE40 (v ||| 2)) = _
    rw [State.writes_now (r := .traceCtrl) h (by decide) rfl rfl]
    simp only [State.writeNow, getLsbD_or_self v 2 (i := 1) (by decide), getLsbD_or_of v 2 (i := 0) (by decide), if_true]

end Sys2Proof.Machine
end

section
/-! PROOFS. Writes of the upkeep, loop, pump and gate registers (R363, R367, R375, R376, R425 to R429, R435, R538, R551). -/
namespace Sys2Proof.Machine

theorem regOf_plumb : ∀ b : Fin 64, regOf (BitVec.ofNat 12 (0x603 + 4 * b.val)) = .plumb b := by decide +kernel
theorem regOf_tamp : ∀ g : GalId, regOf (BitVec.ofNat 12 (0x048 + g.val)) = .tamp g := by decide +kernel
theorem regOf_pump : ∀ (cp : Bool) (g : GalId), regOf (BitVec.ofNat 12 ((if cp then 0x054 else 0x050) + g.val)) =
    if cp then .cpump g else .lpump g := by decide +kernel
theorem regOf_gateCtrl : ∀ g : GateId, regOf (BitVec.ofNat 12 (0x800 + 0x10 * g.val)) = .gateCtrl g := by decide +kernel

/-! ### Loops and pumps -/

theorem State.writeKilnAt_eq (s : State) (v : Word) : s.writeKilnAt v = s.modUpkeep (fun u =>
    if 1000 ≤ (v.extractLsb' 0 16).toNat ∧ (v.extractLsb' 0 16).toNat ≤ 20000 then { u with kilnAt := v.extractLsb' 0 16 }
    else { u with badset := true }) := by
  unfold State.writeKilnAt
  dsimp only [fieldOf]
  by_cases h : 1000 ≤ (v.extractLsb' 0 16).toNat ∧ (v.extractLsb' 0 16).toNat ≤ 20000
  · rw [if_pos h]
    exact congrArg s.modUpkeep (funext fun u => (if_pos h).symm)
  · rw [if_neg h]
    exact congrArg s.modUpkeep (funext fun u => (if_neg h).symm)

theorem State.writeScrub_eq (s : State) (v : Word) : s.writeScrub v = s.modUpkeep (fun u =>
    if 1 ≤ (v.extractLsb' 40 8).toNat ∧ (v.extractLsb' 40 8).toNat ≤ 64 then
      { u with scrubInt := v.extractLsb' 0 32, fixmax := v.extractLsb' 40 8 }
    else { u with scrubInt := v.extractLsb' 0 32, badset := true }) := by
  unfold State.writeScrub
  dsimp only [fieldOf]
  refine congrArg s.modUpkeep (funext fun u => ?_)
  by_cases h : 1 ≤ (v.extractLsb' 40 8).toNat ∧ (v.extractLsb' 40 8).toNat ≤ 64
  · rw [if_pos h, decide_eq_true h]
    simp
  · rw [if_neg h, decide_eq_false h]
    simp

/-- R538: stage counts from 2 to 8. -/
theorem State.risePump_eq (s : State) (g : GalId) (cp : Bool) (v : Word) (h1 : 2 ≤ (v.extractLsb' 12 4).toNat)
    (h2 : (v.extractLsb' 12 4).toNat ≤ 8) (h3 : 2 ≤ (v.extractLsb' 4 4).toNat) (h4 : (v.extractLsb' 4 4).toNat ≤ 8) :
    let set := fun (p : Pump) => { p with
      override := v.getLsbD 33, freeze := v.getLsbD 32, lean := 0, setStages := v.extractLsb' 12 4,
      setPhase := v.extractLsb' 8 4, stages := v.extractLsb' 4 4, phase := v.extractLsb' 0 4 }
    s.risePump g cp v = s.modGal g (fun x => if cp then { x with cpump := set x.cpump } else { x with lpump := set x.lpump }) := by
  have hset : stagesOk (fieldOf v 12 4) = true := decide_eq_true ⟨h1, h2⟩
  have hnow : stagesOk (fieldOf v 4 4) = true := decide_eq_true ⟨h3, h4⟩
  unfold State.risePump Pump.rise
  simp only [hset, hnow, Bool.and_self, if_true]
  rfl

/-- Settles O43: each register's write on its edge, and its act at the rise. -/
theorem loopRegisters : Obligations.LoopRegisters := by
  refine ⟨fun s tx v h => ?_, fun s tx v h => ?_, fun s tx b v h => ⟨?_, fun u m => ?_⟩, fun s tx g v h => ⟨?_, fun u m => ?_⟩,
    fun s tx g cp v h => ⟨?_, fun u m h1 h2 h3 h4 => ?_⟩⟩
  · show Host.Outcome.next (s.regWrite1 tx 0x732 v) = _
    rw [State.writes_now (r := .kilnCtrl) h (by decide) rfl rfl]
    exact congrArg Host.Outcome.next (State.afterWrite_congr (State.writeKilnAt_eq _ v))
  · show Host.Outcome.next (s.regWrite1 tx 0x733 v) = _
    rw [State.writes_now (r := .scrubCtrl) h (by decide) rfl rfl]
    exact congrArg Host.Outcome.next (State.afterWrite_congr (State.writeScrub_eq _ v))
  · show Host.Outcome.next (s.regWrite1 tx (0x603 + 4 * b.val) v) = _
    rw [State.writes_later h (by omega) (regOf_plumb b) rfl]
    rfl
  · rw [State.riseAct_reg (regOf_plumb b)]
    rfl
  · show Host.Outcome.next (s.regWrite1 tx (0x048 + g.val) v) = _
    rw [State.writes_later h (by omega) (regOf_tamp g) rfl]
    rfl
  · rw [State.riseAct_reg (regOf_tamp g)]
    rfl
  · show Host.Outcome.next (s.regWrite1 tx ((if cp then 0x054 else 0x050) + g.val) v) = _
    rw [State.writes_later h (by split <;> omega) (regOf_pump cp g) (by split <;> rfl)]
    cases cp
    · rfl
    · rfl
  · rw [State.riseAct_reg (regOf_pump cp g)]
    have hp := u.risePump_eq g cp v h1 h2 h3 h4
    cases cp
    · exact hp
    · exact hp

/-! ### Gates -/

theorem State.modGate_modGate (s : State) (g : GateId) (f f' : Gate → Gate) :
    (s.modGate g f).modGate g f' = s.modGate g (fun x => f' (f x)) := by
  simp [State.modGate, State.gate]

theorem find?_finRange {f : Fin 8 → Bool} {i : Fin 8} (hi : f i = true) (hlow : ∀ j, j < i → f j = false) :
    (List.finRange 8).find? f = some i := by
  rw [List.find?_eq_some_iff_getElem]
  refine ⟨hi, i.val, by simp, by simp, fun j hj => ?_⟩
  have := hlow ⟨j, by omega⟩ hj
  simpa using this

/-- Pairs of regions come in the order of R427. -/
theorem regPairs_split : ∀ i j : Fin 8, i < j → (regPairs = regPairs.takeWhile (fun p => decide (p ≠ (i, j))) ++
    (i, j) :: (regPairs.dropWhile (fun p => decide (p ≠ (i, j)))).tail)
    ∧ ∀ p ∈ regPairs.takeWhile (fun p => decide (p ≠ (i, j))), p.1 < p.2 ∧ (p.1 < i ∨ (p.1 = i ∧ p.2 < j)) := by decide +kernel

theorem mem_regPairs : ∀ i j : Fin 8, (i, j) ∈ regPairs ↔ i < j := by decide +kernel

theorem find?_regPairs {f : Fin 8 × Fin 8 → Bool} {i j : Fin 8} (hlt : i < j) (hij : f (i, j) = true)
    (hlow : ∀ k l, k < l → k < i ∨ (k = i ∧ l < j) → f (k, l) = false) : regPairs.find? f = some (i, j) := by
  obtain ⟨hsplit, hbefore⟩ := regPairs_split i j hlt
  rw [List.find?_eq_some_iff_append]
  refine ⟨hij, _, _, hsplit, fun p hp => ?_⟩
  obtain ⟨h1, h2⟩ := hbefore p hp
  rw [hlow p.1 p.2 h1 h2]
  rfl

section
variable (g : GateId) (x : Gate)

/-- Region `i` is enabled and ill formed (R415). -/
def Gate.badRegion (i : Fin 8) : Bool := regEn x.regions[i.val] && !regWellFormed g x.regions[i.val]

/-- Regions of a pair are enabled and overlap (R416). -/
def Gate.clashing (p : Fin 8 × Fin 8) : Bool :=
  regEn x.regions[p.1.val] && regEn x.regions[p.2.val] && regOverlap x.regions[p.1.val] x.regions[p.2.val]

variable {g x}

theorem Gate.firstFault_none (hb : ∀ i, x.badRegion g i = false) (hc : ∀ i j, i < j → x.clashing (i, j) = false) :
    x.firstFault g = none := by
  have h1 : (List.finRange 8).find? (x.badRegion g) = none := List.find?_eq_none.2 fun i _ => by rw [hb i]; decide
  have h2 : regPairs.find? x.clashing = none := List.find?_eq_none.2 fun p hp => by
    rw [hc p.1 p.2 ((mem_regPairs p.1 p.2).1 hp)]
    decide
  unfold Gate.badRegion at h1
  unfold Gate.clashing at h2
  rw [Gate.firstFault, h1]
  dsimp only
  rw [h2]

theorem Gate.firstFault_bad {i : Fin 8} (hi : x.badRegion g i = true) (hb : ∀ j, j < i → x.badRegion g j = false) :
    x.firstFault g = some (1, BitVec.ofNat 3 i.val, BitVec.ofNat 3 i.val) := by
  have h1 := find?_finRange hi hb
  unfold Gate.badRegion at h1
  rw [Gate.firstFault, h1]

theorem Gate.firstFault_clash {i j : Fin 8} (hb : ∀ k, x.badRegion g k = false) (hlt : i < j) (hij : x.clashing (i, j) = true)
    (hlow : ∀ k l, k < l → k < i ∨ (k = i ∧ l < j) → x.clashing (k, l) = false) :
    x.firstFault g = some (2, BitVec.ofNat 3 i.val, BitVec.ofNat 3 j.val) := by
  have h1 : (List.finRange 8).find? (x.badRegion g) = none := List.find?_eq_none.2 fun i _ => by rw [hb i]; decide
  have h2 := find?_regPairs hlt hij hlow
  unfold Gate.badRegion at h1
  unfold Gate.clashing at h2
  rw [Gate.firstFault, h1]
  dsimp only
  rw [h2]

end

/-- R425, R426: an EN = 1 write to a disabled gate, without SAVE, is the enable check. -/
theorem State.writeGateCtrl_enables {s : State} {g : GateId} {v : Word} (hen : (s.gate g).en = false) (hsave : v.getLsbD 3 = false) :
    s.writeGateCtrl g (v ||| 1) = (s.modGate g (fun x => { x with strict := v.getLsbD 1 })).enableGate g := by
  unfold State.writeGateCtrl
  rw [hen, getLsbD_or_self v 1 (i := 0) (by decide), getLsbD_or_of v 1 (i := 1) (by decide), getLsbD_or_of v 1 (i := 3) (by decide), hsave]
  rfl

theorem State.gateEnable_takes {s : State} {tx : Tx} {g : GateId} {v : Word} {f : State → State}
    (h : s.mayWrite tx (BitVec.ofNat 12 (0x800 + 0x10 * g.val)) = true) (hen : (s.gate g).en = false) (hsave : v.getLsbD 3 = false)
    (hf : ∀ t : State, t.gate g = s.gate g → (t.modGate g (fun x => { x with strict := v.getLsbD 1 })).enableGate g = f t) :
    exec (.gateEnable tx g v) s = .next (s.afterWrite tx f) := by
  show Host.Outcome.next (s.regWrite1 tx (0x800 + 0x10 * g.val) (v ||| 1)) = _
  rw [State.writes_now h (by omega) (regOf_gateCtrl g) rfl]
  refine congrArg Host.Outcome.next (State.afterWrite_congr ?_)
  exact (State.writeGateCtrl_enables (s := s.counted tx) hen hsave).trans (hf _ rfl)

/-- An enable check that finds nothing, of a gate whose STRICT was just written. -/
theorem State.enableGate_passes {s : State} {g : GateId} (b : Bool) (hf : (s.gate g).firstFault g = none) :
    (s.modGate g (fun x => { x with strict := b })).enableGate g =
      s.modGate g (fun x => { x with en := true, strict := b, epoch := x.epoch + 1, fault := 0 }) := by
  have hg : ((s.modGate g (fun x => { x with strict := b })).gate g).firstFault g = none := by
    rw [State.modGate_gate_self]
    exact hf
  unfold State.enableGate
  rw [hg]
  exact State.modGate_modGate _ _ _ _

/-- An enable check that finds a fault, of a gate whose STRICT was just written. -/
theorem State.enableGate_faults {s : State} {g : GateId} (b : Bool) {k : BitVec 2} {i j : BitVec 3}
    (hf : (s.gate g).firstFault g = some (k, i, j)) : (s.modGate g (fun x => { x with strict := b })).enableGate g =
      (s.modGate g (fun x => { x with strict := b, fault := k, faulta := i, faultb := j })).cause cGate := by
  have hg : ((s.modGate g (fun x => { x with strict := b })).gate g).firstFault g = some (k, i, j) := by
    rw [State.modGate_gate_self]
    exact hf
  unfold State.enableGate
  rw [hg]
  exact congrArg (fun t : State => t.cause cGate) (State.modGate_modGate _ _ _ _)

/-- R429: an EN = 0 write without SAVE disables at once. -/
theorem State.writeGateCtrl_disables {s : State} {g : GateId} {v : Word} (hsave : v.getLsbD 3 = false) :
    s.writeGateCtrl g (v &&& ~~~ (1 : Word)) =
      s.modGate g (fun x => { x with en := false, strict := if x.en then x.strict else v.getLsbD 1 }) := by
  have h0 : (v &&& ~~~ (1 : Word)).getLsbD 0 = false := by simp
  have h1 : (v &&& ~~~ (1 : Word)).getLsbD 1 = v.getLsbD 1 := by simp
  have h3 : (v &&& ~~~ (1 : Word)).getLsbD 3 = false := by
    rw [BitVec.getLsbD_and, hsave]
    rfl
  unfold State.writeGateCtrl
  dsimp only
  rw [h0, h1, h3]
  cases hen : (s.gate g).en with
  | false =>
    simp [State.modGate, State.gate] at hen ⊢
    simp [hen]
  | true =>
    simp [State.modGate, State.gate] at hen ⊢
    simp [hen]

/-- R435: SAVE of an enabled gate that stays enabled writes its image, at level OPEN with WP# high. -/
theorem State.writeGateCtrl_saves {s : State} {g : GateId} {v : Word} (hen : (s.gate g).en = true) (h0 : v.getLsbD 0 = true) :
    s.writeGateCtrl g (v ||| 8) = if s.isOpen = false then s.modLife (fun l => { l with lvlx := true })
      else if s.pins.wp = false then s.modGate g (fun x => { x with wpx := true })
      else s.plinthWrite (.image g { en := true, strict := (s.gate g).strict, regions := (s.gate g).regions }) := by
  unfold State.writeGateCtrl
  rw [hen, getLsbD_or_self v 8 (i := 3) (by decide), getLsbD_or_of v 8 (i := 0) (by decide), h0]
  simp only [if_true, hen]
  cases s.isOpen <;> cases s.pins.wp <;> rfl

/-- Settles O44: an EN = 1 write is the enable check, decided by the first fault; an EN = 0 write and a SAVE act at once. -/
theorem gateRegisters : Obligations.GateRegisters := by
  refine ⟨fun s tx g v h hen hsave => ?_, fun s tx g v h hsave => ?_, fun s tx g v h hen hbit => ?_⟩
  · intro r bad clash
    have hbad : ∀ i, ¬ bad i → (s.gate g).badRegion g i = false := fun i hi => by
      simpa [bad, r, Gate.badRegion] using hi
    have hclash : ∀ i j, i < j → ¬ clash i j → (s.gate g).clashing (i, j) = false := fun i j hlt hij => by
      simpa [clash, r, Gate.clashing, hlt] using hij
    refine ⟨fun hb hc => ?_, fun i hi hlow => ?_, fun i j hb hij hlow => ?_⟩
    · have hf := Gate.firstFault_none (fun i => hbad i (hb i)) (fun i j hlt => hclash i j hlt (hc i j))
      exact State.gateEnable_takes h hen hsave fun t ht => State.enableGate_passes _ (by rw [ht]; exact hf)
    · have hi' : (s.gate g).badRegion g i = true := by simpa [bad, r, Gate.badRegion] using hi
      have hf := Gate.firstFault_bad hi' fun j hj => hbad j (hlow j hj)
      exact State.gateEnable_takes h hen hsave fun t ht => State.enableGate_faults _ (by rw [ht]; exact hf)
    · have hij' : (s.gate g).clashing (i, j) = true := by simpa [clash, r, Gate.clashing, hij.1, and_assoc] using hij.2
      have hf := Gate.firstFault_clash (fun k => hbad k (hb k)) hij.1 hij' fun k l hlt hkl => hclash k l hlt (hlow k l hkl)
      exact State.gateEnable_takes h hen hsave fun t ht => State.enableGate_faults _ (by rw [ht]; exact hf)
  · show Host.Outcome.next (s.regWrite1 tx (0x800 + 0x10 * g.val) (v &&& ~~~ (1 : Word))) = _
    rw [State.writes_now h (by omega) (regOf_gateCtrl g) rfl]
    exact congrArg Host.Outcome.next (State.afterWrite_congr (State.writeGateCtrl_disables hsave))
  · show Host.Outcome.next (s.regWrite1 tx (0x800 + 0x10 * g.val) (v ||| 8)) = _
    rw [State.writes_now h (by omega) (regOf_gateCtrl g) rfl]
    exact congrArg Host.Outcome.next (State.afterWrite_congr (State.writeGateCtrl_saves hen hbit))

end Sys2Proof.Machine
end

section
/-! PROOFS. Writes of PRIV, MARK_LOCK and MAPMODE (R286, R287, R431, R441, R463 to R465). -/
namespace Sys2Proof.Machine

theorem getLsbD_portBit : ∀ p q : PortId, ((1 <<< q.val : Nat) : BitVec 8).getLsbD p.val = decide (p = q) := by decide

/-- The BOOTEN bits that a configuration record takes, port by port. -/
theorem getLsbD_portBits (f : PortId → Bool) (p : PortId) (l : List PortId) (a : BitVec 8) :
    (l.foldl (fun (a : BitVec 8) q => if f q then a ||| (1 <<< q.val) else a) a).getLsbD p.val =
      (a.getLsbD p.val || (decide (p ∈ l) && f p)) := by
  induction l generalizing a with
  | nil => simp
  | cons q l ih =>
    rw [List.foldl_cons, ih]
    by_cases hpq : p = q
    · subst hpq
      cases hf : f p with
      | false => simp
      | true =>
        rw [if_pos rfl, BitVec.getLsbD_or, getLsbD_portBit]
        simp
    · have hbit : (if f q = true then a ||| (1 <<< q.val) else a).getLsbD p.val = a.getLsbD p.val := by
        split
        · rw [BitVec.getLsbD_or, getLsbD_portBit, decide_eq_false hpq, Bool.or_false]
        · rfl
      rw [hbit]
      simp [hpq]

theorem State.configNow_booten (s : State) (p : PortId) : s.configNow.booten.getLsbD p.val = (s.port p).booten := by
  refine (getLsbD_portBits (fun q => (s.port q).booten) p allPorts 0).trans ?_
  simp [allPorts]

/-- `t` has queued a configuration record of its own registers, behind the plinth writes of `u`. -/
def State.SavesConfig (u t : State) : Prop := ∃ c : CfgRec, t.plinth.queue = u.plinth.queue ++ [.config c]
  ∧ c.priv = t.life.priv ∧ c.lock = t.life.lock ∧ c.hide = t.life.hide ∧ c.mapmode = t.glob.mapmode
  ∧ ∀ p : PortId, c.booten.getLsbD p.val = (u.port p).booten

theorem State.savesConfig_writeConfig {u s : State} (hq : s.plinth.queue = u.plinth.queue) (hp : s.ports = u.ports) :
    u.SavesConfig s.writeConfig :=
  ⟨s.configNow, by rw [State.writeConfig, State.plinthWrite_queue, hq], rfl, rfl, rfl, rfl,
    fun p => (s.configNow_booten p).trans (congrArg Port.booten (port_of_ports hp p))⟩

/-- R431: a change of PRIV raises the epoch of every enabled gate. -/
theorem State.bumpEpochs_gate (s : State) (g : GateId) : s.bumpEpochs.gate g = { s.gate g with
    epoch := if (s.gate g).en = true then (s.gate g).epoch + 1 else (s.gate g).epoch } := by
  rw [State.gate, State.bumpEpochs, Vector.getElem_map]
  show (if (s.gate g).en = true then _ else s.gate g) = _
  split
  · rfl
  · rfl

section
variable {u : State} {v : Word} (m : PortId)

/-- R441, R431: PRIV in force. -/
theorem State.risePriv_takes (ho : u.isOpen = true) (hw : u.pins.wp = true) :
    let p : BitVec 32 := v.extractLsb' 0 32 &&& 0x7FFFFFFF
    let s := u.modLife (fun l => { l with priv := p })
    u.risePriv v = (if p = u.life.priv then s else s.bumpEpochs).writeConfig := by
  unfold State.risePriv
  rw [ho, hw]
  rfl

end

/-- Settles O45: the writes leave their value for the rise; there each act changes its own field and queues the record. -/
theorem levelRegisters : Obligations.LevelRegisters := by
  refine ⟨fun s tx v h => ?_, fun s tx v h => ⟨?_, ?_⟩, fun s tx v h => ?_, fun u m v => ⟨?_, ?_, ?_⟩⟩
  · exact congrArg Host.Outcome.next (State.writes_later (r := .priv) h (by decide) rfl rfl)
  · exact congrArg Host.Outcome.next (State.writes_later (r := .markLock) h (by decide) rfl rfl)
  · exact congrArg Host.Outcome.next (State.writes_later (r := .markLock) h (by decide) rfl rfl)
  · exact congrArg Host.Outcome.next (State.writes_later (r := .mapmode) h (by decide) rfl rfl)
  · rw [State.riseAct_reg (r := .priv) rfl]
    refine ⟨fun ho => ?_, fun ho hw => ?_, fun ho hw => ?_⟩
    · rw [State.writeAtRise, State.risePriv, ho]
      rfl
    · rw [State.writeAtRise, State.risePriv, ho, hw]
      rfl
    · rw [State.writeAtRise, State.risePriv_takes ho hw]
      by_cases hp : (v.extractLsb' 0 32 &&& 0x7FFFFFFF : BitVec 32) = u.life.priv
      · rw [if_pos hp]
        refine ⟨⟨rfl, rfl, rfl, rfl, rfl, rfl, rfl, rfl⟩, State.savesConfig_writeConfig rfl rfl, rfl, rfl, fun g => ?_⟩
        rw [if_neg (fun h => h.2 hp)]
        rfl
      · rw [if_neg hp]
        refine ⟨⟨rfl, rfl, rfl, rfl, rfl, rfl, rfl, rfl⟩, State.savesConfig_writeConfig rfl rfl, rfl, rfl, fun g => ?_⟩
        refine (State.bumpEpochs_gate _ g).trans ?_
        refine congrArg (fun e => { u.gate g with epoch := e }) ?_
        by_cases hen : (u.gate g).en = true
        · exact (if_pos hen).trans (if_pos ⟨hen, hp⟩).symm
        · exact (if_neg hen).trans (if_neg fun h => hen h.1).symm
  · rw [State.riseAct_reg (r := .markLock) rfl]
    refine ⟨fun hz => ?_, fun hz hw => ?_, fun hz hw => ?_⟩
    · rw [State.writeAtRise, State.riseMarkLock]
      exact if_pos hz
    · rw [State.writeAtRise, State.riseMarkLock, hw]
      exact if_neg hz
    · have ht : u.writeAtRise .markLock v = (u.modLife (fun l =>
          { l with lock := l.lock ||| fieldOf v 0 16, hide := l.hide ||| fieldOf v 16 16 })).writeConfig := by
        rw [State.writeAtRise, State.riseMarkLock, hw]
        exact if_neg hz
      rw [ht]
      exact ⟨⟨rfl, rfl, rfl, rfl, rfl, rfl, rfl, rfl⟩, State.savesConfig_writeConfig rfl rfl, rfl, rfl, rfl⟩
  · rw [State.riseAct_reg (r := .mapmode) rfl]
    refine ⟨fun hw => ?_, fun hw => ?_⟩
    · rw [State.writeAtRise, State.riseMapmode, hw]
      rfl
    · have ht : u.writeAtRise .mapmode v = (u.modGlob (fun g => { g with mapmode := v })).writeConfig := by
        rw [State.writeAtRise, State.riseMapmode, hw]
        rfl
      rw [ht]
      exact ⟨⟨rfl, rfl, rfl, rfl, rfl, rfl, rfl, rfl⟩, State.savesConfig_writeConfig rfl rfl, rfl, rfl, rfl⟩

end Sys2Proof.Machine
end

section
/-! PROOFS. Writes of the annex registers (R477, R480, R481, R504, R506 to R511, R515). -/
namespace Sys2Proof.Machine

theorem regOf_anxDiv : ∀ a : AnnexId, regOf (BitVec.ofNat 12 (0x202 + 0x20 * a.val)) = .anxDiv a := by decide +kernel
theorem regOf_pcfg : ∀ (a : AnnexId) (q : PartnerId),
    regOf (BitVec.ofNat 12 (0x208 + 0x20 * a.val + q.val)) = .pcfg a q := by decide +kernel
theorem regOf_anxGpio : ∀ a : AnnexId, regOf (BitVec.ofNat 12 (0x203 + 0x20 * a.val)) = .anxGpio a := by decide +kernel
theorem regOf_anxCtrl : ∀ a : AnnexId, regOf (BitVec.ofNat 12 (0x200 + 0x20 * a.val)) = .anxCtrl a := by decide +kernel
theorem regOf_pstat : ∀ (a : AnnexId) (q : PartnerId),
    regOf (BitVec.ofNat 12 (0x214 + 0x20 * a.val + q.val)) = .pstat a q := by decide +kernel

/-! ### The map check of EN = 1 -/

section
variable {x : Annex} {q : PartnerId} {v : Word}

/-- Base of partner `r`'s map in units of `2 ^ w` bytes. -/
def Annex.mapUnit (x : Annex) (r : PartnerId) (w : Nat) : Nat := x.partners[r.val].base.toNat * 65536 / 2 ^ w

/-- The map check of R481. -/
theorem Annex.mapCheck_iff : x.mapCheck q = true ↔
    16 ≤ x.partners[q.val].size.toNat ∧ x.partners[q.val].size.toNat ≤ 29
    ∧ x.partners[q.val].base.toNat * 65536 % 2 ^ x.partners[q.val].size.toNat = 0
    ∧ ∀ r : PartnerId, r ≠ q → x.partners[r.val].en = true →
        x.mapUnit q (max x.partners[q.val].size.toNat x.partners[r.val].size.toNat) ≠
          x.mapUnit r (max x.partners[q.val].size.toNat x.partners[r.val].size.toNat) := by
  simp only [Annex.mapCheck, Annex.mapUnit, allPartners, Bool.and_eq_true, decide_eq_true_eq, List.all_eq_true, Bool.or_eq_true,
    beq_iff_eq, Bool.not_eq_true', List.mem_finRange, true_implies, and_assoc]
  refine and_congr_right fun _ => and_congr_right fun _ => and_congr_right fun _ => forall_congr' fun r => ?_
  constructor
  · rintro ((h | h) | h) hr hen
    · exact absurd h hr
    · rw [hen] at h
      cases h
    · exact h
  · intro h
    by_cases hr : r = q
    · exact Or.inl (Or.inl hr)
    · cases hen : x.partners[r.val].en with
      | false => exact Or.inl (Or.inr rfl)
      | true => exact Or.inr (h hr hen)

/-- The RWD fields of ANX_PCFG, written while EN is 0. -/
def Partner.configured (y : Partner) (v : Word) : Partner :=
  { y with dtrop := v.extractLsb' 56 8, dtrdummy := v.extractLsb' 51 5, maxmode := v.extractLsb' 16 3, userds := v.getLsbD 2 }

/-- The fields that the map check does not read leave it alone. -/
theorem Annex.mapCheck_configured : ({ x with partners := x.partners.set q.val (x.partners[q.val].configured v) } : Annex).mapCheck q =
    x.mapCheck q := by
  have hread : ∀ r : PartnerId, (x.partners.set q.val (x.partners[q.val].configured v))[r.val] =
      if r = q then x.partners[q.val].configured v else x.partners[r.val] := by
    intro r
    by_cases hr : r = q
    · subst hr
      simp
    · rw [if_neg hr, Vector.getElem_set_ne]
      exact fun h => hr (Fin.ext h.symm)
  rw [Bool.eq_iff_iff, Annex.mapCheck_iff, Annex.mapCheck_iff]
  simp only [Annex.mapUnit, hread, if_true]
  refine and_congr Iff.rfl (and_congr Iff.rfl (and_congr Iff.rfl (forall_congr' fun r => imp_congr_right fun hr => ?_)))
  rw [if_neg hr]
  rfl

/-- R480, R481: EN = 1 written to a disabled partner. -/
theorem Annex.writeCfg_enables (hen : x.partners[q.val].en = false) : x.writeCfg q (v ||| 1) =
    { x with partners := x.partners.set q.val (if x.mapCheck q = true then { x.partners[q.val].configured v with en := true, state := 0 }
      else { x.partners[q.val].configured v with mapfault := true }) } := by
  have hcheck := Annex.mapCheck_configured (x := x) (q := q) (v := v)
  unfold Partner.configured at hcheck ⊢
  unfold Annex.writeCfg fieldOf
  dsimp only
  rw [hen] at hcheck ⊢
  rw [getLsbD_or_self v 1 (i := 0) (by decide), getLsbD_or_of v 1 (i := 2) (by decide), extractLsb'_or_of, extractLsb'_or_of,
    extractLsb'_or_of]
  · simp only [Bool.not_true, Bool.false_eq_true, if_false, hcheck]
    split
    · rfl
    · rfl
  all_goals decide

end

/-! ### Selects and lanes under manual control -/

section
variable (x : Annex) (v : Word)

theorem getLsbD_fourBits : ∀ (a b c d : Bool) (q : Fin 4),
    (BitVec.ofBool d ++ BitVec.ofBool c ++ BitVec.ofBool b ++ BitVec.ofBool a).getLsbD q.val = #v[a, b, c, d][q.val] := by decide

theorem Annex.ownSelects_getLsbD (q : PartnerId) : x.ownSelects.getLsbD q.val = x.partners[q.val].en := by
  rw [Annex.ownSelects]
  refine (getLsbD_fourBits _ _ _ _ q).trans ?_
  match q with
  | 0 => rfl
  | 1 => rfl
  | 2 => rfl
  | 3 => rfl

theorem bitVec4_ne_zero : ∀ y : BitVec 4, (y != 0) = true ↔ ∃ q : PartnerId, y.getLsbD q.val = true := by decide

theorem Annex.riseGpio_sellow (q : PartnerId) : (x.riseGpio v).sellow.getLsbD q.val =
    if x.partners[q.val].en then x.sellow.getLsbD q.val else v.getLsbD (24 + q.val) := by
  have hmerged : (x.riseGpio v).sellow = (x.sellow &&& x.ownSelects) ||| (v.extractLsb' 24 4 &&& ~~~ x.ownSelects) := by
    unfold Annex.riseGpio
    dsimp only
    split
    · rfl
    · split
      · rfl
      · rfl
  rw [hmerged]
  simp only [BitVec.getLsbD_or, BitVec.getLsbD_and, BitVec.getLsbD_not, BitVec.getLsbD_extractLsb', Annex.ownSelects_getLsbD,
    decide_eq_true q.isLt, Bool.true_and]
  cases x.partners[q.val].en <;> simp

theorem Annex.riseGpio_lanes : ((x.riseGpio v).sckout, (x.riseGpio v).sckoe, (x.riseGpio v).dqout, (x.riseGpio v).dqoe) =
    if x.manualon then (v.getLsbD 17, v.getLsbD 16, v.extractLsb' 8 4, v.extractLsb' 4 4) else (x.sckout, x.sckoe, x.dqout, x.dqoe) := by
  unfold Annex.riseGpio
  dsimp only
  split
  · rfl
  · split
    · rfl
    · rfl

theorem Annex.riseGpio_conf : (x.riseGpio v).gpioConf = true ↔ x.gpioConf = true
    ∨ (∃ q : PartnerId, x.partners[q.val].en = true ∧ v.getLsbD (24 + q.val) = true)
    ∨ (x.manualon = false ∧
        (v.getLsbD 17, v.getLsbD 16, v.extractLsb' 8 4, v.extractLsb' 4 4) ≠ (x.sckout, x.sckoe, x.dqout, x.dqoe)) := by
  have hown : (v.extractLsb' 24 4 &&& x.ownSelects != 0) = true ↔
      ∃ q : PartnerId, x.partners[q.val].en = true ∧ v.getLsbD (24 + q.val) = true := by
    rw [bitVec4_ne_zero]
    refine exists_congr fun q => ?_
    rw [BitVec.getLsbD_and, Annex.ownSelects_getLsbD, BitVec.getLsbD_extractLsb', decide_eq_true q.isLt, Bool.true_and,
      Bool.and_eq_true]
    exact and_comm
  rw [← hown]
  unfold Annex.riseGpio fieldOf
  dsimp only
  cases x.manualon with
  | true => simp
  | false =>
    simp only [Bool.false_eq_true, if_false, ne_eq, Prod.mk.injEq, true_and]
    split
    · simp_all
    · simp_all

end

/-! ### ANX_CTRL and ANX_PSTAT -/

/-- R515: selects of enabled partners. -/
theorem Annex.selectsHigh_iff {x : Annex} : x.selectsHigh = true ↔
    ∀ q : PartnerId, x.partners[q.val].en = true → x.selIn.getLsbD q.val = true := by
  simp only [Annex.selectsHigh, allPartners, List.all_eq_true, List.mem_finRange, true_implies, Bool.or_eq_true, Bool.not_eq_true']
  refine forall_congr' fun q => ?_
  cases x.partners[q.val].en <;> simp

theorem State.modAnx_congr {s : State} {a : AnnexId} {f g : Annex → Annex} (h : f (s.anx a) = g (s.anx a)) :
    s.modAnx a f = s.modAnx a g := by rw [State.modAnx, h, State.modAnx]

/-- A write of ANX_CTRL with RECLAIM 0 and EN 1 does nothing on its edge. -/
theorem State.writeAnxCtrl_idle {s : State} {a : AnnexId} {v : Word} (h0 : v.getLsbD 0 = true) (h3 : v.getLsbD 3 = false) :
    s.writeAnxCtrl a v = s := by
  unfold State.writeAnxCtrl
  rw [h0, h3]
  rfl

/-- R511: EN = 0 waits for the annex's running operations. -/
theorem State.writeAnxCtrl_disables {s : State} {a : AnnexId} {v : Word} (h0 : v.getLsbD 0 = false) (h3 : v.getLsbD 3 = false) :
    s.writeAnxCtrl a v = s.modAnx a (fun x =>
      if s.annexRunning a then { x with enOff := x.en } else { x with en := false, enOff := false }) := by
  unfold State.writeAnxCtrl
  rw [h0, h3]
  simp only [Bool.false_eq_true, if_false]
  split
  · rfl
  · rfl

/-- R515: RECLAIM with EN 1. -/
theorem State.writeAnxCtrl_reclaims {s : State} {a : AnnexId} {v : Word} (h0 : v.getLsbD 0 = true) (h3 : v.getLsbD 3 = true) :
    s.writeAnxCtrl a v = s.modAnx a (fun x =>
      if (s.anx a).selectsHigh = true then { x.unprobeAll with yielded := false } else { x with reclaimx := true }) := by
  unfold State.writeAnxCtrl
  rw [h0, h3]
  simp only [if_true]
  split
  · rfl
  · rfl

/-- A write of ANX_CTRL acts on its edge, and again at the rise. -/
theorem State.writes_anxCtrl {s : State} {tx : Tx} {a : AnnexId} {v : Word} {f : State → State}
    (h : s.mayWrite tx (BitVec.ofNat 12 (0x200 + 0x20 * a.val)) = true)
    (hf : ∀ t : State, t.annex = s.annex → t.ledger = s.ledger → t.writeAnxCtrl a v = f t) :
    (.next (s.regWrite1 tx (0x200 + 0x20 * a.val) v) : Outcome) = .next (s.afterWrite tx (fun t =>
      (f t).leaves tx.port (.regAct (BitVec.ofNat 12 (0x200 + 0x20 * a.val)) v))) := by
  rw [State.writes_later h (by omega) (regOf_anxCtrl a) rfl]
  refine congrArg Host.Outcome.next (State.afterWrite_congr ?_)
  exact congrArg (fun t : State => t.leaves tx.port _) (hf (s.counted tx) rfl rfl)

/-- R504. -/
theorem Partner.writeStat_clears (y : Partner) (v : Word) : y.writeStat (v ||| 2) =
    { y with mapfault := y.mapfault && !v.getLsbD 2, fenced := false, state := 0 } := by
  unfold Partner.writeStat
  rw [getLsbD_or_self v 2 (i := 1) (by decide), getLsbD_or_of v 2 (i := 2) (by decide)]
  rfl

/-- Settles O46: each register's write on its edge, by what it does to its annex, and its act at the rise. -/
theorem annexRegisters : Obligations.AnnexRegisters := by
  refine ⟨fun s tx a v h => ?_, fun s tx a q v h hen => ?_, fun s tx a v h => ?_, fun u m a v => ?_,
    fun s tx a v h => ⟨fun h0 h3 => ⟨?_, ?_⟩, fun h3 => ⟨?_, ?_⟩, fun h0 => ?_⟩, fun u m a v => ?_, fun s tx a q v h => ?_⟩
  · show Host.Outcome.next (s.regWrite1 tx (0x202 + 0x20 * a.val) v) = _
    rw [State.writes_now h (by omega) (regOf_anxDiv a) rfl]
    rfl
  · have hwrite : exec (.partnerEnable tx a q v) s = .next (s.afterWrite tx (fun t => t.modPartner a q (fun y =>
        if (s.anx a).mapCheck q = true then { y.configured v with en := true, state := 0 }
        else { y.configured v with mapfault := true }))) := by
      show Host.Outcome.next (s.regWrite1 tx (0x208 + 0x20 * a.val + q.val) (v ||| 1)) = _
      rw [State.writes_now h (by omega) (regOf_pcfg a q) rfl]
      refine congrArg Host.Outcome.next (State.afterWrite_congr ?_)
      have hx : ((s.counted tx).anx a).partners[q.val].en = false := hen
      have hanx : (s.counted tx).anx a = s.anx a := rfl
      show (s.counted tx).modAnx a (fun x => x.writeCfg q (v ||| 1)) = _
      exact State.modAnx_congr (by rw [Annex.writeCfg_enables hx, hanx])
    refine ⟨fun hgood => ?_, fun hbad => ?_⟩
    · have hc : (s.anx a).mapCheck q = true := Annex.mapCheck_iff.2 hgood
      rw [hwrite, hc]
      rfl
    · have hc : ¬ (s.anx a).mapCheck q = true := fun hc => hbad (Annex.mapCheck_iff.1 hc)
      rw [hwrite]
      simp only [if_neg hc]
      rfl
  · show Host.Outcome.next (s.regWrite1 tx (0x203 + 0x20 * a.val) v) = _
    rw [State.writes_later h (by omega) (regOf_anxGpio a) rfl]
    rfl
  · rw [State.riseAct_reg (regOf_anxGpio a)]
    have ha : (u.writeAtRise (.anxGpio a) v).anx a = (u.anx a).riseGpio v := State.modAnx_anx_self u a _
    dsimp only
    rw [ha]
    exact ⟨fun q => Annex.riseGpio_sellow _ _ q, Annex.riseGpio_lanes _ _, Annex.riseGpio_conf _ _, rfl,
      fun b hb => State.modAnx_anx_of_ne u a _ b hb⟩
  · exact State.writes_anxCtrl h fun t _ _ => State.writeAnxCtrl_idle (by rw [getLsbD_or_of v 2 (by decide), h0])
      (by rw [getLsbD_or_of v 2 (by decide), h3])
  · exact State.writes_anxCtrl h fun t _ _ => State.writeAnxCtrl_idle (by simp [h0])
      (by rw [BitVec.getLsbD_and, h3]; rfl)
  · exact State.writes_anxCtrl h fun t _ _ => State.writeAnxCtrl_idle (getLsbD_or_self v 1 (by decide))
      (by rw [getLsbD_or_of v 1 (by decide), h3])
  · refine State.writes_anxCtrl h fun t _ hl => ?_
    have hr : t.annexRunning a = s.annexRunning a := by rw [State.annexRunning, hl]; rfl
    rw [State.writeAnxCtrl_disables (by simp) (by rw [BitVec.getLsbD_and, h3]; rfl), hr]
  · refine State.writes_anxCtrl h fun t ha _ => ?_
    have hx : t.anx a = s.anx a := by rw [State.anx, ha]; rfl
    rw [State.writeAnxCtrl_reclaims (by rw [getLsbD_or_of v 8 (by decide), h0]) (getLsbD_or_self v 8 (by decide)), hx]
    refine State.modAnx_congr ?_
    rw [hx]
    by_cases hs : (s.anx a).selectsHigh = true
    · rw [if_pos hs]
      exact (if_pos (Annex.selectsHigh_iff.1 hs)).symm
    · rw [if_neg hs]
      exact (if_neg fun hq => hs (Annex.selectsHigh_iff.2 hq)).symm
  · rw [State.riseAct_reg (regOf_anxCtrl a)]
    rfl
  · show Host.Outcome.next (s.regWrite1 tx (0x214 + 0x20 * a.val + q.val) (v ||| 2)) = _
    rw [State.writes_now h (by omega) (regOf_pstat a q) rfl]
    refine congrArg Host.Outcome.next (State.afterWrite_congr ?_)
    exact congrArg ((s.counted tx).modPartner a q) (funext fun y => y.writeStat_clears v)

end Sys2Proof.Machine
end

section
/-! PROOFS. Suspending and resuming (R187, R188, R313 to R325). -/
namespace Sys2Proof.Machine

/-! ### A direct SUSPEND -/

/-- A SIGNAL of S00 in ledger slot 0 that has completed: a record that port 0 may drive. -/
def waitingRecord : Op :=
  let pk : Packet := {
    alien := none, flags := 0, sub := 0, seq := 0, addr := 0, count := 0, after := 0xFF, wait := 0xFF, signal := 0xFF, zero := 0, crc := 0 }
  { State.reset.opOf { op := opSignal, pk := pk, port := some 0, payload := [], src := 0, badSrc := false, kind := .scrub } 0 with
    id := 5, state := .complete }

/-- Bank 4 runs a clear that names an operation which is a record already, and port 0 waits for a command. -/
def clearingForRecord : State :=
  { State.reset with
    ports := State.reset.ports.set 0 { Port.reset 0 with
      csLow := true, period := 100000, declared := true, periodNow := 100000, declaredNow := true, mask := 1 }
    pace := { Pace.reset with holder := some 0 }
    boot := { Boot.reset with step := 0 }
    ledger := { State.reset.ledger with ops := [waitingRecord] }
    banks := State.reset.banks.set 4 { Bank.reset with
      state := .clearing, unlimited := true
      clear := some {
        op := 5, purpose := .operation, unit := .block 0, lblock := 0, held := false, verified := false, time := 0, pulses := 0,
        pulse := none, stretch := 100, boundary := false, serving := false, fireTime := 0, stage := 0, inClear := false, tokens := 0 } } }

/-- Refutes O25: where the clear that is suspended names a record, its slot shows SUSPENDED, the record is none any more, and the
ATTN bit of the status byte falls before the reply is made up. -/
theorem not_suspendAndResume : ¬ Obligations.SuspendAndResume := by
  intro h
  obtain ⟨t, hexec, hreply, _⟩ := h.1 clearingForRecord { port := 0, compl := true, waited := 2, drift := [] } 0x08000000 4
    (by decide +kernel) (by decide +kernel) (by decide +kernel)
  cases hexec
  exact absurd (congrArg Reply.status hreply) (by decide +kernel)

/-! ### Suspension complete, deferred grant, automatic resume -/

section
variable {s : State} {b : BankId}

/-- What a suspension shows of itself: a slot state and a trace entry. Every operation of the clear's name shows it. -/
theorem State.shows_eq (s : State) (b : BankId) (st : OpState) (action : Byte) : ∃ l tr,
    (s.slotShows b st).traceSusp action b = { s with ledger := l, trace := tr }
    ∧ ∀ c, (s.bank b).clear = some c → ∀ x ∈ l.ops, x.id = c.op → x.state = st := by
  have htrace : ∀ u : State, ∃ tr, u.traceSusp action b = { u with trace := tr } := by
    intro u
    unfold State.traceSusp
    split
    · exact ⟨_, rfl⟩
    · exact ⟨u.trace, rfl⟩
  have hslot : ∃ l, s.slotShows b st = { s with ledger := l }
      ∧ ∀ c, (s.bank b).clear = some c → ∀ x ∈ l.ops, x.id = c.op → x.state = st := by
    unfold State.slotShows State.clearOp
    cases hc : (s.bank b).clear with
    | none => exact ⟨s.ledger, rfl, fun c h => absurd h (Option.some_ne_none c).symm⟩
    | some c =>
      rw [Option.bind_some]
      cases ho : s.op? c.op with
      | none =>
        refine ⟨s.ledger, rfl, fun d hd x hx hid => ?_⟩
        cases hd
        have hnone := List.find?_eq_none.1 ho x hx
        exact absurd (beq_iff_eq.2 hid) hnone
      | some o =>
        refine ⟨_, rfl, fun d hd x hx hid => ?_⟩
        cases hd
        obtain ⟨y, -, rfl⟩ := List.mem_map.1 hx
        by_cases hy : (y.id == o.id) = true
        · rw [if_pos hy]
        · rw [if_neg hy] at hid
          exact absurd (beq_iff_eq.2 (hid.trans (State.op?_id ho).symm)) hy
  obtain ⟨l, hl, hall⟩ := hslot
  rw [hl]
  obtain ⟨tr, htr⟩ := htrace { s with ledger := l }
  exact ⟨l, tr, htr, hall⟩

/-- A bank that runs on after a suspension (R324). -/
def Bank.resumed (k : Bank) : Bank :=
  { k with
    state := (match k.clear with | some c => if c.purpose == .firing then .firing else .clearing | none => .idle),
    run := 0, suspPs := 0, resumeDue := false, hostsusp := false, suspPolicy := false }

/-- A bank whose clear or firing is granted a suspend (R319). -/
def Bank.granted (k : Bank) (host : Bool) : Bank :=
  { k with
    state := .suspending, clear := k.clear.map (fun c => { c.dropPulse with serving := false }), suspends := k.suspends + 1, suspPs := 0,
    suspPolicy := k.unlimited, deferred := false, deferHost := false, resumeDue := false, hostsusp := k.hostsusp || host }

theorem State.resumeNow_eq (s : State) (b : BankId) : ∃ l tr,
    s.resumeNow b = { s.modBank b Bank.resumed with ledger := l, trace := tr }
    ∧ ∀ c, (s.bank b).clear = some c → ∀ x ∈ l.ops, x.id = c.op → x.state = .running := by
  obtain ⟨l, tr, heq, hall⟩ := State.shows_eq (s.modBank b Bank.resumed) b .running tResume
  refine ⟨l, tr, heq, fun c hc => hall c ?_⟩
  rw [State.modBank_bank_self]
  exact hc

theorem State.grantSuspend_eq (s : State) (b : BankId) (host : Bool) : ∃ l tr,
    s.grantSuspend b host = { s.modBank b (Bank.granted · host) with ledger := l, trace := tr }
    ∧ ∀ c, (s.bank b).clear = some c → ∀ x ∈ l.ops, x.id = c.op → x.state = .suspended := by
  obtain ⟨l, tr, heq, hall⟩ := State.shows_eq (s.modBank b (Bank.granted · host)) b .suspended tSuspend
  refine ⟨l, tr, heq, fun c hc => ?_⟩
  have hgranted : ((s.modBank b (Bank.granted · host)).bank b).clear = some { c.dropPulse with serving := false } := by
    rw [State.modBank_bank_self]
    exact congrArg (Option.map fun c : ClearRun => { c.dropPulse with serving := false }) hc
  have hop : c.dropPulse.op = c.op := by
    unfold ClearRun.dropPulse
    split
    · rfl
    · rfl
  exact fun x hx hid => hall _ hgranted x hx (hid.trans hop.symm)

theorem Bank.resumed_state {k : Bank} {c : ClearRun} (hc : k.clear = some c) :
    k.resumed.state = if c.purpose = .firing then .firing else .clearing := by
  rw [Bank.resumed]
  dsimp only
  rw [hc]
  exact if_congr beq_iff_eq rfl rfl

theorem State.onEdge_pacing {s t : State} (h : s.pace.holder.isSome = true) : s.onEdge t = .next t := by
  rw [State.onEdge, h]
  rfl

theorem State.onEdge_self (s : State) : s.onEdge s = .next s := by
  rw [State.onEdge, ite_self]

end

/-- What `resumeNow` leaves of a bank with a clear, and of the others. -/
theorem State.resumeNow_resumes {s : State} {b : BankId} {c : ClearRun} (hc : (s.bank b).clear = some c) :
    ((s.resumeNow b).bank b).state = (if c.purpose = .firing then .firing else .clearing)
    ∧ ((s.resumeNow b).bank b).clear = some c ∧ ((s.resumeNow b).bank b).run = 0 ∧ ((s.resumeNow b).bank b).resumeDue = false
    ∧ (∀ x ∈ (s.resumeNow b).ledger.ops, x.id = c.op → x.state = .running) ∧ (s.resumeNow b).mem = s.mem
    ∧ ∀ k : BankId, k ≠ b → (s.resumeNow b).bank k = s.bank k := by
  obtain ⟨l, tr, heq, hall⟩ := State.resumeNow_eq s b
  have hb : (s.resumeNow b).bank b = (s.bank b).resumed := by
    rw [heq]
    exact State.modBank_bank_self s b _
  rw [hb]
  refine ⟨Bank.resumed_state hc, hc, rfl, rfl, ?_, ?_, fun k hk => ?_⟩
  · rw [heq]
    exact hall c hc
  · rw [heq]
    rfl
  · rw [heq]
    exact State.modBank_bank_of_ne s b _ k hk

/-- What `grantSuspend` leaves of a bank with a clear, and of the others. -/
theorem State.grantSuspend_grants {s : State} {b : BankId} {c : ClearRun} (host : Bool) (hc : (s.bank b).clear = some c) :
    (s.grantSuspend b host).bank b = (s.bank b).granted host
    ∧ (∀ x ∈ (s.grantSuspend b host).ledger.ops, x.id = c.op → x.state = .suspended) ∧ (s.grantSuspend b host).mem = s.mem
    ∧ ∀ k : BankId, k ≠ b → (s.grantSuspend b host).bank k = s.bank k := by
  obtain ⟨l, tr, heq, hall⟩ := State.grantSuspend_eq s b host
  refine ⟨?_, ?_, ?_, fun k hk => ?_⟩
  · rw [heq]
    exact State.modBank_bank_self s b (Bank.granted · host)
  · rw [heq]
    exact hall c hc
  · rw [heq]
    rfl
  · rw [heq]
    exact State.modBank_bank_of_ne s b (Bank.granted · host) k hk

theorem ClearRun.dropPulse_fields (c : ClearRun) : c.dropPulse.pulse = none ∧ c.dropPulse.unit = c.unit ∧ c.dropPulse.time = c.time
    ∧ c.dropPulse.pulses = c.pulses := by
  unfold ClearRun.dropPulse
  split
  case h_1 h => exact ⟨h, rfl, rfl, rfl⟩
  case h_2 => exact ⟨rfl, rfl, rfl, rfl⟩

/-- Settles O55: each row acts where its guard holds, and answers the state it was given elsewhere. -/
theorem suspensionsEnd : Obligations.SuspensionsEnd := by
  refine ⟨fun s b hp hst hps => ⟨fun hdue => ?_, fun c hdue hc => ?_⟩, fun s b hoff => ?_, fun s b c hp hst hdef hrun hc => ?_,
    fun s b hrun => ?_, fun s b c hp hsusp hhost hquiet hdir hled hc => ⟨fun hst => ?_, fun hst => ?_⟩, fun s b hhost => ?_⟩
  · show execSuspendedEntry b s = _
    unfold execSuspendedEntry
    rw [State.onEdge_pacing hp, hst, hdue, decide_eq_true hps]
    rfl
  · have hexec : exec (.suspendedEntry b) s = .next ((s.modBank b (fun x => { x with state := .suspended })).resumeNow b) := by
      show execSuspendedEntry b s = _
      unfold execSuspendedEntry
      rw [State.onEdge_pacing hp, hst, hdue, decide_eq_true hps]
      rfl
    have hc' : ((s.modBank b (fun x => { x with state := .suspended })).bank b).clear = some c := by
      rw [State.modBank_bank_self]
      exact hc
    obtain ⟨h1, h2, h3, h4, -, h6, h7⟩ := State.resumeNow_resumes hc'
    exact ⟨_, hexec, h1, h2, h3, h4, h6, fun k hk => (h7 k hk).trans (State.modBank_bank_of_ne s b _ k hk)⟩
  · have hguard : ((s.bank b).state == .suspending && decide (16000000 ≤ (s.bank b).suspPs)) = false := by
      rcases hoff with h | h
      · rw [beq_false_of_ne h, Bool.false_and]
      · rw [decide_eq_false (by omega), Bool.and_false]
    show execSuspendedEntry b s = _
    unfold execSuspendedEntry
    dsimp only
    rw [hguard]
    exact State.onEdge_self s
  · have hexec : exec (.deferredGrant b) s = .next (s.grantSuspend b (s.bank b).deferHost) := by
      show execDeferredGrant b s = _
      unfold execDeferredGrant
      rw [State.onEdge_pacing hp, hst, hdef, decide_eq_true hrun]
      rfl
    obtain ⟨hb, hops, hmem, hother⟩ := State.grantSuspend_grants (s.bank b).deferHost hc
    obtain ⟨hpulse, hunit, htime, hpulses⟩ := c.dropPulse_fields
    refine ⟨_, hexec, ?_, ?_, ?_, ?_, ?_, ⟨{ c.dropPulse with serving := false }, ?_, hpulse, hunit, htime, hpulses⟩, hops, hmem, hother⟩
    · rw [hb]; rfl
    · rw [hb]; rfl
    · rw [hb]; rfl
    · rw [hb]; rfl
    · rw [hb]; rfl
    · rw [hb]
      exact congrArg (Option.map fun c : ClearRun => { c.dropPulse with serving := false }) hc
  · show execDeferredGrant b s = _
    unfold execDeferredGrant
    dsimp only
    rw [decide_eq_false (Nat.not_le.2 hrun), Bool.and_false]
    exact State.onEdge_self s
  · have hexec : exec (.autoResume b) s = .next (s.resumeNow b) := by
      show execAutoResume b s = _
      unfold execAutoResume
      rw [State.onEdge_pacing hp, hsusp, hhost, decide_eq_true hquiet, hdir, hled, hst]
      rfl
    obtain ⟨h1, h2, h3, -, h5, h6, h7⟩ := State.resumeNow_resumes hc
    exact ⟨_, hexec, h1, h2, h3, h5, h6, h7⟩
  · show execAutoResume b s = _
    unfold execAutoResume
    dsimp only
    rw [State.onEdge_pacing hp, hsusp, hhost, decide_eq_true hquiet, hdir, hled, beq_false_of_ne hst]
    rfl
  · show execAutoResume b s = _
    unfold execAutoResume
    dsimp only
    rw [hhost, Bool.not_true, Bool.and_false]
    exact State.onEdge_self s

end Sys2Proof.Machine
end

section
/-! PROOFS. Direct LAY and CLEAR that commit (R178 to R184, Table 05.2). -/
namespace Sys2Proof.Machine

section
variable {s : State} {p : PortId} {op : Byte} {addr : BitVec 32} {n : Nat} {payload : List Word}

theorem State.takeYard_takes (owner : Nat) (slot : Option (Fin 256)) (bank : Nat) (data : List Word) (h : s.freeYardSlots ≠ []) :
    ∃ z ∈ s.freeYardSlots, ∃ u, s.takeYard owner slot bank data = (u, some z)
      ∧ u = { s with ledger := { s.ledger with yard := u.ledger.yard }, freeCtr := u.freeCtr, trace := u.trace } := by
  obtain ⟨z, hz, hpick⟩ := s.pick_of_ne_nil h
  refine ⟨z, hz, ?_⟩
  rw [State.takeYard, hpick]
  cases data.isEmpty
  · exact ⟨_, rfl, rfl⟩
  · exact ⟨_, rfl, rfl⟩

/-- A port's direct operation, committed on `u`. -/
def State.directDone (u : State) (p : PortId) (o : Op) : State :=
  ((u.addOp o).modPort p (fun x => { x with result := 0xFF, units := 0 })).answer p .ok []

/-- A LAY commits with the yard slot that it takes. -/
theorem State.directCommit_lays (c : Colour) (charge : Nat) (hopen : s.yardOpen (s.port p).dflt.toFin = true) : ∃ bank, ∀ u z,
    s.takeYard s.ledger.nextId none bank payload = (u, some z) →
    s.directCommit p opLay addr n payload c charge = u.directDone p (u.directOp p opLay addr n payload c charge (some z)) := by
  refine ⟨(bankOfAddr addr).elim 0 (fun b => b.val), fun u z htake => ?_⟩
  unfold State.directCommit
  dsimp only
  rw [if_neg (not_not_intro rfl), hopen]
  cases hb : bankOfAddr addr with
  | none =>
    rw [hb] at htake
    simp only [Option.elim_none] at htake
    simp only [htake]
    rfl
  | some b =>
    rw [hb] at htake
    simp only [Option.elim_some] at htake
    simp only [htake]
    rfl

/-- Checks 2 to 7 of Table 05.2 passed: charge, colour and yard slot taken, and the operation queued. -/
theorem State.directAsk_commits (h : s.directOk p op addr n = true) (hpay : op ≠ opLay → payload = []) :
    ∃ (u : State) (c : Colour) (y : Option (Fin 256)),
      s.directAsk p op addr n payload = u.directDone p (u.directOp p op addr n payload c (s.chargeOf op n) y)
      ∧ some c = (s.sub (s.port p).dflt.toFin).colourOf (s.chargeOf op n)
      ∧ (op = opLay → ∃ z ∈ s.freeYardSlots, y = some z)
      ∧ u = { s with subs := (s.modSub (s.port p).dflt.toFin (fun x => x.charged (s.chargeOf op n))).subs
                     ledger := { s.ledger with yard := u.ledger.yard }
                     freeCtr := u.freeCtr
                     trace := u.trace } := by
  simp only [State.directOk, Bool.and_eq_true, Bool.not_eq_true', Bool.or_eq_true, bne_iff_ne, List.isEmpty_eq_false_iff] at h
  obtain ⟨⟨⟨⟨⟨harmed, hbusy⟩, hperiod⟩, hperm⟩, hcolour⟩, hyard⟩ := h
  obtain ⟨c, hc⟩ := Option.isSome_iff_exists.1 hcolour
  have hask : s.directAsk p op addr n payload =
      (s.modSub (s.port p).dflt.toFin (fun x => x.charged (s.chargeOf op n))).directCommit p op addr n payload c (s.chargeOf op n) := by
    unfold State.directAsk State.meter
    dsimp only
    rw [harmed, hbusy, hperiod, hperm, hc]
    rfl
  rw [hask]
  by_cases hlay : op = opLay
  · subst hlay
    obtain ⟨hopen, hfree⟩ := hyard.resolve_left (not_not_intro rfl)
    obtain ⟨bank, hcommit⟩ := State.directCommit_lays (s := s.modSub (s.port p).dflt.toFin (fun x => x.charged (s.chargeOf opLay n)))
      (p := p) (addr := addr) (n := n) (payload := payload) c (s.chargeOf opLay n) hopen
    obtain ⟨z, hz, u, htake, hu⟩ := State.takeYard_takes (s := s.modSub (s.port p).dflt.toFin (fun x => x.charged (s.chargeOf opLay n)))
      s.ledger.nextId none bank payload hfree
    exact ⟨u, c, some z, hcommit u z htake, hc.symm, fun _ => ⟨z, hz, rfl⟩, hu⟩
  · refine ⟨s.modSub (s.port p).dflt.toFin (fun x => x.charged (s.chargeOf op n)), c, none, ?_, hc.symm, fun h => absurd h hlay, rfl⟩
    rw [State.directCommit, if_pos hlay, hpay hlay]
    rfl

end

/-- Reception changes nothing that the checks of Table 05.2 read. -/
theorem State.directOk_received {s : State} {tx : Tx} (b op : Byte) (addr : BitVec 32) (n : Nat) :
    (s.received tx b).directOk tx.port op addr n = s.directOk tx.port op addr n := by
  have hport := State.received_port_self s tx b
  unfold State.directOk Port.periodOk State.directPermitted State.markLayOk
  rw [hport]
  simp
  rfl

/-- The three commands come to the checks of Table 05.2. -/
theorem exec_direct {s : State} {tx : Tx} {addr : BitVec 32} (h : s.takes tx = true) :
    (∀ (count : Byte) (payload : List Word), payload.length = count.toNat → addr &&& 7 = 0 → 1 ≤ count.toNat → count.toNat ≤ 64 →
      withinRow addr count.toNat = true → exec (.lay tx addr count payload (crc16 (be32 addr ++ [count] ++ payload.flatMap be64))) s =
        .next ((s.received tx 0x2C).directAsk tx.port opLay addr count.toNat payload))
    ∧ (addr &&& 0xFFFF = 0 → exec (.clearBlock tx addr (crc16 (be32 addr))) s =
        .next ((s.received tx 0x3C).directAsk tx.port opClear addr 1 []))
    ∧ (addr &&& 0xFFF = 0 → regionOf addr = .main → isFooting (bankIx (addrBank addr)) (addrBlock addr) = true →
      exec (.clearFooting tx addr (crc16 (be32 addr))) s = .next ((s.received tx 0x3E).directAsk tx.port opClearFoot addr 1 [])) := by
  refine ⟨fun count payload hlen halign h1 h64 hrow => ?_, fun halign => ?_, fun halign hregion hfoot => ?_⟩
  · refine congrArg Host.Outcome.next ((s.run2_takes tx 0x2C false _ h (by decide)).trans ?_)
    have htake : payload.take count.toNat = payload := by rw [← hlen, List.take_length]
    have hgood : ¬ (addr &&& 7 ≠ 0 ∨ count.toNat < 1 ∨ 64 < count.toNat ∨ withinRow addr count.toNat = false) := by
      simp only [halign, hrow, ne_eq, not_true_eq_false, Bool.true_eq_false, or_false, false_or]
      omega
    dsimp only
    rw [if_neg (by omega), htake, if_neg (not_not_intro rfl), if_neg hgood]
  · refine congrArg Host.Outcome.next ((s.run2_takes tx 0x3C false _ h (by decide)).trans ?_)
    rw [if_neg (not_not_intro rfl), if_neg (not_not_intro halign)]
  · have hgood : ¬ (addr &&& 0xFFF ≠ 0 ∨ regionOf addr ≠ .main ∨ isFooting (bankIx (addrBank addr)) (addrBlock addr) = false) := by
      simp only [halign, hregion, hfoot, ne_eq, not_true_eq_false, Bool.true_eq_false, or_false, not_false_iff]
    refine congrArg Host.Outcome.next ((s.run2_takes tx 0x3E false _ h (by decide)).trans ?_)
    rw [if_neg (not_not_intro rfl), if_neg hgood]

theorem extractLsb'_setWidth_sub : ∀ d : BitVec 5, ((BitVec.setWidth 8 d).extractLsb' 0 5).toFin = d.toFin := by decide

/-- What a committed direct operation leaves of its port's reply: it is no record, and no level or boot state has changed. -/
theorem State.directDone_reply {s u : State} {p : PortId} {o : Op} (ho : o.isDirect = true) (hops : u.ledger.ops = s.ledger.ops)
    (hports : u.ports = s.ports) (hpins : u.pins = s.pins) (hlife : u.life = s.life) (hboot : u.boot = s.boot) :
    ((u.directDone p o).port p).reply = s.replyOf p .ok [] := by
  rw [State.directDone, State.answer_reply]
  have hmask : (((u.addOp o).modPort p (fun x => { x with result := 0xFF, units := 0 })).port p).mask = (s.port p).mask := by
    rw [State.modPort_port_self]
    show (u.port p).mask = _
    rw [port_of_ports hports p]
  have hattn : ((u.addOp o).modPort p (fun x => { x with result := 0xFF, units := 0 })).attn p = s.attn p := by
    unfold State.attn State.recordsFor
    rw [hmask]
    show (!(List.filter _ (u.ledger.ops ++ [o])).isEmpty) = _
    rw [hops, List.filter_append]
    simp [ho]
  unfold State.replyOf State.replyFed
  rw [hattn]
  unfold State.drives State.bootBit State.booting
  rw [State.modPort_pins, State.modPort_boot, State.modPort_life]
  show (if u.pins.supply.getLsbD _ = true then _ else _) = _
  rw [hpins]
  show (if _ then Reply.mk _ (statusByte _ _ (u.boot.step != 0 || u.life.regPending)) _ _ _ _ else _) = _
  rw [hboot, hlife]

/-- Settles O23: the operation is the one that the commit adds, and what it was charged and given stands in the state before. -/
theorem directOperationsCommit : Obligations.DirectOperationsCommit := by
  intro c s tx op addr n payload hc h hok
  have hexec : ∃ b, exec c s = .next ((s.received tx b).directAsk tx.port op addr n payload) := by
    obtain ⟨hlay, hclear, hfoot⟩ := exec_direct (addr := addr) h
    rcases hc with ⟨count, crc, rfl, rfl, rfl, hlen, rfl, halign, h1, h64, hrow⟩ | ⟨rfl, rfl, rfl, rfl, halign⟩ |
      ⟨rfl, rfl, rfl, rfl, halign, hregion, hf⟩
    · exact ⟨_, hlay count payload hlen halign h1 h64 hrow⟩
    · exact ⟨_, hclear halign⟩
    · exact ⟨_, hfoot halign hregion hf⟩
  have hpay : op ≠ opLay → payload = [] := by
    rcases hc with ⟨count, crc, -, rfl, -⟩ | ⟨-, -, -, rfl, -⟩ | ⟨-, -, -, rfl, -⟩
    · exact fun h => absurd rfl h
    · exact fun _ => rfl
    · exact fun _ => rfl
  obtain ⟨b, hexec⟩ := hexec
  obtain ⟨u, colour, y, hask, hcolour, hyard, hu⟩ := State.directAsk_commits ((State.directOk_received b op addr n).trans hok) hpay
  have hdflt : ((s.received tx b).port tx.port).dflt = (s.port tx.port).dflt := by rw [State.received_port_self]; simp
  have hports : u.ports = (s.received tx b).ports := by rw [hu]
  have hops : u.ledger.ops = s.ledger.ops := by rw [hu]; rfl
  have hid : u.ledger.nextId = s.ledger.nextId := by rw [hu]; rfl
  rw [hask] at hexec
  have hsub : (u.directOp tx.port op addr n payload colour ((s.received tx b).chargeOf op n) y).sub = (s.port tx.port).dflt.toFin := by
    refine (extractLsb'_setWidth_sub _).trans ?_
    rw [State.port_of_ports hports, hdflt]
  have hstamp : u.stamp = s.stamp := by rw [hu]; rfl
  refine ⟨_, hexec, u.directOp tx.port op addr n payload colour ((s.received tx b).chargeOf op n) y, ?_, hid, rfl, rfl, rfl, rfl, rfl,
    rfl, rfl, hsub, rfl, hstamp, rfl, ?_, hyard, ?_, ?_, ?_, fun q hq => ?_, fun i => ?_, ?_, ?_, ?_, ?_, ?_, ?_, ?_, ?_, ?_, ?_⟩
  · show u.ledger.ops ++ _ = _
    rw [hops]
  · rw [hsub]
    rw [hdflt] at hcolour
    exact hcolour
  · rw [State.directDone_reply (s := s.received tx b) rfl hops hports (by rw [hu]) (by rw [hu]) (by rw [hu])]
    exact State.replyFed_received s tx b tx.port .ok [] .ones
  · rw [State.directDone, State.answer, State.replyWith, State.modPort_port_self, State.modPort_port_self]
  · rw [State.directDone, State.answer, State.replyWith, State.modPort_port_self, State.modPort_port_self]
  · rw [State.directDone, State.answer_port_of_ne _ _ _ _ hq, State.modPort_port_of_ne _ _ _ _ hq]
    show u.port q = _
    rw [State.port_of_ports hports, State.received_port_of_ne s tx b q hq]
  · rw [hsub]
    have hsubs : u.sub i =
        ((s.received tx b).modSub (s.port tx.port).dflt.toFin (fun x => x.charged ((s.received tx b).chargeOf op n))).sub i := by
      rw [hu, hdflt]
      rfl
    refine Eq.trans hsubs ?_
    by_cases hi : i = (s.port tx.port).dflt.toFin
    · subst hi
      exact (State.modSub_sub_self _ _ _).trans (if_pos rfl).symm
    · exact (State.modSub_sub_of_ne _ _ _ _ hi).trans (if_neg hi).symm
  all_goals
    rw [State.directDone]
    show _ = _
    rw [hu]
    rfl

end Sys2Proof.Machine
end

section
/-! PROOFS. The end of an operation (R183, R208), and the completion of SIGNAL and FENCE (R236, R237, R239, R240). -/
namespace Sys2Proof.Machine

section
variable {s z : State} {o : Op}

theorem getLsbD_oneAt {w : Nat} (v : BitVec w) (n i : Nat) :
    (v ||| ((1 <<< n : Nat) : BitVec w)).getLsbD i = (v.getLsbD i || decide (i < w ∧ n = i)) := by
  rw [BitVec.getLsbD_or, BitVec.natCast_eq_ofNat, BitVec.getLsbD_ofNat, Nat.one_shiftLeft, Nat.testBit_two_pow, Bool.decide_and]

/-- The end of an operation, as `State.ends` has it. -/
theorem State.ends_completeWith {y : Op} (h : z.op? o.id = some y) (horigin : y.origin = o.origin) (hsub : y.sub = o.sub)
    (hstamp : z.stamp = s.stamp) (latch : Bool) (result : Byte) :
    s.ends (State.completeWith latch z o.id result) o result y.units.toNat := by
  refine ⟨fun p hp => ?_, fun hd hsub31 => ?_⟩
  · have hid := State.op?_id h
    have hposted : ∀ u : State, ((u.postDirect p y result).port p).result = result
        ∧ ((u.postDirect p y result).port p).units = BitVec.ofNat 16 y.units.toNat
        ∧ (u.postDirect p y result).glob.direct.getLsbD p.val = true ∧ ∀ x ∈ (u.postDirect p y result).ledger.ops, x.id ≠ o.id := by
      intro u
      have hport : (u.postDirect p y result).port p =
          { u.port p with result := result, units := BitVec.ofNat 16 y.units.toNat } :=
        State.modPort_port_self u p (fun x => { x with result := result, units := BitVec.ofNat 16 y.units.toNat })
      refine ⟨by rw [hport], by rw [hport], ?_, fun x hx hxi => ?_⟩
      · refine (getLsbD_oneAt u.glob.direct p.val p.val).trans ?_
        rw [decide_eq_true ⟨p.isLt, rfl⟩, Bool.or_true]
      · have hne := (List.mem_filter.1 (show x ∈ u.ledger.ops.filter (fun x => x.id != y.id) from hx)).2
        rw [hid, hxi, bne_self_eq_false] at hne
        cases hne
    obtain ⟨h1, h2, h3, h4⟩ := hposted (z.letGo y result)
    rw [State.completeWith_direct h (horigin.trans hp)]
    split
    · refine ⟨h1, h2, h3, fun x hx => ?_⟩
      obtain ⟨w, hw, rfl⟩ := List.mem_map.1 (show x ∈ List.map _ _ from hx)
      have hw4 := h4 w hw
      split
      · exact hw4
      · exact hw4
    · exact ⟨h1, h2, h3, h4⟩
  · cases hk : o.origin with
    | direct p => exact absurd hd (by rw [Op.isDirect, hk]; exact Bool.true_eq_false.mp)
    | ledger k =>
      obtain ⟨x, hx, hcard, hst, hres, hunits, hstmp, htok⟩ := State.completeWith_record h (horigin.trans hk) (hsub ▸ hsub31) latch result
      simp only [Op.card, Prod.mk.injEq] at hcard
      obtain ⟨hxid, hxorigin, -⟩ := hcard
      exact ⟨x, hx, hxid.trans (State.op?_id h), hxorigin.trans (horigin.trans hk), hst, hres,
        by rw [hunits, BitVec.ofNat_toNat, BitVec.setWidth_eq], hstmp.trans hstamp, htok⟩

/-- What the release before an end moves. -/
theorem State.letGo_frame (s : State) (o : Op) (result : Byte) : ∃ y pw tr,
    s.letGo o result = { s with ledger := { s.ledger with yard := y }, power := pw, trace := tr } := by
  have hreserve : ∀ u : State, ∃ pw, u.endReservation o.id = { u with power := pw } := by
    intro u
    unfold State.endReservation
    split
    · exact ⟨_, rfl⟩
    · exact ⟨u.power, rfl⟩
  obtain ⟨pw, hpw⟩ := hreserve (s.traceOp tComplete o ((0 : BitVec 8) ++ result))
  unfold State.letGo
  rw [hpw]
  dsimp only
  split
  · exact ⟨s.ledger.yard, pw, _, rfl⟩
  · exact ⟨_, pw, _, rfl⟩

theorem State.leaveRecord_frame (s : State) (o : Op) (result : Byte) : ∃ l su,
    s.leaveRecord o result = { s with ledger := l, subs := su } ∧ l.events = s.ledger.events := by
  unfold State.leaveRecord
  dsimp only
  split
  · exact ⟨_, _, rfl, rfl⟩
  · exact ⟨_, _, rfl, rfl⟩

theorem State.raiseEvent_frame (s : State) (e : Byte) : ∃ ev, s.raiseEvent e = { s with ledger := { s.ledger with events := ev } }
    ∧ ∀ i : Fin 64, ev.getLsbD i.val = (s.ledger.events.getLsbD i.val || decide (e.toNat = i.val)) := by
  unfold State.raiseEvent
  split
  · refine ⟨_, rfl, fun i => ?_⟩
    rw [getLsbD_oneAt]
    exact congrArg _ (decide_eq_decide.2 (and_iff_right i.isLt))
  · next hlt =>
    refine ⟨s.ledger.events, rfl, fun i => ?_⟩
    rw [decide_eq_false (by omega), Bool.or_false]

/-- The end of an operation of the ledger moves the ledger, the memories, the trace and the reservation, and sets its event. -/
theorem State.completeWith_frame {k : Fin 256} (h : s.op? o.id = some o) (hk : o.origin = .ledger k) (latch : Bool) (result : Byte) :
    ∃ l su pw tr, State.completeWith latch s o.id result = { s with ledger := l, subs := su, power := pw, trace := tr }
      ∧ ∀ e : Fin 64, l.events.getLsbD e.val = (s.ledger.events.getLsbD e.val || decide (o.signal.toNat = e.val)) := by
  obtain ⟨y, pw, tr, h1⟩ := s.letGo_frame o result
  obtain ⟨l, su, h2, hev⟩ := (s.letGo o result).leaveRecord_frame o result
  obtain ⟨ev, h3, hbits⟩ := ((s.letGo o result).leaveRecord o result).raiseEvent_frame o.signal
  have hbits' : ∀ e : Fin 64, ev.getLsbD e.val = (s.ledger.events.getLsbD e.val || decide (o.signal.toNat = e.val)) := by
    intro e
    rw [hbits e, h2]
    show (l.events.getLsbD e.val || _) = _
    rw [hev, h1]
  rw [State.completeWith_ledger h hk, h3, h2, h1]
  split
  · exact ⟨_, su, pw, tr, rfl, hbits'⟩
  · exact ⟨_, su, pw, tr, rfl, hbits'⟩

end

theorem State.onStep_onTime {s : State} {k : Nat} (h : s.onTime k = true) (t : State) :
    State.onStep k s t = .next { t with pace := { t.pace with stage := k } } := by
  unfold State.onTime at h
  unfold State.onStep
  rw [h, if_pos rfl]

/-- What the end of a SIGNAL or FENCE in its place on the edge leaves. -/
theorem State.completes_onStep {s : State} {k : Fin 256} {o : Op} (hok : s.ledgerOk = true) (hslot : s.opOfSlot k = some o) :
    let t : State := (State.completeWith false s o.id rDone).atStage orderEvents
    s.ends t o rDone o.units.toNat
      ∧ (∀ e : Fin 64, t.ledger.events.getLsbD e.val = (s.ledger.events.getLsbD e.val || decide (o.signal.toNat = e.val)))
      ∧ (∀ y ∈ t.ledger.ops, y.id ≠ o.id → y ∈ s.ledger.ops)
      ∧ t.mem = s.mem ∧ t.banks = s.banks ∧ t.gals = s.gals ∧ t.gates = s.gates ∧ t.life = s.life ∧ t.plinth = s.plinth
      ∧ t.ports = s.ports ∧ t.pace = { s.pace with stage := orderEvents } ∧ t.annex = s.annex := by
  have ho := State.op?_of_mem hok (List.mem_of_find?_eq_some hslot)
  have hk : o.origin = .ledger k := beq_iff_eq.1 (List.find?_some (p := fun x : Op => x.origin == .ledger k) hslot)
  have hends : s.ends (State.completeWith false s o.id rDone) o rDone o.units.toNat := State.ends_completeWith ho rfl rfl rfl false rDone
  have hothers := fun y => State.completeWith_others (s := s) (id := o.id) rDone (x := y)
  obtain ⟨l, su, pw, tr, heq, hev⟩ := State.completeWith_frame ho hk false rDone
  rw [heq] at hends hothers ⊢
  exact ⟨hends, hev, hothers, rfl, rfl, rfl, rfl, rfl, rfl, rfl, rfl, rfl⟩

/-- Settles O48: both rows end the operation of the slot in their place on the edge. -/
theorem signalAndFenceComplete : Obligations.SignalAndFenceComplete := by
  intro s k o hok htime hslot hqueued hfresh hlinks
  refine ⟨fun hop => ⟨_, ?_, State.completes_onStep hok hslot⟩, fun hop hearlier => ⟨_, ?_, State.completes_onStep hok hslot⟩⟩
  · show execSignalComplete k s = _
    unfold execSignalComplete
    rw [State.onStep_onTime htime, hslot]
    dsimp only
    rw [hop, hqueued, hfresh, hlinks]
    rfl
  · show execFenceComplete k s = _
    unfold execFenceComplete
    rw [State.onStep_onTime htime, hslot]
    dsimp only
    rw [hop, hqueued, hfresh, hlinks, hearlier]
    rfl

end Sys2Proof.Machine
end

section
/-! PROOFS. The order of Table 10.3, reservation, and a lay into the unsettled block (R327, R392, R403). -/
namespace Sys2Proof.Machine

/-! ### Rows out of the order -/

theorem State.onStep_late {s : State} {k : Nat} (h : s.onTime k = false) (t : State) : State.onStep k s t = .next s := by
  unfold State.onTime at h
  unfold State.onStep
  rw [h, if_neg Bool.false_ne_true]

theorem State.ledgerCommand_late {s : State} {tx : Tx} (h : s.onTime (orderPacket tx.port) = false) (op : Byte) (pk : Packet)
    (payload : Option (List Word × BitVec 16)) : s.ledgerCommand tx op pk payload = s := by
  unfold State.onTime at h
  unfold State.ledgerCommand
  rw [if_neg]
  cases hp : s.pace.holder.isSome with
  | false => simp
  | true =>
    rw [hp, Bool.true_and] at h
    rw [h, Bool.and_false]
    exact Bool.false_ne_true

/-- R392: a row of work past its place, or with no port pacing, changes nothing. -/
theorem exec_late {s : State} {c : Instr} {k : Nat} (hplace : placeOf c = some k) (h : s.onTime k = false) : exec c s = .next s := by
  cases c
  case layEnd | blockUnsettled | clearUnitEnd | firingStageEnd | repointReadEnd | fetchComplete | rdsEdgeMissing | poll | partnerTimeout
      | modf | signalComplete | fenceComplete =>
    cases hplace
    exact State.onStep_late h _
  case ledgerFetch | ledgerLay | ledgerClear | ledgerClearFoot | haul | kiln | repoint | signal | fence | cancel | ledgerSuspend
      | ledgerResume | levelRaise | regress =>
    cases hplace
    exact congrArg Host.Outcome.next (State.ledgerCommand_late h _ _ _)
  case tidyKiln | kilnDuty | slideDuty | scrubDuty | relocation | reservation | dispatch | floor | sample =>
    cases hplace
    exact State.onStep_late h _
  all_goals cases hplace

/-! ### The reservation -/

/-- The later of two in a race goes on where it wins. -/
def State.reserveStep (s : State) (m : Option Op) (o : Op) : Option Op :=
  m.elim (some o) (fun x => if s.shorter o x then some o else some x)

theorem State.reservePick_eq (s : State) : s.reservePick = (s.ledger.ops.filter s.qualifies).foldl s.reserveStep none := by
  unfold State.reservePick
  congr 1
  funext m o
  cases m with
  | none => rfl
  | some x => rfl

/-- An operation that wins against each other one comes out of the race. -/
theorem State.foldl_reserveStep {s : State} {o : Op} {l : List Op} (hwin : ∀ x ∈ l, x ≠ o → s.shorter o x = true ∧ s.shorter x o = false)
    (hself : s.shorter o o = false) :
    l.foldl s.reserveStep (some o) = some o ∧ (o ∈ l → ∀ m, (∀ x, m = some x → s.shorter o x = true) → l.foldl s.reserveStep m = some o) := by
  induction l with
  | nil => exact ⟨rfl, fun h => absurd h List.not_mem_nil⟩
  | cons y l ih =>
    obtain ⟨hkeep, hcome⟩ := ih fun x hx => hwin x (List.mem_cons_of_mem _ hx)
    have hstay : s.reserveStep (some o) y = some o := by
      by_cases hy : y = o
      · subst hy
        exact if_neg (by rw [hself]; exact Bool.false_ne_true)
      · exact if_neg (by rw [(hwin y List.mem_cons_self hy).2]; exact Bool.false_ne_true)
    refine ⟨by rw [List.foldl_cons, hstay, hkeep], fun ho m hm => ?_⟩
    rw [List.foldl_cons]
    by_cases hy : y = o
    · subst hy
      have htake : s.reserveStep m y = some y := by
        cases m with
        | none => rfl
        | some x => exact if_pos (hm x rfl)
      rw [htake, hkeep]
    · refine hcome ((List.mem_cons.1 ho).resolve_left fun h => hy h.symm) _ fun x hx => ?_
      cases m with
      | none =>
        cases hx
        exact (hwin y List.mem_cons_self hy).1
      | some z =>
        unfold State.reserveStep at hx
        simp only [Option.elim_some] at hx
        split at hx
        · cases hx
          exact (hwin y List.mem_cons_self hy).1
        · cases hx
          exact hm x rfl

theorem State.shorter_iff {s : State} {o x : Op} : s.shorter o x = true ↔
    s.since (x.shortAt.getD s.pace.devtime) < s.since (o.shortAt.getD s.pace.devtime)
    ∨ (s.since (o.shortAt.getD s.pace.devtime) = s.since (x.shortAt.getD s.pace.devtime) ∧ o.tieRank < x.tieRank) := by
  unfold State.shorter
  exact decide_eq_true_iff

/-! ### Ends that change no cell -/

/-- What the end of an operation may move. -/
theorem State.completeWith_moves (s : State) (latch : Bool) (id : Nat) (result : Byte) : ∃ po l su pw tr gl,
    State.completeWith latch s id result = { s with ports := po, ledger := l, subs := su, power := pw, trace := tr, glob := gl } := by
  cases h : s.op? id with
  | none =>
    unfold State.completeWith
    rw [h]
    exact ⟨s.ports, s.ledger, s.subs, s.power, s.trace, s.glob, rfl⟩
  | some o =>
    have hid := State.op?_id h
    subst hid
    cases hk : o.origin with
    | ledger k =>
      obtain ⟨l, su, pw, tr, heq, -⟩ := State.completeWith_frame h hk latch result
      exact ⟨s.ports, l, su, pw, tr, s.glob, heq⟩
    | direct p =>
      obtain ⟨y, pw, tr, hgo⟩ := s.letGo_frame o result
      rw [State.completeWith_direct h hk, hgo]
      split
      · exact ⟨_, _, s.subs, pw, tr, _, rfl⟩
      · exact ⟨_, _, s.subs, pw, tr, _, rfl⟩

theorem State.opOfRef_mem {s : State} {r : OpRef} {o : Op} (h : s.opOfRef r = some o) : o ∈ s.ledger.ops := by
  cases r with
  | slot k => exact List.mem_of_find?_eq_some h
  | direct p => exact List.mem_of_find?_eq_some h

/-- Settles O51: the guard of the order, the race of `reservePick`, and the end of a lay. -/
theorem reservationAndUnsettled : Obligations.ReservationAndUnsettled := by
  refine ⟨fun s c k hplace h => exec_late hplace h, fun s o hok htime hwait hnone ho hq hwin => ?_, fun s htime hq => ?_,
    fun s r o hok htime hr hlays => ?_⟩
  · have hpick : s.reservePick = some o := by
      rw [State.reservePick_eq]
      refine (State.foldl_reserveStep (fun x hx hxo => ?_) ?_).2 (List.mem_filter.2 ⟨ho, hq⟩) none (fun x hx => ?_)
      · obtain ⟨hx, hxq⟩ := List.mem_filter.1 hx
        have hid : x.id ≠ o.id := fun h => hxo (List.inj_on_of_nodup_map ((State.ledgerOk_iff s).1 hok).1 hx ho h)
        have hw := hwin x hx hid hxq
        dsimp only at hw
        refine ⟨State.shorter_iff.2 (by omega), ?_⟩
        rw [← Bool.not_eq_true, State.shorter_iff]
        omega
      · rw [← Bool.not_eq_true, State.shorter_iff]
        omega
      · exact absurd hx (Option.some_ne_none x).symm
    show execReservation s = _
    unfold execReservation
    rw [State.onStep_onTime htime, hnone, hpick, if_neg (by simpa using hwait)]
    rfl
  · have hpick : s.reservePick = none := by
      have hnil : s.ledger.ops.filter s.qualifies = [] := List.filter_eq_nil_iff.2 fun x hx => by rw [hq x hx]; exact Bool.false_ne_true
      rw [State.reservePick_eq, hnil]
      rfl
    show execReservation s = _
    unfold execReservation
    rw [State.onStep_onTime htime, hpick, ite_self]
    rfl
  · have hop := State.op?_of_mem hok (State.opOfRef_mem hr)
    have hends : s.ends (s.complete o.id rUnsettled) o rUnsettled o.units.toNat := State.ends_completeWith hop rfl rfl rfl true rUnsettled
    obtain ⟨po, l, su, pw, tr, gl, heq⟩ := s.completeWith_moves true o.id rUnsettled
    refine ⟨(s.complete o.id rUnsettled).atStage orderEnds, ?_, hends, ?_⟩
    · show execBlockUnsettled r s = _
      unfold execBlockUnsettled
      rw [State.onStep_onTime htime, hr]
      dsimp only
      rw [hlays]
      rfl
    · unfold State.complete
      rw [heq]
      exact ⟨rfl, rfl, rfl, rfl, rfl, rfl⟩

end Sys2Proof.Machine
end

section
/-! PROOFS. The standstill watch, the lapse of a record, and samples (R249 to R255, R406 to R408). -/
namespace Sys2Proof.Machine

section
variable {s : State}

/-- Some port has a property. -/
theorem State.any_ports {f : Port → Bool} : s.ports.toList.any f = true ↔ ∃ p : PortId, f (s.port p) = true := by
  rw [List.any_eq_true]
  constructor
  · rintro ⟨x, hx, hf⟩
    obtain ⟨i, hi, rfl⟩ := Vector.mem_iff_getElem.1 (Vector.mem_toList_iff.1 hx)
    exact ⟨⟨i, hi⟩, hf⟩
  · rintro ⟨p, hf⟩
    exact ⟨s.port p, Vector.mem_toList_iff.2 (Vector.getElem_mem p.isLt), hf⟩

/-! ### Lapse -/

/-- What a lapse leaves: the record's slot, its yard slots and the trace. -/
def State.lapsed (s : State) (o : Op) : State :=
  (((s.traceOp tComplete o 0x0041).freeYard o.id).dropOp o.id).modLedger (fun l => { l with lapses := l.lapses + 1 })

theorem execLapse_eq {k : Fin 256} {o : Op} (hk : s.opOfSlot k = some o) : exec (.lapse k) s = s.onEdge (
    if o.state != .complete || s.ports.toList.any (fun p => p.reply.shown.contains o.id)
      || decide (s.ledger.lapseLimit.toNat = 0 ∨ o.age < s.ledger.lapseLimit.toNat) then s else s.lapsed o) := by
  show execLapse k s = _
  unfold execLapse
  rw [hk]
  rfl

/-- No other operation has the place of an operation that has gone. -/
theorem State.opOfSlot_drop {k : Fin 256} {o : Op} (hok : s.ledgerOk = true) (hk : s.opOfSlot k = some o) {t : State}
    (ht : t.ledger.ops = s.ledger.ops.filter (fun x => x.id != o.id)) : t.opOfSlot k = none := by
  have hplaces := ((State.ledgerOk_iff s).1 hok).2.1
  have ho : o.origin = .ledger k := beq_iff_eq.1 (List.find?_some (p := fun x : Op => x.origin == .ledger k) hk)
  refine List.find?_eq_none.2 fun x hx hxk => ?_
  rw [ht] at hx
  obtain ⟨hx, hne⟩ := List.mem_filter.1 hx
  have hxo : x = o := List.inj_on_of_nodup_map hplaces hx (List.mem_of_find?_eq_some hk) ((beq_iff_eq.1 hxk).trans ho.symm)
  rw [hxo, bne_self_eq_false] at hne
  cases hne

/-! ### Samples -/

theorem le_foldl_max (l : List Nat) (a : Nat) : a ≤ l.foldl max a ∧ ∀ x ∈ l, x ≤ l.foldl max a := by
  induction l generalizing a with
  | nil => exact ⟨Nat.le_refl a, fun x hx => absurd hx List.not_mem_nil⟩
  | cons y l ih =>
    obtain ⟨h1, h2⟩ := ih (max a y)
    refine ⟨le_trans (le_max_left a y) h1, fun x hx => ?_⟩
    rcases List.mem_cons.1 hx with rfl | hx
    · exact le_trans (le_max_right a x) h1
    · exact h2 x hx

theorem bvMax_toNat {w : Nat} (a b : BitVec w) : (bvMax a b).toNat = max a.toNat b.toNat := by
  unfold bvMax
  split
  · omega
  · omega

/-- The leaves after a sample. -/
def State.leavesSampled (s : State) : Vector Sub 32 := s.subs.mapFinIdx (fun i u h => { u with
  leaf := u.leaf.mapFinIdx (fun v l h2 => s.sampleLeaf ⟨i, h⟩ ⟨v, h2⟩ l) })

theorem State.leavesSampled_leaf (i : SubId) (v : SvcId) :
    (s.leavesSampled[i.val]).leaf[v.val] = s.sampleLeaf i v (s.sub i).leaf[v.val] := by
  unfold State.leavesSampled
  rw [Vector.getElem_mapFinIdx, Vector.getElem_mapFinIdx]
  rfl

/-- What a sampled leaf shows of its queue (R407, R408). -/
theorem State.sampleLeaf_reads (s : State) (i : SubId) (v : SvcId) (old : Leaf) {new : Leaf} (h : new = s.sampleLeaf i v old) :
    new.depth = BitVec.ofNat 9 (s.sampled i v).length ∧ new.maxdepth.toNat = max old.maxdepth.toNat new.depth.toNat
    ∧ new.maxdelay.toNat = max old.maxdelay.toNat new.delay.toNat
    ∧ (∀ o ∈ s.sampled i v, min 0xFFFFF (s.stamp - o.admitted).toNat ≤ new.delay.toNat) ∧ (s.sampled i v = [] → new.delay = 0) := by
  subst h
  refine ⟨rfl, bvMax_toNat _ _, bvMax_toNat _ _, fun o ho => ?_, fun hq => ?_⟩
  · have hle := (le_foldl_max ((s.sampled i v).map (fun o => (s.stamp - o.admitted).toNat)) 0).2 _ (List.mem_map.2 ⟨o, ho, rfl⟩)
    show _ ≤ (BitVec.ofNat 20 (min 0xFFFFF _)).toNat
    rw [BitVec.toNat_ofNat, Nat.mod_eq_of_lt (by omega)]
    omega
  · show BitVec.ofNat 20 _ = 0
    rw [hq]
    rfl

end

/-- Settles O56: each watch acts where its guard holds, and answers the state it was given elsewhere. -/
theorem watchesAct : Obligations.WatchesAct := by
  refine ⟨fun s hp hlim hcount hstand => ?_, fun s hoff => ?_, fun s k o hok hp hk hst hshown hlim hage => ?_, fun s k o hk hoff => ?_,
    fun s k o hk hshown => ?_, fun s htime hint hcount hfreeze hcross => ?_⟩
  · have hexec : exec .standstill s = s.onEdge _ := rfl
    rw [State.onEdge_pacing hp, if_neg (by simp [hstand]; omega)] at hexec
    exact ⟨_, hexec, rfl, rfl, rfl, rfl, rfl, rfl⟩
  · have hexec : exec .standstill s = s.onEdge _ := rfl
    rw [if_pos] at hexec
    · exact hexec.trans (State.onEdge_self s)
    · rcases hoff with h | h
      · exact Or.inl (by rw [h]; rfl)
      · exact Or.inr (Or.inr (by rw [h]; rfl))
  · have hnone : s.ports.toList.any (fun p => p.reply.shown.contains o.id) = false := by
      rw [← Bool.not_eq_true, State.any_ports]
      rintro ⟨p, hp⟩
      exact hshown p (List.contains_iff_mem.1 hp)
    have hexec := execLapse_eq hk
    rw [State.onEdge_pacing hp, hst, hnone, decide_eq_false (by omega)] at hexec
    refine ⟨_, hexec, rfl, fun y hy => ?_, rfl, State.opOfSlot_drop hok hk rfl, rfl⟩
    have hne := (List.mem_filter.1 (show y ∈ s.ledger.yard.filter (fun e => e.owner != o.id) from hy)).2
    exact bne_iff_ne.1 hne
  · have hexec := execLapse_eq hk
    rw [decide_eq_true, Bool.or_true, if_pos rfl, State.onEdge_self] at hexec
    · exact hexec
    · exact hoff.imp (fun h => by rw [h]; rfl) id
  · have hany : s.ports.toList.any (fun p => p.reply.shown.contains o.id) = true := by
      obtain ⟨p, hp⟩ := hshown
      exact State.any_ports.2 ⟨p, List.contains_iff_mem.2 hp⟩
    have hexec := execLapse_eq hk
    rw [hany, Bool.or_true, Bool.true_or, if_pos rfl, State.onEdge_self] at hexec
    exact hexec
  · have hexec : exec .sample s = State.onStep orderSample s _ := rfl
    rw [State.onStep_onTime htime, if_neg (by simp [hfreeze, hcross]; omega)] at hexec
    refine ⟨_, hexec, rfl, fun i v => ?_, rfl⟩
    have hleaf : (State.sub { s with subs := s.leavesSampled } i).leaf[v.val] = s.sampleLeaf i v (s.sub i).leaf[v.val] :=
      s.leavesSampled_leaf i v
    exact s.sampleLeaf_reads i v _ hleaf

end Sys2Proof.Machine
end

section
/-! PROOFS. Ends of pulses, and pumps at their targets (R55, R309, R531). -/
namespace Sys2Proof.Machine

section
variable {s : State} {b : BankId}

theorem execPulseEnd_lay {l : LayRun} (hl : (s.bank b).lay = some l) (ok : BitVec 64) (cok : Bool) : exec (.pulseEnd b ok cok) s = s.onEdge (
    if !s.pace.qualified || s.power.brown then s
    else if Pulse.over l.pulse then s.modBank b (fun k => { k with lay := some (l.endPulse ok) }) else s) := by
  show execPulseEnd b ok cok s = _
  unfold execPulseEnd
  rw [hl]

theorem execPulseEnd_clear {c : ClearRun} (hl : (s.bank b).lay = none) (hc : (s.bank b).clear = some c) (ok : BitVec 64) (cok : Bool) :
    exec (.pulseEnd b ok cok) s = s.onEdge (if !s.pace.qualified || s.power.brown then s
    else if Pulse.over c.pulse then
      (s.modBank b (fun k => { k with clear := some (c.endPulse cok) })).modOp c.op (fun o => { o with position := o.position + 1 })
    else s) := by
  show execPulseEnd b ok cok s = _
  unfold execPulseEnd
  rw [hl, hc]

theorem Pulse.over_iff {u : Pulse} : Pulse.over (some u) = true ↔ u.width ≤ u.elapsed := decide_eq_true_iff

/-- R538: a pump that is not overridden can reach its target. -/
theorem Pump.reaches_of_free {p : Pump} (h : p.override = false) (smin : Nat) : p.reaches smin = true := by
  rw [Pump.reaches, h]
  rfl

theorem State.modGal_congr {g : GalId} {f f' : Gal → Gal} (h : f (s.gal g) = f' (s.gal g)) : s.modGal g f = s.modGal g f' := by
  rw [State.modGal, h, State.modGal]

end

/-- Settles O19: the guard of a pulse's end is its width, and that of a pump is that it runs. -/
theorem pulsesAndPumpsEnd : Obligations.PulsesAndPumpsEnd := by
  refine ⟨fun s b ok cok l u hp hq hb hl hu hw => ?_, fun s b ok cok c u hp hq hb hl hc hf hu hw => ?_,
    fun s b ok cok l u hl hu hw => ?_, fun s g hp hrun hover => ?_, fun s g hp hrun hover => ?_⟩
  · rw [execPulseEnd_lay hl, State.onEdge_pacing hp, hq, hb, hu, Pulse.over_iff.2 hw]
    rfl
  · have hend : c.endPulse cok = { c with pulse := none, verified := cok } := by
      unfold ClearRun.endPulse
      rw [beq_false_of_ne hf]
      rfl
    rw [execPulseEnd_clear hl hc, State.onEdge_pacing hp, hq, hb, hu, Pulse.over_iff.2 hw, hend]
    rfl
  · have hgoes : ¬ Pulse.over l.pulse = true := by
      rw [hu, Pulse.over_iff]
      omega
    rw [execPulseEnd_lay hl, if_neg hgoes, ite_self]
    exact State.onEdge_self s
  · refine (State.onEdge_pacing hp).trans (congrArg Host.Outcome.next (State.modGal_congr ?_))
    rw [if_neg Bool.false_ne_true, hrun, Pump.reaches_of_free hover, Bool.true_and, Bool.or_true]
  · refine (State.onEdge_pacing hp).trans (congrArg Host.Outcome.next (State.modGal_congr ?_))
    rw [if_pos rfl, hrun, Pump.reaches_of_free hover, Bool.true_and, Bool.or_true]

end Sys2Proof.Machine
end

section
/-! PROOFS. Training (R121 to R147). -/
namespace Sys2Proof.Machine

/-- Port 0 is on trial in mode 0, which has one lane, and lane 7 has counted 7 early transitions. -/
def onTrial : State :=
  { State.reset with
    ports := State.reset.ports.set 0 { Port.reset 0 with
      csLow := true, period := 100000, declared := true, periodNow := 100000, declaredNow := true, plain := false, trial := true,
      trialMode := 0, trialTaps := 0x8421084210, drift := (Port.reset 0).drift.set 7 7 }
    pace := { Pace.reset with holder := some 0 }
    boot := { Boot.reset with step := 0 } }

/-- Every transfer of the pattern phase as sent, on every lane. -/
def cleanSamples : Vector (BitVec 8192) 8 := Vector.ofFn (fun k => (ehrifSeq k).replicate 32)

/-- A transaction whose command phase has one more early transition on lane 7. -/
def driftingTx : Tx := { port := 0, compl := true, waited := 2, drift := [{ lane := 7, early := true, late := false }] }

/-- The trial's tap of lane 7 of port 0 after a step. -/
def tapAfter : Outcome → Nat
  | .next u => tapOf (u.port 0).trialTaps 7
  | _ => 0

/-- Refutes O34: the drift counts of the SWEEP's own command phase (R144 to R147) move the trial's tap of lane 7, which the trial
mode does not have, before the SWEEP runs. -/
theorem not_training : ¬ Obligations.Training := by
  intro h
  obtain ⟨t, hexec, -, -, -, hkeeps, -⟩ := (h.2.1 onTrial driftingTx cleanSamples (by decide +kernel)).1 (by decide +kernel)
  have htap := (congrArg tapAfter hexec).trans (hkeeps 7 (.inl (by decide +kernel)))
  exact absurd htap (by decide +kernel)

end Sys2Proof.Machine
end

section
/-! PROOFS. Chain frames (R158, R160 to R164). -/
namespace Sys2Proof.Machine

theorem segOf_segBits (g : ChainSeg) : segOf (segBits g) = g := by
  obtain ⟨magic, target, action, regnum, value, pad, crc⟩ := g
  simp only [segOf, segBits, ChainSeg.mk.injEq]
  refine ⟨?_, ?_, ?_, ?_, ?_, ?_, ?_⟩
  all_goals
    refine BitVec.eq_of_getLsbD_eq fun i hi => ?_
    simp only [BitVec.getLsbD_extractLsb', BitVec.getLsbD_append]
    grind

/-- The conditions of R162. -/
theorem Port.latches?_iff {x : Port} {edges : Nat} {g : ChainSeg} : x.latches? edges g = true ↔
    edges = x.lenNow.toNat ∧ g.magic = 0xC4 ∧ g.pad = 0 ∧ g.target.extractLsb' 3 4 = 0 ∧ g.regnum.extractLsb' 12 4 = 0
    ∧ g.crc = crc16 (segBytes g) ∧ g.action.toNat ≤ 2 ∧ (g.target.getLsbD 7 = true ∨ g.target.extractLsb' 0 3 = x.chipid) := by
  simp only [Port.latches?, Bool.and_eq_true, Bool.or_eq_true, beq_iff_eq, decide_eq_true_eq, and_assoc]

/-- A latched segment (R163). -/
def Port.latched (x : Port) : Port := { x with lastok := true, lastbad := false, latches := x.latches + 1 }

section
variable {s : State} {n : PortId} {edges : Nat} {g : ChainSeg}

theorem State.chainRise_rejects (h : ¬ (s.port n).latches? edges g = true) : s.chainRise n edges g = s.modPort n Port.rejectSeg := by
  rw [State.chainRise, if_neg h]

theorem State.chainRise_writes (h : (s.port n).latches? edges g = true) (ha : g.action = 1) :
    s.chainRise n edges g = (s.takeEntry n (g.regnum.extractLsb' 0 12) g.value).1.modPort n Port.latched := by
  rw [State.chainRise, if_pos h, if_pos ha]
  rfl

theorem State.chainRise_exits (h : (s.port n).latches? edges g = true) (ha : g.action = 2) :
    s.chainRise n edges g = s.modPort n (fun x => { x.latched with chainEn := false }) := by
  rw [State.chainRise, if_pos h, if_neg (by rw [ha]; decide), if_pos ha]
  exact State.modPort_modPort s n _ _

theorem State.chainRise_idles (h : (s.port n).latches? edges g = true) (h1 : g.action ≠ 1) (h2 : g.action ≠ 2) :
    s.chainRise n edges g = s.modPort n Port.latched := by
  rw [State.chainRise, if_pos h, if_neg h1, if_neg h2]
  rfl

/-- What a segment other than a REGWR does to its port. -/
def Port.chainEnd (x : Port) (edges : Nat) (g : ChainSeg) : Port :=
  if x.latches? edges g then (if g.action = 2 then { x.latched with chainEn := false } else x.latched) else x.rejectSeg

theorem State.modPort_congr {f f' : Port → Port} (h : f (s.port n) = f' (s.port n)) : s.modPort n f = s.modPort n f' := by
  rw [State.modPort, h, State.modPort]

theorem State.chainRise_port (h1 : g.action ≠ 1) : s.chainRise n edges g = s.modPort n (fun x => x.chainEnd edges g) := by
  by_cases h : (s.port n).latches? edges g = true
  · by_cases h2 : g.action = 2
    · exact (State.chainRise_exits h h2).trans (State.modPort_congr (by rw [Port.chainEnd, if_pos h, if_pos h2]))
    · exact (State.chainRise_idles h h1 h2).trans (State.modPort_congr (by rw [Port.chainEnd, if_pos h, if_neg h2]))
  · exact (State.chainRise_rejects h).trans (State.modPort_congr (by rw [Port.chainEnd, if_neg h]))

end

/-- What a port tells of its chain: LASTOK, LASTBAD, LATCHES, REJECTS and the enable. -/
def Port.chainStat (x : Port) : Bool × Bool × BitVec 16 × BitVec 16 × Bool := (x.lastok, x.lastbad, x.latches, x.rejects, x.chainEn)

theorem Port.chainStat_rest (x : Port) : x.rest.chainStat = x.chainStat := by
  unfold Port.rest Port.silenceCheck Port.revert
  split
  · rfl
  · rfl

/-- The segment's effect does not depend on the fetch and the CS# level that have gone. -/
theorem Port.chainEnd_lifted (x : Port) (edges : Nat) (g : ChainSeg) :
    ((Port.fetchless { x with csLow := false }).chainEnd edges g).chainStat = (x.chainEnd edges g).chainStat
    ∧ ((Port.fetchless { x with csLow := false }).chainEnd edges g).atRise = x.atRise
    ∧ ((Port.fetchless { x with csLow := false }).chainEnd edges g).csLow = false := by
  have hsame : (Port.fetchless { x with csLow := false }).latches? edges g = x.latches? edges g := rfl
  unfold Port.chainEnd
  rw [hsame]
  split
  · split
    · exact ⟨rfl, rfl, rfl⟩
    · exact ⟨rfl, rfl, rfl⟩
  · exact ⟨rfl, rfl, rfl⟩

theorem Port.rest_levels (x : Port) : x.rest.csLow = x.csLow ∧ x.rest.chainFrame = false := by
  unfold Port.rest Port.silenceCheck
  split
  · exact ⟨rfl, rfl⟩
  · exact ⟨rfl, rfl⟩

/-- The end of a chain frame whose segment is no REGWR; `x` is the port before its CS# rose. -/
theorem State.endTransaction_chain {s : State} {n : PortId} {x : Port} (hx : s.port n = { x with csLow := false })
    (hwait : x.waitRise = false) (hchain : x.chainFrame = true) (hacts : x.atRise = []) (hup : x.upload = none)
    (h1 : (segOf x.shifter).action ≠ 1) :
    ∃ (b : Vector Bank 65) (a : Vector Annex 2) (l : Ledger) (y : Port),
      State.endTransaction [] s n = ({ s with banks := b, annex := a, ledger := l } : State).modPort n (fun _ => y.rest)
      ∧ y.chainStat = (x.chainEnd x.frameEdges (segOf x.shifter)).chainStat ∧ y.csLow = false := by
  obtain ⟨b, a, hf, -, -⟩ := s.endFetchOf_eq n
  let l : Ledger := ((({ s with banks := b, annex := a } : State).modPort n Port.fetchless).dropDriving n).ledger
  let v : State := { s with banks := b, annex := a, ledger := l }
  let y : Port := Port.chainEnd (Port.fetchless { x with csLow := false }) x.frameEdges (segOf x.shifter)
  obtain ⟨hstat, hyacts, hylow⟩ := x.chainEnd_lifted x.frameEdges (segOf x.shifter)
  have hp : (v.modPort n Port.fetchless).port n = Port.fetchless { x with csLow := false } := by
    rw [State.modPort_port_self]
    exact congrArg Port.fetchless hx
  have hcut : ((s.endFetchOf n).dropDriving n).cutUpload n = v.modPort n Port.fetchless := by
    rw [hf]
    show (v.modPort n Port.fetchless).cutUpload n = _
    unfold State.cutUpload
    rw [hp]
    simp [Port.fetchless, hup]
  have hcount : s.countedOut [] n = v.modPort n (fun _ => y) := by
    unfold State.countedOut
    rw [hcut]
    unfold State.countTransaction
    dsimp only
    rw [hp]
    show (if x.waitRise = true then _ else if x.chainFrame = true then
      (v.modPort n Port.fetchless).chainRise n x.frameEdges (segOf x.shifter) else _) = _
    rw [hwait, hchain, if_neg Bool.false_ne_true, if_pos rfl, State.chainRise_port h1, State.modPort_modPort]
    exact State.modPort_congr (congrArg (fun z : Port => z.fetchless.chainEnd x.frameEdges (segOf x.shifter)) hx)
  have hnil : ((v.modPort n (fun _ => y)).port n).atRise = [] := by
    rw [State.modPort_port_self]
    exact hyacts.trans hacts
  refine ⟨b, a, l, { y with atRise := [] }, ?_, hstat, hylow⟩
  rw [State.endTransaction_eq, hcount, State.riseActs_of_nil hnil, State.riseActs_of_nil (by rw [State.modPort_port_self])]
  simp only [State.modPort_modPort]
  rfl

/-- The rise of a port that holds no pace moves its CS# level alone, where no old holder paces. -/
theorem State.csUpHanded_aside {s : State} {n h : PortId} (hlow : (s.port n).csLow = true) (hh : s.pace.holder = some h) (hn : h ≠ n)
    (hold : s.pace.oldPacer = none) : s.csUpHanded (1 <<< n.val) 0 = s.modPort n (fun x => { x with csLow := false }) := by
  have hup : s.csUp (1 <<< n.val) = s.modPort n (fun x => { x with csLow := false }) := by
    rw [State.csUp, State.rising_one hlow]
    rfl
  unfold State.csUpHanded
  rw [hh, State.rising_one hlow]
  dsimp only
  rw [if_neg (by simpa using hn), hup]
  unfold State.checkOldPacer
  rw [State.modPort_pace, hold]

/-- Settles O35: an SCK burst is a shift, a segment an update of its port, and a rise ends the transaction with it. -/
theorem chainFrames : Obligations.ChainFrames := by
  refine ⟨fun s n edges g hlow hchain => ?_, segOf_segBits, fun s n g edges => ⟨fun hgood ha => ?_, fun hgood ha => ?_, fun hgood ha => ?_,
    fun hbad => ?_⟩, fun s n hlow hchain hacts hup hfetch hfb hsome hholder hold h1 => ?_⟩
  · have hseg : ∀ a : Byte, g.action = a → s.chainSegment n a edges g = s.modPort n (fun p => p.chainShiftIn edges g) := by
      intro a ha
      unfold State.chainSegment
      rw [hlow, hchain, beq_iff_eq.2 ha]
      rfl
    exact ⟨fun ha => congrArg Host.Outcome.next (hseg 0 ha), fun ha => congrArg Host.Outcome.next (hseg 1 ha),
      fun ha => congrArg Host.Outcome.next (hseg 2 ha)⟩
  · exact State.chainRise_idles (Port.latches?_iff.2 hgood) (by rw [ha]; decide) (by rw [ha]; decide)
  · exact State.chainRise_writes (Port.latches?_iff.2 hgood) ha
  · exact State.chainRise_exits (Port.latches?_iff.2 hgood) ha
  · exact State.chainRise_rejects fun h => hbad (Port.latches?_iff.1 h)
  · obtain ⟨hcs, hwait⟩ : (s.port n).csLow = true ∧ (s.port n).waitRise = false := by simpa [Port.low] using hlow
    obtain ⟨h, hh⟩ := Option.isSome_iff_exists.1 hsome
    have hup' := State.csUpHanded_aside hcs hh (fun he => hholder (he ▸ hh)) hold
    obtain ⟨b, a, l, y, hend, hstat, hylow⟩ := State.endTransaction_chain (s := s.modPort n (fun x => { x with csLow := false })) (n := n)
      (State.modPort_port_self _ _ _) hwait hchain hacts hup h1
    have hexec : exec (.csRise (1 <<< n.val) { late := 0, cuts := [] }) s = .next
        (State.modPort { s.modPort n (fun x => { x with csLow := false }) with banks := b, annex := a, ledger := l } n (fun _ => y.rest)) := by
      rw [← hend, ← hup']
      refine (execCsRise_eq _ _ s).trans ?_
      rw [State.rising_one hcs]
      rfl
    obtain ⟨hrlow, hrchain⟩ := y.rest_levels
    have hport := (Port.chainStat_rest y).trans hstat
    refine ⟨_, hexec, ?_⟩
    rw [State.chainRise_port h1]
    dsimp only
    rw [State.modPort_port_self, State.modPort_port_self]
    simp only [Port.chainStat, Prod.mk.injEq] at hport
    obtain ⟨hok, hbad, hlatch, hrej, hen⟩ := hport
    refine ⟨hok, hbad, hlatch, hrej, hen, hrlow.trans hylow, hrchain, rfl, rfl, rfl, fun q hq => ?_⟩
    have hother : (s.modPort n (fun x => { x with csLow := false })).port q = s.port q := State.modPort_port_of_ne s n _ q hq
    rw [State.modPort_port_of_ne _ n _ q hq]
    exact hother

end Sys2Proof.Machine
end

section
/-! PROOFS. What an SCK cycle of a port that does not pace drives (R61 to R67, R81, R97, R113). -/
namespace Sys2Proof.Machine

section
variable {s : State} {p : PortId}

/-! ### Which step of the reply a cycle is -/

/-- A port in a new SCK cycle, before anything has gone out in it. -/
def Port.cycled (x : Port) : Port := { x with cycle := x.cycle + 1, cell := none }

/-- A port whose reply has sent the transfers `c` and stands at bit `b`. -/
def Port.sent (x : Port) (c : Byte × Byte) (b : Nat) : Port :=
  { x with cell := some c, level := c.2, reply := { x.reply with bits := b } }

/-- An SCK edge of a port that does not pace, on a cycle of its reply. -/
theorem exec_replyCycle (inp : EdgeIn) (h : s.replyCycle p = true) :
    exec (.paceEdge p inp) s = .next ((s.modPort p Port.cycled).drive p) := by
  simp only [State.replyCycle, Bool.and_eq_true, Bool.not_eq_true', bne_iff_ne, Option.isSome_iff_ne_none, decide_eq_true_eq] at h
  obtain ⟨⟨⟨⟨⟨⟨hlow, hholder⟩, hold⟩, hchain⟩, hop⟩, hsilent⟩, hwait⟩ := h
  have hclock : s.clock p inp.dq0 = (s.modPort p Port.cycled).drive p := by
    unfold State.clock
    dsimp only
    rw [hchain, if_neg Bool.false_ne_true, if_neg (by simpa using hop), hsilent, decide_eq_false (Nat.not_lt.2 hwait)]
    rfl
  refine (execPaceEdge_of_low inp hlow).trans ?_
  unfold State.paceSide
  rw [State.clock_holder, State.clock_oldPacer, if_neg hholder, if_neg hold, hclock]

theorem Port.wire_pos (x : Port) : 0 < x.wire.length := by
  unfold Port.wire
  rw [List.length_append]
  split
  · exact Nat.lt_of_lt_of_le (by decide) (Nat.le_add_right 2 _)
  · exact Nat.lt_of_lt_of_le (by decide) (Nat.le_add_right 1 _)

/-- More data, and another feed. -/
def Port.fed (x : Port) (data : List Byte) (feed : Feed) : Port :=
  { x with reply := { x.reply with data := x.reply.data ++ data, feed := feed } }

theorem Port.wire_fed (x : Port) (data : List Byte) (feed : Feed) : (x.fed data feed).wire = x.wire ++ data := by
  unfold Port.wire
  rw [List.append_assoc]
  rfl

theorem State.drive_opens (hbits : (s.port p).reply.bits = 0) (hhold : (s.port p).hold = none) (hfetch : (s.port p).fetch = none) :
    s.drive p = (s.modPort p (fun x => { x with
      reply := { x.reply with status := freshByte x.reply.status (s.attn p) s.bootBit } })).emit p := by
  have hdue : s.statusDue p = true := by
    unfold State.statusDue
    dsimp only
    rw [hhold, hfetch, Bool.or_true]
    rfl
  have hfix : s.fixStatus p = s.modPort p (fun x => { x with
      reply := { x.reply with status := freshByte x.reply.status (s.attn p) s.bootBit } }) := by
    unfold State.fixStatus
    rw [hfetch]
  unfold State.drive
  dsimp only
  rw [hdue, if_neg (by simp), if_pos hbits, hfix, if_neg]
  rw [State.modPort_port_self, hbits]
  exact Nat.not_le.2 (Nat.mul_pos (by omega) (Port.wire_pos _))

theorem State.drive_asks (hbits : 0 < (s.port p).reply.bits) (hall : (s.port p).reply.bits = 8 * (s.port p).wire.length) :
    s.drive p = (s.pull p).emit p := by
  have hne : ¬ (s.port p).reply.bits = 0 := by omega
  unfold State.drive
  dsimp only
  rw [if_neg (fun h => hne h.1), if_neg hne, if_pos (by omega)]

theorem State.drive_sends (hbits : 0 < (s.port p).reply.bits) (hmore : (s.port p).reply.bits < 8 * (s.port p).wire.length) :
    s.drive p = s.emit p := by
  have hne : ¬ (s.port p).reply.bits = 0 := by omega
  unfold State.drive
  dsimp only
  rw [if_neg (fun h => hne h.1), if_neg hne, if_neg (by omega)]

/-! ### What goes out -/

/-- Transfers of a part of the reply whose last bits do not go out yet, or of the 1s after it. -/
theorem State.emit_goesOn (hfeed : (s.port p).reply.feed ≠ .progress)
    (hsome : (s.port p).reply.bits < 8 * (s.port p).wire.length ∨ (s.port p).reply.feed = .ones)
    (hmore : (s.port p).reply.bits < 8 * (s.port p).wire.length →
      (s.port p).reply.bits + modeBits (s.port p).txMode < 8 * (s.port p).wire.length) :
    s.emit p = s.modPort p (fun x => x.sent (cellAt (s.port p).wire (s.port p).txMode (s.port p).reply.bits)
      ((s.port p).reply.bits + modeBits (s.port p).txMode)) := by
  unfold State.emit
  dsimp only
  rw [if_pos (by simpa using hsome), beq_false_of_ne hfeed, if_neg Bool.false_ne_true, if_neg]
  · rfl
  · simp
    omega

/-- Transfers with the last bits of a part. -/
theorem State.emit_ends (hfeed : (s.port p).reply.feed ≠ .progress) (hq : (s.port p).reply.bits < 8 * (s.port p).wire.length)
    (hlast : 8 * (s.port p).wire.length ≤ (s.port p).reply.bits + modeBits (s.port p).txMode) :
    s.emit p = (s.modPort p (fun x => x.sent (cellAt (s.port p).wire (s.port p).txMode (s.port p).reply.bits)
      ((s.port p).reply.bits + modeBits (s.port p).txMode))).partDone p := by
  unfold State.emit
  dsimp only
  rw [if_pos (by simp [hq]), beq_false_of_ne hfeed, if_neg Bool.false_ne_true, if_pos (by simp [hq, hlast])]
  rfl

/-- A PACE data phase that has had its LEN bits makes way for the next (R65). -/
def Port.phased (x : Port) : Port := if x.lenNow.toNat ≤ x.reply.bits then x.nextPhase else x

theorem Port.phased_stays {x : Port} (h : x.reply.bits < x.lenNow.toNat) : x.phased = x := if_neg (Nat.not_le.2 h)

theorem Port.phased_ends {x : Port} (h : x.lenNow.toNat ≤ x.reply.bits) : x.phased = x.nextPhase := if_pos h

/-- Transfers of a PACE data phase (R65, R113). -/
theorem State.emit_paces (hfeed : (s.port p).reply.feed = .progress) (hq : (s.port p).reply.bits < 8 * (s.port p).wire.length) :
    s.emit p = s.modPort p (fun x => (x.sent (padCell (s.port p).lenNow.toNat (s.port p).txMode (s.port p).reply.bits
      (cellAt (s.port p).wire (s.port p).txMode (s.port p).reply.bits)) ((s.port p).reply.bits + modeBits (s.port p).txMode)).phased) := by
  unfold State.emit
  dsimp only
  rw [if_pos (by simp [hq]), beq_iff_eq.2 hfeed, if_pos rfl, if_pos rfl]
  by_cases hlen : (s.port p).lenNow.toNat ≤ (s.port p).reply.bits + modeBits (s.port p).txMode
  · rw [if_pos hlen]
    exact (State.modPort_modPort s p _ _).trans (State.modPort_congr (if_pos hlen).symm)
  · rw [if_neg hlen]
    exact State.modPort_congr (if_neg hlen).symm

theorem modeBits_le (m : BitVec 4) : 0 < modeBits m ∧ modeBits m ≤ 16 := by
  revert m
  decide

/-- Bytes that come after the end of others are read from their own beginning. -/
theorem transferAt_append (l r : List Byte) (lanes j : Nat) : transferAt (l ++ r) lanes (8 * l.length + j) = transferAt r lanes j := by
  unfold transferAt
  rw [show (8 * l.length + j) / 8 = l.length + j / 8 by omega, show (8 * l.length + j) % 8 = j % 8 by omega,
    List.getD_append_right _ _ _ _ (by omega), Nat.add_sub_cancel_left]

theorem cellAt_append (l r : List Byte) (m : BitVec 4) : cellAt (l ++ r) m (8 * l.length) = cellAt r m 0 := by
  unfold cellAt
  have hfirst : transferAt (l ++ r) (modeLanes m) (8 * l.length) = transferAt r (modeLanes m) 0 := transferAt_append l r _ 0
  dsimp only
  rw [hfirst, transferAt_append, Nat.zero_add]

end

end Sys2Proof.Machine
end

section
/-! PROOFS. PACE, STATUS, IDENT, SFDP, REGRD and ARM (R61 to R67, R94, R97, R113, R178, R189 to R191, R573). -/
namespace Sys2Proof.Machine

section
variable {s : State} {p : PortId}

/-! ### What a reply reports does not move with its own lanes -/

theorem State.recordsFor_modPort (f : Port → Port) (h : (f (s.port p)).mask = (s.port p).mask) :
    (s.modPort p f).recordsFor p = s.recordsFor p := by
  unfold State.recordsFor
  rw [State.modPort_port_self, h]
  rfl

theorem State.attn_modPort (f : Port → Port) (h : (f (s.port p)).mask = (s.port p).mask) : (s.modPort p f).attn p = s.attn p := by
  unfold State.attn
  rw [State.recordsFor_modPort f h]

theorem State.progressRecord_modPort (f : Port → Port) (h : (f (s.port p)).mask = (s.port p).mask)
    (hg : (f (s.port p)).guarded = (s.port p).guarded) : (s.modPort p f).progressRecord p = s.progressRecord p := by
  unfold State.progressRecord State.progressFlags
  rw [State.recordsFor_modPort f h, State.modPort_port_self, hg]
  rfl

theorem State.progressRecord_length : (s.progressRecord p).length = 8 := rfl

theorem State.statusBlock_length : (s.statusBlock p).length = 12 := rfl

/-! ### Cycles that ask for the next part -/

theorem State.owesNext_iff : s.owesNext p = true ↔
    s.replyCycle p = true ∧ 0 < (s.port p).reply.bits ∧ (s.port p).reply.bits = 8 * (s.port p).wire.length := by
  simp only [State.owesNext, State.replyNext, Bool.and_eq_true, decide_eq_true_eq, beq_iff_eq, and_assoc]

/-- A cycle with everything decided so far gone out asks for more. -/
theorem exec_asks (inp : EdgeIn) (h : s.owesNext p = true) :
    exec (.paceEdge p inp) s = .next (((s.modPort p Port.cycled).pull p).emit p) := by
  obtain ⟨hcycle, hbits, hall⟩ := State.owesNext_iff.1 h
  rw [exec_replyCycle inp hcycle, State.drive_asks]
  · rw [State.modPort_port_self]
    exact hbits
  · rw [State.modPort_port_self]
    exact hall

/-- The next part begins: more than a cycle's bits of it are decided, and it is no progress record. -/
theorem State.emit_part {t : State} {x : Port} (hx : t.port p = x) (data : List Byte) (feed : Feed) (g : Port → Port)
    (hg : ∀ y, (g y).reply = y.reply ∧ (g y).txMode = y.txMode) (hbits : x.reply.bits = 8 * x.wire.length) (hfeed : feed ≠ .progress)
    (hdata : 2 < data.length) :
    ∃ c, (t.modPort p (fun y => g (y.fed data feed))).emit p =
      t.modPort p (fun y => (g (y.fed data feed)).sent c (x.reply.bits + modeBits x.txMode)) := by
  have hwire : (g (x.fed data feed)).wire = x.wire ++ data := by
    rw [← Port.wire_fed]
    unfold Port.wire
    rw [(hg _).1, (hg _).2]
  have hlen : (g (x.fed data feed)).wire.length = x.wire.length + data.length := by rw [hwire, List.length_append]
  have hreply : (g (x.fed data feed)).reply = (x.fed data feed).reply := (hg _).1
  have hmode : (g (x.fed data feed)).txMode = x.txMode := (hg _).2
  have hle := (modeBits_le x.txMode).2
  have hport : (t.modPort p (fun y => g (y.fed data feed))).port p = g (x.fed data feed) := by rw [State.modPort_port_self, hx]
  have hb : (g (x.fed data feed)).reply.bits = x.reply.bits := by rw [hreply]; rfl
  rw [State.emit_goesOn]
  · rw [hport, State.modPort_modPort, hb, hmode]
    exact ⟨_, rfl⟩
  · rw [hport, hreply]
    exact hfeed
  · rw [hport, hb, hlen]
    omega
  · rw [hport, hb, hlen, hmode]
    omega

theorem State.modPort_of_fixed {f : Port → Port} (h : f (s.port p) = s.port p) : s.modPort p f = s := by
  rw [State.modPort, h, State.port, Vector.set_getElem_self]

/-- The last bits of a part that is no record count a stone at most. -/
theorem State.partDone_plain {t : State} (hfeed : ∀ peek done id, (t.port p).reply.feed ≠ .records peek done (some id)) :
    ∃ n, t.partDone p = t.modPort p (fun y => { y with stones := n }) := by
  have hcount : ∀ b : Bool, ∃ n, (if b = true then
      t.modPort p (fun y => { y with stones := if y.stones = 0xFFFF then y.stones else y.stones + 1 }) else t) =
      t.modPort p (fun y => { y with stones := n }) := by
    intro b
    cases b with
    | true => exact ⟨if (t.port p).stones = 0xFFFF then (t.port p).stones else (t.port p).stones + 1, (if_pos rfl).trans (State.modPort_congr rfl)⟩
    | false => exact ⟨(t.port p).stones, (if_neg Bool.false_ne_true).trans (State.modPort_of_fixed rfl).symm⟩
  unfold State.partDone
  dsimp only
  split
  · next peek done id h => exact absurd h (hfeed peek done id)
  · exact hcount _

/-- The last bits of a part of a transaction that fetches nothing count nothing. -/
theorem State.partDone_idle {t : State} (hfeed : (t.port p).reply.feed = .ones ∨ (t.port p).reply.feed = .status)
    (hfetch : (t.port p).fetch = none) : t.partDone p = t := by
  unfold State.partDone
  dsimp only
  rw [hfetch]
  split
  · next h => rcases hfeed with hf | hf <;> exact nomatch hf.symm.trans h
  · rfl

theorem State.emit_sends {t : State} {x : Port} (hx : t.port p = x) (hfeed : x.reply.feed = .ones ∨ x.reply.feed = .status)
    (hfetch : x.fetch = none) (hq : x.reply.bits < 8 * x.wire.length) :
    t.emit p = t.modPort p (fun y => y.sent (cellAt x.wire x.txMode x.reply.bits) (x.reply.bits + modeBits x.txMode)) := by
  subst hx
  have hne : (t.port p).reply.feed ≠ .progress := by rcases hfeed with hf | hf <;> rw [hf] <;> exact nofun
  by_cases hlast : 8 * (t.port p).wire.length ≤ (t.port p).reply.bits + modeBits (t.port p).txMode
  · rw [State.emit_ends hne hq hlast, State.partDone_idle]
    · rw [State.modPort_port_self]
      exact hfeed
    · rw [State.modPort_port_self]
      exact hfetch
  · exact State.emit_goesOn hne (.inl hq) fun _ => by omega

/-! ### The next part of each kind -/

theorem State.pull_progress (h : (s.port p).reply.feed = .progress) :
    s.pull p = (s.feedMore p (s.progressRecord p) .progress).recordSent p := by
  unfold State.pull
  dsimp only
  rw [h]

theorem State.pull_status (h : (s.port p).reply.feed = .status) : s.pull p = (s.feedMore p (s.statusBlock p) .ones).recordSent p := by
  unfold State.pull
  dsimp only
  rw [h]

theorem State.pull_sfdp {a : Nat} (h : (s.port p).reply.feed = .sfdp a) :
    s.pull p = s.feedMore p [sfdpTable.getD a 0xFF, sfdpTable.getD (a + 1) 0xFF] (.sfdp (a + 2)) := by
  unfold State.pull
  dsimp only
  rw [h]

/-- What a cycle that asks for the next part leaves of the reply, where the part has at least a cycle's bits. -/
theorem State.asked_sfdp {x : Port} (hx : s.port p = x) (data : List Byte) (a : Nat) (hbits : x.reply.bits = 8 * x.wire.length)
    (hdata : data.length = 2) : ∃ f : Port → Port, (s.modPort p (fun y => y.fed data (.sfdp a))).emit p = s.modPort p f
      ∧ (f x).reply.data = x.reply.data ++ data ∧ (f x).reply.feed = .sfdp a := by
  have hlen : (x.fed data (.sfdp a)).wire.length = x.wire.length + 2 := by rw [Port.wire_fed, List.length_append, hdata]
  have hle := (modeBits_le x.txMode).2
  have hport : (s.modPort p (fun y => y.fed data (.sfdp a))).port p = x.fed data (.sfdp a) := by rw [State.modPort_port_self, hx]
  have hb : (x.fed data (.sfdp a)).reply.bits = x.reply.bits := rfl
  have hmode : (x.fed data (.sfdp a)).txMode = x.txMode := rfl
  have hfeed : (x.fed data (.sfdp a)).reply.feed = .sfdp a := rfl
  by_cases hlast : 8 * (x.fed data (.sfdp a)).wire.length ≤ x.reply.bits + modeBits x.txMode
  · rw [State.emit_ends (by rw [hport, hfeed]; exact nofun) (by rw [hport, hb, hlen]; omega) (by rw [hport, hb, hmode]; exact hlast),
      State.modPort_modPort]
    obtain ⟨n, hn⟩ := State.partDone_plain (p := p) (t := s.modPort p (fun y => (y.fed data (.sfdp a)).sent
      (cellAt ((s.modPort p (fun y => y.fed data (.sfdp a))).port p).wire ((s.modPort p (fun y => y.fed data (.sfdp a))).port p).txMode
        ((s.modPort p (fun y => y.fed data (.sfdp a))).port p).reply.bits)
      (((s.modPort p (fun y => y.fed data (.sfdp a))).port p).reply.bits
        + modeBits ((s.modPort p (fun y => y.fed data (.sfdp a))).port p).txMode)))
      (by
        rw [State.modPort_port_self]
        exact nofun)
    rw [hn, State.modPort_modPort]
    exact ⟨_, rfl, rfl, rfl⟩
  · rw [State.emit_goesOn (by rw [hport, hfeed]; exact nofun) (by rw [hport, hb, hlen]; omega)
      (by rw [hport, hb, hmode]; omega), State.modPort_modPort]
    exact ⟨_, rfl, rfl, rfl⟩

theorem State.statusBlock_modPort (f : Port → Port) (h : (f (s.port p)).mask = (s.port p).mask)
    (hg : (f (s.port p)).guarded = (s.port p).guarded) (ha : (f (s.port p)).armed = (s.port p).armed)
    (hr : (f (s.port p)).result = (s.port p).result) : (s.modPort p f).statusBlock p = s.statusBlock p := by
  unfold State.statusBlock
  rw [State.progressRecord_modPort f h hg, State.modPort_port_self, ha, hr]
  rfl

theorem Port.cycled_txMode (x : Port) : x.cycled.txMode = x.txMode := rfl

end

/-- Settles O26: a command leaves what its data phase is to feed, and each cycle asks, feeds and drives. -/
theorem readingTransactions : Obligations.ReadingTransactions := by
  refine ⟨fun s tx h => ?_, fun s p inp h hfeed => ?_, fun s p inp h hfeed => ?_, fun s tx h => ?_, fun s p inp h hfeed => ?_,
    fun s tx h => ?_, fun s tx addr pad h => ?_, fun s p inp a h hfeed => ?_, fun s tx h => ⟨?_, fun u n => rfl⟩, fun s tx r h hsel => ?_⟩
  · show Host.Outcome.next _ = _
    rw [State.begin_listens s tx 0x70 false h (by decide)]
  · obtain ⟨-, hbits, hall⟩ := State.owesNext_iff.1 h
    have hpull : (s.modPort p Port.cycled).pull p = s.modPort p (fun x =>
        { x.cycled.fed (s.progressRecord p) .progress with guarded := false }) := by
      rw [State.pull_progress (by rw [State.modPort_port_self]; exact hfeed), State.progressRecord_modPort Port.cycled rfl rfl]
      unfold State.feedMore State.recordSent
      rw [State.modPort_modPort, State.modPort_modPort]
      rfl
    have hport : (s.modPort p (fun x => { x.cycled.fed (s.progressRecord p) .progress with guarded := false })).port p =
        { (s.port p).cycled.fed (s.progressRecord p) .progress with guarded := false } := State.modPort_port_self s p _
    have hwire : Port.wire { (s.port p).cycled.fed (s.progressRecord p) .progress with guarded := false } =
        (s.port p).wire ++ s.progressRecord p := Port.wire_fed (s.port p) _ .progress
    have hexec := exec_asks inp h
    rw [hpull, State.emit_paces, State.modPort_modPort, hport, hwire] at hexec
    · refine ⟨_, hexec, ?_, ?_, ?_, ?_, rfl, fun r hr => State.modPort_port_of_ne s p _ r hr⟩
      · rw [State.modPort_port_self]
        have hcell : cellAt ((s.port p).wire ++ s.progressRecord p) (s.port p).txMode (s.port p).reply.bits =
            cellAt (s.progressRecord p) (s.port p).txMode 0 := by rw [hall, cellAt_append]
        rw [← hcell]
        unfold Port.phased
        split
        · rfl
        · rfl
      · rw [State.modPort_port_self]
        unfold Port.phased
        split
        · rfl
        · rfl
      · intro hlt
        rw [State.modPort_port_self, Port.phased_stays]
        · exact ⟨rfl, rfl⟩
        · exact hlt
      · intro hle
        rw [State.modPort_port_self, Port.phased_ends]
        · exact ⟨rfl, rfl⟩
        · exact hle
    · rw [hport]
      rfl
    · rw [hport, hwire, List.length_append, State.progressRecord_length]
      show (s.port p).reply.bits < _
      omega
  · simp only [State.replyOpens, Bool.and_eq_true, beq_iff_eq, Option.isNone_iff_eq_none] at h
    obtain ⟨⟨⟨hcycle, hbits⟩, hfetch⟩, hhold⟩ := h
    have hexec := exec_replyCycle inp hcycle
    have hself : (s.modPort p Port.cycled).port p = (s.port p).cycled := State.modPort_port_self s p _
    rw [State.drive_opens (by rw [hself]; exact hbits) (by rw [hself]; exact hhold) (by rw [hself]; exact hfetch),
      State.attn_modPort Port.cycled rfl, State.modPort_modPort] at hexec
    let x : Port := { (s.port p).cycled with
      reply := { (s.port p).reply with status := freshByte (s.port p).reply.status (s.attn p) s.bootBit } }
    have hport : (s.modPort p (fun y => { y.cycled with
        reply := { y.cycled.reply with status := freshByte y.cycled.reply.status (s.attn p) (s.modPort p Port.cycled).bootBit } })).port p = x :=
      State.modPort_port_self s p _
    have hpos := Port.wire_pos x
    have hxfeed : x.reply.feed = .ones ∨ x.reply.feed = .status := hfeed
    have hxbits : x.reply.bits = 0 := hbits
    rw [State.emit_sends hport hxfeed hfetch (by omega), State.modPort_modPort, hxbits] at hexec
    refine ⟨_, hexec, ?_, ?_, rfl, fun r hr => State.modPort_port_of_ne s p _ r hr⟩
    · rw [State.modPort_port_self]
      show _ = Reply.mk _ _ _ _ _ _
      rw [Nat.zero_add]
      rfl
    · rw [State.modPort_port_self]
      rfl
  · exact congrArg Host.Outcome.next (s.run2_takes tx 0x0C false _ h (by decide))
  · obtain ⟨-, hbits, hall⟩ := State.owesNext_iff.1 h
    have hpull : (s.modPort p Port.cycled).pull p =
        (s.modPort p Port.cycled).modPort p (fun x => { x.fed (s.statusBlock p) .ones with guarded := false }) := by
      rw [State.pull_status (by rw [State.modPort_port_self]; exact hfeed), State.statusBlock_modPort Port.cycled rfl rfl rfl rfl]
      unfold State.feedMore State.recordSent
      rw [State.modPort_modPort]
      rfl
    obtain ⟨c, hemit⟩ := State.emit_part (t := s.modPort p Port.cycled) (State.modPort_port_self s p _) (s.statusBlock p) .ones
      (fun y => { y with guarded := false }) (fun y => ⟨rfl, rfl⟩) hall nofun (by rw [State.statusBlock_length]; decide)
    have hexec := exec_asks inp h
    rw [hpull, hemit, State.modPort_modPort] at hexec
    refine ⟨_, hexec, ?_, ?_, ?_, rfl, fun r hr => State.modPort_port_of_ne s p _ r hr⟩
    · rw [State.modPort_port_self]
      rfl
    · rw [State.modPort_port_self]
      rfl
    · rw [State.modPort_port_self]
      rfl
  · refine congrArg Host.Outcome.next ((s.run2_takes tx 0xE1 false _ h (by decide)).trans ?_)
    have hchip : ((s.received tx 0xE1).port tx.port).chipid = (s.port tx.port).chipid := by rw [State.received_port_self]; simp
    unfold State.identBlock
    rw [hchip]
    rfl
  · exact congrArg Host.Outcome.next (s.run2_takes tx 0x5A false _ h (by decide))
  · obtain ⟨-, hbits, hall⟩ := State.owesNext_iff.1 h
    obtain ⟨f, hemit, hdata, hfeed'⟩ := State.asked_sfdp (s := s.modPort p Port.cycled) (State.modPort_port_self s p _)
      [sfdpTable.getD a 0xFF, sfdpTable.getD (a + 1) 0xFF] (a + 2) hall rfl
    have hexec := exec_asks inp h
    rw [State.pull_sfdp (by rw [State.modPort_port_self]; exact hfeed), State.feedMore] at hexec
    rw [show (fun x : Port => { x with reply := { x.reply with
      data := x.reply.data ++ [sfdpTable.getD a 0xFF, sfdpTable.getD (a + 1) 0xFF], feed := .sfdp (a + 2) } }) =
      (fun x => x.fed [sfdpTable.getD a 0xFF, sfdpTable.getD (a + 1) 0xFF] (.sfdp (a + 2))) from rfl, hemit, State.modPort_modPort] at hexec
    refine ⟨_, hexec, ?_, ?_, rfl, fun r hr => State.modPort_port_of_ne s p _ r hr⟩
    · rw [State.modPort_port_self]
      exact hdata
    · rw [State.modPort_port_self]
      exact hfeed'
  · exact congrArg Host.Outcome.next (s.run2_takes tx 0x2A false _ h (by decide))
  · refine congrArg Host.Outcome.next ((s.run2_takes tx 0x60 false _ h (by decide)).trans ?_)
    have hhigh : (BitVec.setWidth 16 r).extractLsb' 12 4 = 0 := by
      refine BitVec.eq_of_getLsbD_eq fun i hi => ?_
      simp
    have hlow : (BitVec.setWidth 16 r).extractLsb' 0 12 = r := by
      refine BitVec.eq_of_getLsbD_eq fun i hi => ?_
      simp [hi]
      omega
    dsimp only
    rw [if_neg (not_not_intro hhigh), hlow, hsel]
    rfl

end Sys2Proof.Machine
end

section
/-! PROOFS. COLLECT and PEEK (R203 to R208, R212, R216). -/
namespace Sys2Proof.Machine

section
variable {s : State} {p : PortId}

theorem State.collectable_cycled (done : List Nat) : (s.modPort p Port.cycled).collectable p done = s.collectable p done := by
  unfold State.collectable
  rw [State.recordsFor_modPort Port.cycled rfl]
  rfl

theorem State.pull_records {peek : Bool} {done : List Nat} {now : Option Nat} (h : (s.port p).reply.feed = .records peek done now) :
    s.pull p = s.pickRecord p peek done := by
  unfold State.pull
  dsimp only
  rw [h]

/-- The port begins a record block. -/
def Port.shows (x : Port) (peek : Bool) (done : List Nat) (o : Op) : Port :=
  { x.fed o.block (.records peek done (some o.id)) with
    reply := { (x.fed o.block (.records peek done (some o.id))).reply with shown := o.id :: x.reply.shown } }

theorem State.pickRecord_some {peek : Bool} {done : List Nat} {o : Op} (h : oldest (s.collectable p done) = some o) :
    s.pickRecord p peek done = (s.modOp o.id (fun x => { x with driving := some p })).modPort p (fun x => x.shows peek done o) := by
  unfold State.pickRecord State.feedMore
  rw [h]
  exact State.modPort_modPort _ p _ _

theorem State.pickRecord_none {peek : Bool} {done : List Nat} (h : oldest (s.collectable p done) = none) :
    s.pickRecord p peek done = s.modPort p (fun x => x.fed [] .ones) := by
  unfold State.pickRecord
  rw [h]
  rfl

theorem Op.block_length (o : Op) : 2 < o.block.length := by
  unfold Op.block withCrc Op.record be32 be16
  simp only [List.length_append, List.length_cons, List.length_nil]
  omega

/-- A cycle that finds no record to drive sends 1s. -/
theorem State.emit_noRecord (hbits : (s.port p).reply.bits = 8 * (s.port p).wire.length) :
    ∃ f : Port → Port, (s.modPort p (fun x => x.fed [] .ones)).emit p = s.modPort p f
      ∧ (f (s.port p)).reply.data = (s.port p).reply.data ∧ (f (s.port p)).reply.feed = .ones := by
  have hport : (s.modPort p (fun x => x.fed [] .ones)).port p = (s.port p).fed [] .ones := State.modPort_port_self s p _
  rw [State.emit_goesOn, State.modPort_modPort]
  · exact ⟨_, rfl, List.append_nil _, rfl⟩
  · rw [hport]
    exact nofun
  · rw [hport]
    exact .inr rfl
  · rw [hport, Port.wire_fed, List.append_nil]
    exact fun h => absurd (show (s.port p).reply.bits < _ from h) (by omega)

/-- A cycle that finds a record begins its block. -/
theorem State.emit_shows (peek : Bool) (done : List Nat) (o : Op) (hbits : (s.port p).reply.bits = 8 * (s.port p).wire.length) :
    ∃ f : Port → Port, (s.modPort p (fun x => x.shows peek done o)).emit p = s.modPort p f
      ∧ (f (s.port p)).reply.data = (s.port p).reply.data ++ o.block ∧ (f (s.port p)).reply.feed = .records peek done (some o.id) := by
  have hport : (s.modPort p (fun x => x.shows peek done o)).port p = (s.port p).shows peek done o := State.modPort_port_self s p _
  have hwire : ((s.port p).shows peek done o).wire = (s.port p).wire ++ o.block := Port.wire_fed (s.port p) o.block (.records peek done (some o.id))
  have hlen : ((s.port p).shows peek done o).wire.length = (s.port p).wire.length + o.block.length := by rw [hwire, List.length_append]
  have hb : ((s.port p).shows peek done o).reply.bits = (s.port p).reply.bits := rfl
  have hmode : ((s.port p).shows peek done o).txMode = (s.port p).txMode := rfl
  have hblock := o.block_length
  have hle := (modeBits_le (s.port p).txMode).2
  rw [State.emit_goesOn, State.modPort_modPort]
  · exact ⟨_, rfl, rfl, rfl⟩
  · rw [hport]
    exact nofun
  · rw [hport, hb, hlen]
    omega
  · rw [hport, hb, hlen, hmode]
    omega

/-- The port has driven a record to its end. -/
def Port.drove (x : Port) (peek : Bool) (done : List Nat) : Port := { x with reply := { x.reply with feed := .records peek done none } }

/-- The last bits of a record leave it uncollected to a PEEK. -/
theorem State.partDone_peek {done : List Nat} {id : Nat} (h : (s.port p).reply.feed = .records true done (some id)) :
    s.partDone p = (s.modPort p (fun y => y.drove true (id :: done))).modOp id
      (fun o => { o with driving := none }) := by
  unfold State.partDone
  dsimp only
  rw [h]
  rfl

theorem State.op?_modOp_of_op? {t : State} {o : Op} {id : Nat} {f : Op → Op} (hf : ∀ x, (f x).id = x.id) (h : t.op? id = some o) :
    (t.modOp id f).op? id = some (f o) := by
  have hid : (o.id == id) = true := List.find?_some (p := fun x : Op => x.id == id) h
  have hcomp : ((fun x : Op => x.id == id) ∘ fun x => if x.id == id then f x else x) = fun x : Op => x.id == id := by
    funext x
    dsimp only [Function.comp_apply]
    split
    · rw [hf]
    · rfl
  show (t.ledger.ops.map (fun x => if x.id == id then f x else x)).find? (fun x => x.id == id) = some (f o)
  rw [List.find?_map, hcomp, show t.ledger.ops.find? (fun x => x.id == id) = some o from h, Option.map_some, if_pos hid]

/-- The last bits of a record collect it. -/
theorem State.partDone_collect {done : List Nat} {o : Op} (h : (s.port p).reply.feed = .records false done (some o.id))
    (ho : s.op? o.id = some o) :
    s.partDone p = ((s.modPort p (fun y => y.drove false (o.id :: done))).modOp o.id
      (fun x => { x with driving := none })).collected { o with driving := none } := by
  have hop : ((s.modPort p (fun y => y.drove false (o.id :: done))).modOp o.id
      (fun x => { x with driving := none })).op? o.id = some { o with driving := none } := by
    exact State.op?_modOp_of_op? (t := s.modPort p (fun y => y.drove false (o.id :: done))) (f := fun x => { x with driving := none }) (fun _ => rfl) ho
  unfold State.partDone
  dsimp only
  rw [h]
  dsimp only
  dsimp only [Port.drove] at hop
  rw [if_neg Bool.false_ne_true, hop]
  rfl

/-- A record that has been collected leaves the ledger, and its yard slots are free. -/
theorem State.collected_frame (o : Op) :
    (s.collected o).ports = s.ports ∧ (s.collected o).ledger = { s.ledger with
      ops := s.ledger.ops.filter (fun x => x.id != o.id), yard := s.ledger.yard.filter (fun e => e.owner != o.id) }
    ∧ s.collected o = { s with ledger := (s.collected o).ledger, trace := (s.collected o).trace } := by
  unfold State.collected State.drainYard State.traceOp
  split
  · exact ⟨rfl, rfl, rfl⟩
  · split
    · exact ⟨rfl, rfl, rfl⟩
    · exact ⟨rfl, rfl, rfl⟩

theorem filter_map_of_fixed {α : Type} (f : α → α) (q r : α → Bool) (l : List α) (hf : ∀ x, q (f x) = q x)
    (hr : ∀ x, q x = true → r x = false) : (l.map (fun x => if r x = true then f x else x)).filter q = l.filter q := by
  induction l with
  | nil => rfl
  | cons x l ih =>
    rw [List.map_cons, List.filter_cons, List.filter_cons, ih]
    cases hq : q x with
    | true => rw [hr x hq, if_neg Bool.false_ne_true, hq]
    | false =>
      have hout : q (if r x = true then f x else x) = false := by
        split
        · exact (hf x).trans hq
        · exact hq
      rw [hout]
      rfl

/-- A COLLECT with no record to drive sends 1s on the cycle that asks. -/
theorem exec_asks_noRecord (inp : EdgeIn) {peek : Bool} {done : List Nat} {now : Option Nat} (h : s.owesNext p = true)
    (hfeed : (s.port p).reply.feed = .records peek done now) (hnone : oldest (s.collectable p done) = none) :
    ∃ f : Port → Port, exec (.paceEdge p inp) s = .next (s.modPort p f)
      ∧ (f (s.port p)).reply.data = (s.port p).reply.data ∧ (f (s.port p)).reply.feed = .ones := by
  obtain ⟨-, -, hall⟩ := State.owesNext_iff.1 h
  have hself : (s.modPort p Port.cycled).port p = (s.port p).cycled := State.modPort_port_self s p _
  obtain ⟨f, hf, hdata, hones⟩ := State.emit_noRecord (s := s.modPort p Port.cycled) (p := p) (by rw [hself]; exact hall)
  rw [hself] at hdata hones
  refine ⟨fun x => f x.cycled, ?_, hdata, hones⟩
  rw [exec_asks inp h, State.pull_records (by rw [hself]; exact hfeed),
    State.pickRecord_none ((congrArg oldest (State.collectable_cycled done)).trans hnone), hf, State.modPort_modPort]

/-- A COLLECT begins the block of the oldest record on the cycle that asks. -/
theorem exec_asks_record (inp : EdgeIn) {peek : Bool} {done : List Nat} {now : Option Nat} {o : Op} (h : s.owesNext p = true)
    (hfeed : (s.port p).reply.feed = .records peek done now) (hsome : oldest (s.collectable p done) = some o) :
    ∃ f : Port → Port, exec (.paceEdge p inp) s = .next ((s.modOp o.id (fun x => { x with driving := some p })).modPort p f)
      ∧ (f (s.port p)).reply.data = (s.port p).reply.data ++ o.block ∧ (f (s.port p)).reply.feed = .records peek done (some o.id) := by
  obtain ⟨-, -, hall⟩ := State.owesNext_iff.1 h
  have hself : (s.modPort p Port.cycled).port p = (s.port p).cycled := State.modPort_port_self s p _
  have hport : ((s.modPort p Port.cycled).modOp o.id (fun x => { x with driving := some p })).port p = (s.port p).cycled := hself
  obtain ⟨f, hf, hdata, hrecord⟩ := State.emit_shows
    (s := (s.modPort p Port.cycled).modOp o.id (fun x => { x with driving := some p })) (p := p) peek done o
    (by
      rw [hport]
      exact hall)
  rw [hport] at hdata hrecord
  refine ⟨fun x => f x.cycled, ?_, hdata, hrecord⟩
  rw [exec_asks inp h, State.pull_records (by rw [hself]; exact hfeed),
    State.pickRecord_some ((congrArg oldest (State.collectable_cycled done)).trans hsome), hf]
  exact congrArg Host.Outcome.next (State.modPort_modPort (s.modOp o.id _) p _ _)

/-- The cycle with the last bits of a part that is no progress record. -/
theorem exec_sendsLast (inp : EdgeIn) (h : s.sendsLast p = true) (hfeed : (s.port p).reply.feed ≠ .progress) :
    ∃ f : Port → Port, exec (.paceEdge p inp) s = .next ((s.modPort p f).partDone p)
      ∧ (f (s.port p)).reply.feed = (s.port p).reply.feed := by
  simp only [State.sendsLast, State.replyNext, Bool.and_eq_true, decide_eq_true_eq] at h
  obtain ⟨⟨⟨hcycle, hbits⟩, hq⟩, hlast⟩ := h
  have hself : (s.modPort p Port.cycled).port p = (s.port p).cycled := State.modPort_port_self s p _
  rw [exec_replyCycle inp hcycle, State.drive_sends (by rw [hself]; exact hbits) (by rw [hself]; exact hq),
    State.emit_ends (by rw [hself]; exact hfeed) (by rw [hself]; exact hq) (by rw [hself]; exact hlast), State.modPort_modPort]
  exact ⟨_, rfl, rfl⟩

end

/-- Settles O30: a cycle that asks for a record begins its block; the block's last bits end it. -/
theorem collectDrivesRecords : Obligations.CollectDrivesRecords := by
  refine ⟨fun s tx pad h => ⟨?_, ?_⟩, fun s p inp peek done now h hfeed => ?_, fun s p inp peek done o h hfeed hop => ?_⟩
  · exact congrArg Host.Outcome.next (s.run2_takes tx 0x7C false _ h (by decide))
  · exact congrArg Host.Outcome.next (s.run2_takes tx 0x7C false _ h (by decide))
  · cases hold : oldest (s.collectable p done) with
    | none =>
      obtain ⟨f, hexec, hdata, hones⟩ := exec_asks_noRecord inp h hfeed hold
      refine ⟨_, hexec, fun o ho => absurd ho.symm (Option.some_ne_none o), fun _ => ⟨?_, ?_, rfl⟩, rfl, fun r hr => State.modPort_port_of_ne s p _ r hr⟩
      · rw [State.modPort_port_self]
        exact hdata
      · rw [State.modPort_port_self]
        exact hones
    | some o =>
      obtain ⟨f, hexec, hdata, hrecord⟩ := exec_asks_record inp h hfeed hold
      generalize hu : s.modOp o.id (fun x => { x with driving := some p }) = u at hexec
      have hports : u.ports = s.ports := hu ▸ rfl
      refine ⟨_, hexec, fun o' ho' => ?_, fun hno => absurd hno (Option.some_ne_none o), ?_, fun r hr => ?_⟩
      · obtain rfl := Option.some.inj ho'
        refine ⟨?_, ?_, ?_⟩
        · rw [State.modPort_port_self, State.port_of_ports hports]
          exact hdata
        · rw [State.modPort_port_self, State.port_of_ports hports]
          exact hrecord
        · subst hu
          show Ledger.mk .. = Ledger.mk ..
          simp only [beq_iff_eq]
      · subst hu
        rfl
      · rw [State.modPort_port_of_ne _ p _ r hr, State.port_of_ports hports]
  · obtain ⟨f, hexec, hsame⟩ := exec_sendsLast inp h (ne_of_eq_of_ne hfeed nofun)
    have hfeed' : ((s.modPort p f).port p).reply.feed = .records peek done (some o.id) := by
      rw [State.modPort_port_self, hsame, hfeed]
    cases peek with
    | true =>
      rw [State.partDone_peek hfeed', State.modPort_modPort] at hexec
      refine ⟨_, hexec, ?_, nofun, fun _ => ⟨?_, rfl⟩, rfl,
        fun r hr => State.modPort_port_of_ne s p (fun y => (f y).drove true (o.id :: done)) r hr⟩
      · exact congrArg (fun x : Port => x.reply.feed) (State.modPort_port_self s p (fun y => (f y).drove true (o.id :: done)))
      · show s.ledger.ops.map _ = s.ledger.ops.map _
        simp only [beq_iff_eq]
    | false =>
      rw [State.partDone_collect hfeed' hop, State.modPort_modPort] at hexec
      obtain ⟨hports, hledger, hframe⟩ := State.collected_frame (o := { o with driving := none })
        (s := (s.modPort p (fun y => (f y).drove false (o.id :: done))).modOp o.id (fun x => { x with driving := none }))
      refine ⟨_, hexec, ?_, fun _ => ⟨?_, ?_⟩, nofun, ?_, fun r hr => ?_⟩
      · rw [State.port_of_ports hports]
        exact congrArg (fun x : Port => x.reply.feed) (State.modPort_port_self s p (fun y => (f y).drove false (o.id :: done)))
      · rw [hledger]
        exact filter_map_of_fixed (fun x : Op => { x with driving := none }) (fun x => x.id != o.id) (fun x => x.id == o.id) _
          (fun _ => rfl) (fun x hx => by simpa using hx)
      · rw [hledger]
        exact fun y hy => by simpa using (List.mem_filter.1 hy).2
      · rw [hframe]
        rfl
      · rw [State.port_of_ports hports]
        exact State.modPort_port_of_ne s p (fun y => (f y).drove false (o.id :: done)) r hr

end Sys2Proof.Machine
end

section
/-! PROOFS. Boot (R561 to R567, R152, R436, R457, R461). -/
namespace Sys2Proof.Machine

section
variable {s : State}

/-! ### Folds over banks and gates -/

/-- What each step of a fold keeps, the fold keeps. -/
theorem forEach_inv {α : Type} {P : State → Prop} {f : State → α → State} (h : ∀ t a, P t → P (f t a)) (l : List α) :
    ∀ s, P s → P (forEach l f s) := by
  induction l with
  | nil => exact fun s hs => hs
  | cons a l ih => exact fun s hs => ih (f s a) (h s a hs)

theorem forEach_keeps {α β : Type} (v : State → β) {f : State → α → State} (h : ∀ t a, v (f t a) = v t) (l : List α) (s : State) :
    v (forEach l f s) = v s :=
  forEach_inv (P := fun t => v t = v s) (fun t a ht => (h t a).trans ht) l s rfl

/-- What one step of a fold brings about and no step undoes, the fold leaves. -/
theorem forEach_reaches {α : Type} {I P : State → Prop} {f : State → α → State} {a : α} (hI : ∀ t b, I t → I (f t b))
    (hP : ∀ t, I t → P (f t a)) (hkeep : ∀ t b, b ≠ a → P t → P (f t b)) (l : List α) (ha : a ∈ l) :
    ∀ s, I s → P (forEach l f s) := by
  induction l with
  | nil => exact nomatch ha
  | cons b l ih =>
    intro s hs
    rcases List.mem_cons.1 ha with rfl | hmem
    · refine (forEach_inv (P := fun t => I t ∧ P t) (fun t b ht => ⟨hI t b ht.1, ?_⟩) l _ ⟨hI s a hs, hP s hs⟩).2
      by_cases hb : b = a
      · exact hb ▸ hP t ht.1
      · exact hkeep t b hb ht.2
    · exact ih hmem (f s b) (hI s b hs)

/-! ### What each step leaves alone -/

/-- Boot steps 4 to 6 change banks, gates, boot's own readings and causes only. -/
def State.bootKeeps (s t : State) : Prop :=
  t = { s with banks := t.banks, gates := t.gates, boot := t.boot, glob := t.glob } ∧ t.glob.mapmode = s.glob.mapmode

theorem State.bootKeeps.refl (s : State) : s.bootKeeps s := ⟨rfl, rfl⟩

theorem State.bootKeeps.trans {t u : State} (h : s.bootKeeps t) (k : t.bootKeeps u) : s.bootKeeps u := by
  refine ⟨?_, k.2.trans h.2⟩
  rw [k.1, h.1]

theorem State.noteCopy_frame (second : Bool) : s.bootKeeps (s.noteCopy second) ∧ (s.noteCopy second).banks = s.banks
    ∧ (s.noteCopy second).gates = s.gates ∧ (s.noteCopy second).boot.closed = s.boot.closed
    ∧ (s.noteCopy second).boot.jskip = s.boot.jskip := by
  unfold State.noteCopy
  split
  · exact ⟨⟨rfl, rfl⟩, rfl, rfl, rfl, rfl⟩
  · exact ⟨.refl s, rfl, rfl, rfl, rfl⟩

theorem State.cause_gate (c : BitVec 7) (x : GateId) : (s.cause c).gate x = s.gate x := rfl

theorem State.enableGate_frame (g : GateId) : s.bootKeeps (s.enableGate g) ∧ (s.enableGate g).boot = s.boot
    ∧ (∀ x : GateId, x ≠ g → (s.enableGate g).gate x = s.gate x) ∧ (s.enableGate g).banks = s.banks
    ∧ ((s.enableGate g).gate g).strict = (s.gate g).strict ∧ ((s.enableGate g).gate g).regions = (s.gate g).regions := by
  unfold State.enableGate
  split
  · refine ⟨⟨rfl, rfl⟩, rfl, fun x hx => State.modGate_gate_of_ne _ g _ x hx, rfl, ?_, ?_⟩
    · rw [State.modGate_gate_self]
    · rw [State.modGate_gate_self]
  · refine ⟨⟨rfl, rfl⟩, rfl, fun x hx => ?_, rfl, ?_, ?_⟩
    · rw [State.cause_gate, State.modGate_gate_of_ne _ g _ x hx]
    · rw [State.cause_gate, State.modGate_gate_self]
    · rw [State.cause_gate, State.modGate_gate_self]

/-- A gate without an enabled region has no fault. -/
theorem Gate.firstFault_of_blank (g : Gate) (gi : GateId) (h : g.regions = Vector.replicate 8 0) : g.firstFault gi = none := by
  have hen : ∀ k (hk : k < 8), regEn (g.regions[k]'hk) = false := fun k hk => by
    simp only [h, Vector.getElem_replicate]
    rfl
  unfold Gate.firstFault
  rw [List.find?_eq_none.2 fun i _ => by simp [hen], List.find?_eq_none.2 fun i _ => by simp [hen]]

theorem State.loadGate_frame (g : GateId) (i : GateImage) : s.bootKeeps (s.loadGate g i) ∧ (s.loadGate g i).boot = s.boot
    ∧ (∀ x : GateId, x ≠ g → (s.loadGate g i).gate x = s.gate x) ∧ (s.loadGate g i).banks = s.banks
    ∧ ((s.loadGate g i).gate g).strict = i.strict ∧ ((s.loadGate g i).gate g).regions = i.regions
    ∧ (i.en = false → ((s.loadGate g i).gate g).en = false) ∧ (i = GateImage.shipment → ((s.loadGate g i).gate g).en = true) := by
  generalize hu : s.modGate g (fun x => { x with en := false, strict := i.strict, regions := i.regions }) = u
  have hself : u.gate g = { s.gate g with en := false, strict := i.strict, regions := i.regions } := by
    rw [← hu, State.modGate_gate_self]
  have hothers : ∀ x : GateId, x ≠ g → u.gate x = s.gate x := fun x hx => by
    rw [← hu, State.modGate_gate_of_ne _ g _ x hx]
  have hload : s.loadGate g i = if i.en = true then u.enableGate g else u := hu ▸ rfl
  have hkeeps : s.bootKeeps u := hu ▸ ⟨rfl, rfl⟩
  have hboot : u.boot = s.boot := hu ▸ rfl
  have hbanks : u.banks = s.banks := hu ▸ rfl
  rw [hload]
  cases hen : i.en with
  | true =>
    obtain ⟨hframe, heboot, heothers, hebanks, hstrict, hregions⟩ := u.enableGate_frame g
    rw [if_pos rfl]
    refine ⟨hkeeps.trans hframe, heboot.trans hboot, fun x hx => (heothers x hx).trans (hothers x hx), hebanks.trans hbanks,
      ?_, ?_, nofun, fun hi => ?_⟩
    · rw [hstrict, hself]
    · rw [hregions, hself]
    · unfold State.enableGate
      rw [Gate.firstFault_of_blank _ g (by rw [hself, hi]; rfl)]
      dsimp only
      rw [State.modGate_gate_self]
  | false =>
    rw [if_neg Bool.false_ne_true]
    refine ⟨hkeeps, hboot, hothers, hbanks, ?_, ?_, fun _ => ?_, fun hi => ?_⟩
    · rw [hself]
    · rw [hself]
    · rw [hself]
    · rw [hi] at hen
      exact nomatch hen

theorem bankIx_inj {a b : Fin 64} (h : bankIx a = bankIx b) : a = b := Fin.castSucc_injective 64 h

/-! ### Steps 3 to 6 -/

theorem State.bootBank_frame (b : Fin 64) : s.bootKeeps (s.bootBank b) ∧ (s.bootBank b).boot.jskip = s.boot.jskip
    ∧ (∀ x : Fin 64, x ≠ b → (s.bootBank b).bank (bankIx x) = s.bank (bankIx x))
    ∧ (∀ x : Fin 64, s.closedBank x = true → (s.bootBank b).closedBank x = true) := by
  unfold State.bootBank
  split
  · next r second _ =>
    obtain ⟨hkeeps, hbanks, -, hclosed, hskip⟩ :=
      State.noteCopy_frame (s := s.modBank (bankIx b) (fun k => { k with kept := r })) second
    refine ⟨.trans ⟨rfl, rfl⟩ hkeeps, hskip, fun x hx => ?_, fun x hx => ?_⟩
    · rw [State.bank, hbanks]
      exact State.modBank_bank_of_ne _ (bankIx b) _ (bankIx x) (fun h => hx (bankIx_inj h))
    · unfold State.closedBank
      rw [hclosed]
      exact hx
  · refine ⟨⟨rfl, rfl⟩, rfl, fun _ _ => rfl, fun x hx => ?_⟩
    exact (BitVec.getLsbD_or ..).trans (by rw [show s.boot.closed.getLsbD x.val = true from hx, Bool.true_or])

theorem State.bootBank_some {b : Fin 64} {r : BankRec} {x : Bool} (h : s.plinth.banks[b.val].newest = some (r, x)) :
    ((s.bootBank b).bank (bankIx b)).kept = r := by
  unfold State.bootBank
  rw [h]
  dsimp only
  rw [State.bank, (State.noteCopy_frame x).2.1]
  exact congrArg Bank.kept (State.modBank_bank_self _ (bankIx b) _)

theorem State.bootBank_none {b : Fin 64} (h : s.plinth.banks[b.val].newest = none) : (s.bootBank b).closedBank b = true := by
  unfold State.bootBank
  rw [h]
  refine (getLsbD_oneAt s.boot.closed b.val b.val).trans ?_
  rw [decide_eq_true ⟨b.isLt, rfl⟩, Bool.or_true]

theorem State.bootGate_frame (g : GateId) : s.bootKeeps (s.bootGate g) ∧ (s.bootGate g).banks = s.banks
    ∧ (s.bootGate g).boot.closed = s.boot.closed ∧ (s.bootGate g).boot.jskip = s.boot.jskip
    ∧ ∀ x : GateId, x ≠ g → (s.bootGate g).gate x = s.gate x := by
  unfold State.bootGate
  split
  · next i second _ =>
    obtain ⟨hload, hboot, hothers, hlbanks, -⟩ := s.loadGate_frame g i
    obtain ⟨hkeeps, hbanks, hgates, hclosed, hskip⟩ := State.noteCopy_frame (s := s.loadGate g i) second
    refine ⟨hload.trans hkeeps, hbanks.trans hlbanks, hclosed.trans (congrArg Boot.closed hboot),
      hskip.trans (congrArg Boot.jskip hboot), fun x hx => ?_⟩
    rw [State.gate, hgates]
    exact hothers x hx
  · refine ⟨⟨rfl, rfl⟩, rfl, rfl, rfl, fun x hx => ?_⟩
    rw [State.modBoot_gate, State.modGate_gate_of_ne _ g _ x hx]

theorem State.bootGate_none {g : GateId} (h : s.plinth.images[g.val].newest = none) :
    ((s.bootGate g).gate g).en = true ∧ ((s.bootGate g).gate g).strict = true
    ∧ ((s.bootGate g).gate g).regions = Vector.replicate 8 0 := by
  have hself : (s.bootGate g).gate g =
      { s.gate g with strict := true, regions := Vector.replicate 8 0, en := true, epoch := 1 } := by
    unfold State.bootGate
    rw [h]
    dsimp only
    rw [State.modBoot_gate, State.modGate_gate_self]
  rw [hself]
  exact ⟨rfl, rfl, rfl⟩

theorem State.bootGate_some {g : GateId} {i : GateImage} {x : Bool} (h : s.plinth.images[g.val].newest = some (i, x)) :
    ((s.bootGate g).gate g).strict = i.strict ∧ ((s.bootGate g).gate g).regions = i.regions
    ∧ (i.en = false → ((s.bootGate g).gate g).en = false) ∧ (i = GateImage.shipment → ((s.bootGate g).gate g).en = true) := by
  have hself : (s.bootGate g).gate g = (s.loadGate g i).gate g := by
    unfold State.bootGate
    rw [h]
    dsimp only
    rw [State.gate, (State.noteCopy_frame x).2.2.1]
    rfl
  rw [hself]
  exact (s.loadGate_frame g i).2.2.2.2

theorem State.refillGap_frame (b : BankId) : s.bootKeeps (s.refillGap b) ∧ (s.refillGap b).boot = s.boot
    ∧ (s.refillGap b).gates = s.gates ∧ (∀ x : BankId, x ≠ b → (s.refillGap b).bank x = s.bank x)
    ∧ ((s.bank b).kept.gap.isSome = true → ((s.refillGap b).bank b).kept = (s.bank b).kept) := by
  unfold State.refillGap
  split
  · exact ⟨⟨rfl, rfl⟩, rfl, rfl, fun x hx => State.modBank_bank_of_ne _ b _ x hx,
      fun _ => (congrArg Bank.kept (State.modBank_bank_self s b (fun x => { x with nogap := false }))).trans rfl⟩
  · next hnone =>
    split
    · exact ⟨⟨rfl, rfl⟩, rfl, rfl, fun x hx => State.modBank_bank_of_ne _ b _ x hx,
        fun h => nomatch (congrArg Option.isSome hnone).symm.trans h⟩
    · exact ⟨⟨rfl, rfl⟩, rfl, rfl, fun x hx => State.modBank_bank_of_ne _ b _ x hx,
        fun h => nomatch (congrArg Option.isSome hnone).symm.trans h⟩

/-- A record with an empty tidy list and no KILN slot is tidy. -/
theorem BankRec.tidyUp_of_tidy {r : BankRec} {b : BankId} (htidy : r.tidy = []) (hkiln : ∀ k, k < 544 → r.slotState b k ≠ .kiln) :
    r.tidyUp b = r := by
  have hnone : r.unsettled b = [] := by
    unfold BankRec.unsettled
    rw [List.filter_eq_nil_iff, htidy]
    intro k hk
    simp [beq_false_of_ne (hkiln k (List.mem_range.1 hk))]
  unfold BankRec.tidyUp
  rw [hnone]
  rfl

theorem State.bootTidy_frame (b : Fin 64) : s.bootKeeps (s.bootTidy b) ∧ (s.bootTidy b).boot = s.boot
    ∧ (s.bootTidy b).gates = s.gates ∧ (∀ x : Fin 64, x ≠ b → (s.bootTidy b).bank (bankIx x) = s.bank (bankIx x))
    ∧ ((s.bank (bankIx b)).kept.tidyUp (bankIx b) = (s.bank (bankIx b)).kept → (s.bank (bankIx b)).kept.gap.isSome = true →
        ((s.bootTidy b).bank (bankIx b)).kept = (s.bank (bankIx b)).kept) := by
  unfold State.bootTidy
  split
  · exact ⟨.refl s, rfl, rfl, fun _ _ => rfl, fun _ _ => rfl⟩
  · generalize hu : s.modBank (bankIx b) (fun k => { k with kept := k.kept.tidyUp (bankIx b) }) = u
    have hself : (u.bank (bankIx b)).kept = (s.bank (bankIx b)).kept.tidyUp (bankIx b) := by rw [← hu, State.modBank_bank_self]
    have hothers : ∀ x : Fin 64, x ≠ b → u.bank (bankIx x) = s.bank (bankIx x) := fun x hx =>
      hu ▸ State.modBank_bank_of_ne _ (bankIx b) _ (bankIx x) fun h => hx (bankIx_inj h)
    have hkeeps : s.bootKeeps u := hu ▸ ⟨rfl, rfl⟩
    have hboot : u.boot = s.boot := hu ▸ rfl
    have hgates : u.gates = s.gates := hu ▸ rfl
    obtain ⟨hframe, hrboot, hrgates, hrothers, hkept⟩ := State.refillGap_frame (s := u) (bankIx b)
    refine ⟨.trans (hkeeps.trans hframe) ⟨rfl, rfl⟩, hrboot.trans hboot, hrgates.trans hgates, fun x hx => ?_, fun htidy hgap => ?_⟩
    · dsimp only
      rw [State.modBank_bank_of_ne _ (bankIx b) _ (bankIx x) fun h => hx (bankIx_inj h),
        hrothers (bankIx x) fun h => hx (bankIx_inj h), hothers x hx]
    · dsimp only
      rw [State.modBank_bank_self]
      dsimp only
      rw [hkept, hself, htidy]
      rw [hself, htidy]
      exact hgap

/-- The configuration that boot reads (R567, Table 15.5). -/
def State.configRead (s : State) : CfgRec := ((s.plinth.config.newest).map Prod.fst).getD CfgRec.lost

theorem State.configRead_some {c : CfgRec} {x : Bool} (h : s.plinth.config.newest = some (c, x)) : s.configRead = c := by
  unfold State.configRead
  rw [h]
  rfl

theorem State.bootConfig_frame : (s.setConfig s.configRead).bootKeeps s.bootConfig ∧ s.bootConfig.boot.closed = s.boot.closed
    ∧ s.bootConfig.boot.jskip = s.boot.jskip := by
  unfold State.bootConfig State.configRead
  split
  · next c second h =>
    rw [h]
    obtain ⟨hkeeps, -, -, hclosed, hskip⟩ := State.noteCopy_frame (s := s.setConfig c) second
    exact ⟨hkeeps, hclosed, hskip⟩
  · next h =>
    rw [h]
    exact ⟨⟨rfl, rfl⟩, rfl, rfl⟩

/-- The state with the records of every bank read, and that with the images of every gate loaded too. -/
def State.banksRead (s : State) : State := forEach mainBanks State.bootBank s.bootConfig
def State.gatesRead (s : State) : State := forEach allGates State.bootGate s.banksRead

theorem State.bootRest_eq : s.bootRest = (forEach mainBanks State.bootTidy s.gatesRead).modBoot (fun b => { b with step := 7, jwait := false }) := rfl

theorem State.plinth_of_bootKeeps {t : State} (h : s.bootKeeps t) : t.plinth = s.plinth := by
  rw [h.1]

theorem State.plinth_bootConfig : s.bootConfig.plinth = s.plinth := State.plinth_of_bootKeeps (s := s.setConfig s.configRead) State.bootConfig_frame.1

theorem forEach_bootBank_frame {z : State} (l : List (Fin 64)) (h : z.bootKeeps s) :
    z.bootKeeps (forEach l State.bootBank s) ∧ (forEach l State.bootBank s).boot.jskip = s.boot.jskip :=
  forEach_inv (P := fun t => z.bootKeeps t ∧ t.boot.jskip = s.boot.jskip)
    (fun t b ⟨hkeeps, hskip⟩ => by
      obtain ⟨bkeeps, bskip, -⟩ := State.bootBank_frame (s := t) b
      exact ⟨hkeeps.trans bkeeps, bskip.trans hskip⟩) l s ⟨h, rfl⟩

theorem State.banksRead_frame : (s.setConfig s.configRead).bootKeeps s.banksRead ∧ s.banksRead.boot.jskip = s.boot.jskip := by
  unfold State.banksRead
  obtain ⟨hkeeps, hskip⟩ := forEach_bootBank_frame mainBanks (State.bootConfig_frame (s := s)).1
  exact ⟨hkeeps, hskip.trans State.bootConfig_frame.2.2⟩

theorem State.plinth_banksRead : s.banksRead.plinth = s.plinth := State.plinth_of_bootKeeps (s := s.setConfig s.configRead) State.banksRead_frame.1

theorem forEach_bootGate_frame {z : State} (l : List GateId) (h : z.bootKeeps s) :
    z.bootKeeps (forEach l State.bootGate s) ∧ (forEach l State.bootGate s).boot.jskip = s.boot.jskip
    ∧ (forEach l State.bootGate s).banks = s.banks ∧ (forEach l State.bootGate s).boot.closed = s.boot.closed :=
  forEach_inv (P := fun t => z.bootKeeps t ∧ t.boot.jskip = s.boot.jskip ∧ t.banks = s.banks ∧ t.boot.closed = s.boot.closed)
    (fun t g ⟨hkeeps, hskip, hbanks, hclosed⟩ => by
      obtain ⟨gkeeps, gbanks, gclosed, gskip, -⟩ := State.bootGate_frame (s := t) g
      exact ⟨hkeeps.trans gkeeps, gskip.trans hskip, gbanks.trans hbanks, gclosed.trans hclosed⟩) l s ⟨h, rfl, rfl, rfl⟩

theorem State.gatesRead_frame : (s.setConfig s.configRead).bootKeeps s.gatesRead ∧ s.gatesRead.boot.jskip = s.boot.jskip
    ∧ s.gatesRead.banks = s.banksRead.banks ∧ s.gatesRead.boot.closed = s.banksRead.boot.closed := by
  unfold State.gatesRead
  obtain ⟨hkeeps, hskip, hrest⟩ := forEach_bootGate_frame allGates (State.banksRead_frame (s := s)).1
  exact ⟨hkeeps, hskip.trans State.banksRead_frame.2, hrest⟩

theorem forEach_bootTidy_frame {z : State} (l : List (Fin 64)) (h : z.bootKeeps s) :
    z.bootKeeps (forEach l State.bootTidy s) ∧ (forEach l State.bootTidy s).boot = s.boot
    ∧ (forEach l State.bootTidy s).gates = s.gates :=
  forEach_inv (P := fun t => z.bootKeeps t ∧ t.boot = s.boot ∧ t.gates = s.gates)
    (fun t b ⟨hkeeps, hboot, hgates⟩ => by
      obtain ⟨tkeeps, tboot, tgates, -⟩ := State.bootTidy_frame (s := t) b
      exact ⟨hkeeps.trans tkeeps, tboot.trans hboot, tgates.trans hgates⟩) l s ⟨h, rfl, rfl⟩

/-- What steps 3 to 6 leave but banks, gates, boot's readings and causes. -/
theorem State.bootRest_frame : (s.setConfig s.configRead).bootKeeps s.bootRest ∧ s.bootRest.boot.jskip = s.boot.jskip
    ∧ s.bootRest.boot.step = 7 ∧ s.bootRest.gates = s.gatesRead.gates ∧ s.bootRest.boot.closed = s.banksRead.boot.closed := by
  obtain ⟨hkeeps, hboot, hgates⟩ := forEach_bootTidy_frame mainBanks (State.gatesRead_frame (s := s)).1
  rw [State.bootRest_eq]
  refine ⟨hkeeps.trans ⟨rfl, rfl⟩, ?_, rfl, hgates, ?_⟩
  · exact (congrArg Boot.jskip hboot).trans State.gatesRead_frame.2.1
  · exact (congrArg Boot.closed hboot).trans State.gatesRead_frame.2.2.2

/-- A bank whose record is valid and tidy keeps it. -/
theorem State.bootRest_bank {b : Fin 64} {r : BankRec} {x : Bool} (h : s.plinth.banks[b.val].newest = some (r, x))
    (htidy : r.tidy = []) (hgap : r.gap.isSome = true) (hkiln : ∀ k, k < 544 → r.slotState (bankIx b) k ≠ .kiln) :
    (s.bootRest.bank (bankIx b)).kept = r := by
  have hread : (s.banksRead.bank (bankIx b)).kept = r :=
    forEach_reaches (I := fun t => t.plinth = s.plinth) (P := fun t => (t.bank (bankIx b)).kept = r) (f := State.bootBank) (a := b)
      (fun t b' ht => (State.plinth_of_bootKeeps (State.bootBank_frame b').1).trans ht)
      (fun t ht => State.bootBank_some (x := x) (by rw [ht]; exact h))
      (fun t b' hne ht => (congrArg Bank.kept ((State.bootBank_frame b').2.2.1 b (Ne.symm hne))).trans ht) mainBanks (List.mem_finRange b)
      s.bootConfig (State.plinth_bootConfig)
  have hgates : (s.gatesRead.bank (bankIx b)).kept = r := by
    rw [State.bank, State.gatesRead_frame.2.2.1]
    exact hread
  rw [State.bootRest_eq]
  refine forEach_inv (P := fun t => (t.bank (bankIx b)).kept = r) (f := State.bootTidy) (fun t b' ht => ?_) mainBanks s.gatesRead hgates
  by_cases hb : b' = b
  · subst hb
    exact ((State.bootTidy_frame b').2.2.2.2 (by rw [ht]; exact BankRec.tidyUp_of_tidy htidy hkiln) (by rw [ht]; exact hgap)).trans ht
  · exact (congrArg Bank.kept ((State.bootTidy_frame b').2.2.2.1 b (Ne.symm hb))).trans ht

/-- A bank without a valid record is closed. -/
theorem State.bootRest_closed {b : Fin 64} (h : s.plinth.banks[b.val].newest = none) : s.bootRest.closedBank b = true := by
  have hclosed : s.bootRest.closedBank b = s.banksRead.closedBank b := by
    unfold State.closedBank
    rw [State.bootRest_frame.2.2.2.2]
  rw [hclosed]
  unfold State.banksRead
  exact forEach_reaches (I := fun t => t.plinth = s.plinth) (P := fun t => t.closedBank b = true) (f := State.bootBank) (a := b)
    (fun t b' ht => (State.plinth_of_bootKeeps (State.bootBank_frame b').1).trans ht)
    (fun t ht => State.bootBank_none (by rw [ht]; exact h))
    (fun t b' _ ht => (State.bootBank_frame b').2.2.2 b ht) mainBanks (List.mem_finRange b)
    s.bootConfig (State.plinth_bootConfig)

/-- What the image of a gate makes of it, no other gate's undoes. -/
theorem State.bootRest_gate (g : GateId) (P : Gate → Prop)
    (h : ∀ t : State, t.plinth = s.plinth → P ((t.bootGate g).gate g)) : P (s.bootRest.gate g) := by
  rw [State.gate, State.bootRest_frame.2.2.2.1]
  show P ((forEach allGates State.bootGate s.banksRead).gate g)
  refine forEach_reaches (I := fun t => t.plinth = s.plinth) (P := fun t => P (t.gate g)) (f := State.bootGate) (a := g)
    (fun t g' ht => (State.plinth_of_bootKeeps (State.bootGate_frame g').1).trans ht) h
    (fun t g' hne ht => ?_) allGates (List.mem_finRange g) s.banksRead (State.plinth_banksRead)
  rw [(State.bootGate_frame g').2.2.2.2 g (Ne.symm hne)]
  exact ht

/-! ### Steps 1 and 2 -/

/-- What steps 1 and 2 leave to step 3. -/
theorem State.bootJournal_frame :
    s.bootJournal = { s with life := s.bootJournal.life } ∧ s.bootJournal.life.jbad = (!s.plinth.jA.valid || !s.plinth.jB.valid) := by
  unfold State.bootJournal
  dsimp only
  split
  · exact ⟨rfl, rfl⟩
  · split
    · exact ⟨rfl, rfl⟩
    · split
      · exact ⟨rfl, rfl⟩
      · exact ⟨rfl, rfl⟩

/-- Two valid journal copies: the newer one says what the life cycle is (Table 12.5). -/
theorem State.bootJournal_kinds {c : JCopy} (hA : s.plinth.jA.valid = true) (hB : s.plinth.jB.valid = true)
    (hc : s.plinth.copy (genNewer s.plinth.jB.gen s.plinth.jA.gen) = c) :
    (c.kind = kLevelSet → s.bootJournal.life.level = BitVec.setWidth 2 c.level)
    ∧ (c.kind = kRegressDone → s.bootJournal.life.level = 0) ∧ (c.kind = kRegressBegin → s.bootJournal.life.regPending = true) := by
  have hnewer : s.plinth.newer = some (genNewer s.plinth.jB.gen s.plinth.jA.gen) := by
    unfold Plinth.newer
    rw [hA, hB]
    rfl
  subst hc
  unfold State.bootJournal
  dsimp only
  rw [hnewer]
  dsimp only
  refine ⟨fun h => ?_, fun h => ?_, fun h => ?_⟩
  · rw [if_pos h]
    rfl
  · rw [if_neg (by rw [h]; decide), if_neg (by rw [h]; decide)]
    rfl
  · rw [if_neg (by rw [h]; decide), if_pos h]
    rfl

/-- The first BOOT after a reset senses. -/
theorem execBoot_senses {inp : BootIn} (hholder : s.pace.holder.isSome = true) (hstep : s.boot.step = 1) (hcycles : s.boot.cycles ≠ 0) :
    execBoot inp s = if vccInRange inp.mv then .next ((s.bootSense inp).bootJournal).afterJournal
      else .fault .outsideOperatingConditions := by
  refine if_neg ?_
  rintro (h | h | h)
  · rw [Option.isNone_iff_eq_none] at h
    rw [h] at hholder
    exact nomatch hholder
  · exact h hstep
  · exact hcycles h

/-- BOOT with two valid journal copies runs through to step 7. -/
theorem execBoot_valid {inp : BootIn} (hholder : s.pace.holder.isSome = true) (hstep : s.boot.step = 1) (hcycles : s.boot.cycles ≠ 0)
    (hmv : inp.mv ≤ 3630) (hA : s.plinth.jA.valid = true) (hB : s.plinth.jB.valid = true) :
    execBoot inp s = .next ((s.bootSense inp).bootJournal).bootRest := by
  have hplinth : ((s.bootSense inp).bootJournal).plinth = s.plinth := by
    rw [State.bootJournal_frame.1]
    rfl
  have hneeds : ((s.bootSense inp).bootJournal).plinth.needsRepair = false := by
    rw [hplinth, Plinth.needsRepair, hA, hB]
    rfl
  rw [execBoot_senses hholder hstep hcycles, if_pos (show vccInRange inp.mv = true from decide_eq_true hmv), State.afterJournal, hneeds,
    Bool.not_false, if_pos rfl]

/-- JOURNAL_REPAIR writes the invalid copy anew (R564). -/
theorem State.startRepair_writes {b : Bool} (h : s.plinth.newer = some b) :
    s.startRepair = s.modPlinth (fun p => { p with jwrite := some {
      copy := !b
      w0 := recordWord0 (s.plinth.copy b).kind (s.plinth.copy b).level ((s.plinth.copy b).gen + 1)
      w1 := recordWord1 (recordWord0 (s.plinth.copy b).kind (s.plinth.copy b).level ((s.plinth.copy b).gen + 1)) s.stamp
      purpose := .repair } }) := by
  have htarget : s.plinth.target = (!b, (s.plinth.copy b).gen + 1) := by
    unfold Plinth.target
    rw [h]
  unfold State.startRepair State.startJournal
  rw [h]
  dsimp only
  rw [htarget]

end

/-- Settles O59: the steps of boot one after another, each gate and bank by its own plinth record. -/
theorem bootRuns : Obligations.BootRuns := by
  refine ⟨fun s inp c second hholder hstep hcycles hmv hA hB hclosed hconfig => ?_, fun s inp hholder hstep hcycles hmv => ?_,
    fun s hholder hstep hjwrite => ⟨fun hwp hruns b hnewer => ?_, fun hwp => ?_⟩, fun s hholder hstep => ?_⟩
  · generalize hu : (s.bootSense inp).bootJournal = u
    obtain ⟨hufrom, hjbad⟩ := (s.bootSense inp).bootJournal_frame
    have hkinds := State.bootJournal_kinds (s := s.bootSense inp) (c := s.plinth.copy (genNewer s.plinth.jB.gen s.plinth.jA.gen))
      hA hB rfl
    rw [hu] at hufrom hjbad hkinds
    have huplinth : u.plinth = s.plinth := by rw [hufrom]; rfl
    have hread : u.configRead = c := State.configRead_some (x := second) (by rw [huplinth]; exact hconfig)
    obtain ⟨⟨hkeeps, hmap⟩, -, hseven, -⟩ := State.bootRest_frame (s := u)
    rw [hread] at hkeeps hmap
    have hlife : u.bootRest.life = { u.life with priv := c.priv, lock := c.lock, hide := c.hide } := by rw [hkeeps]; rfl
    refine ⟨u.bootRest, (execBoot_valid hholder hstep hcycles hmv hA hB).trans (by rw [hu]), hseven, ?_, ?_, ?_, hmap, ?_, ?_, ?_,
      fun p => ?_, ?_, fun b r x hnewest htidy hgap hkiln => ?_, fun b hnone => ?_, fun g hnone => ?_, fun g i x hsome => ?_, ?_, ?_, ?_⟩
    · rw [hlife]
    · rw [hlife]
    · rw [hlife]
    · rw [hlife]
      dsimp only
      rw [hjbad]
      show (!s.plinth.jA.valid || !s.plinth.jB.valid) = false
      rw [hA, hB]
      rfl
    · rw [hkeeps, hufrom]
      rfl
    · rw [hkeeps, hufrom]
      rfl
    · have hports : u.bootRest.ports = ((s.bootSense inp).setConfig c).ports := by
        rw [hkeeps, hufrom]
        rfl
      have hport : u.bootRest.port p = { (s.bootSense inp).port p with booten := c.booten.getLsbD p.val } := by
        rw [State.port, hports]
        exact Vector.getElem_mapFinIdx ..
      have hsense : ((s.bootSense inp).port p).chipid = inp.chipid := congrArg Port.chipid (Vector.getElem_mapFinIdx ..)
      rw [hport]
      exact ⟨rfl, hsense⟩
    · rw [hlife]
      exact hkinds
    · exact State.bootRest_bank (x := x) (by rw [huplinth]; exact hnewest) htidy hgap hkiln
    · exact State.bootRest_closed (by rw [huplinth]; exact hnone)
    · exact State.bootRest_gate g (fun y => y.en = true ∧ y.strict = true ∧ y.regions = Vector.replicate 8 0) fun t ht =>
        State.bootGate_none (by rw [ht, huplinth]; exact hnone)
    · exact State.bootRest_gate g (fun y => y.strict = i.strict ∧ y.regions = i.regions ∧ (i.en = false → y.en = false)
        ∧ (i = GateImage.shipment → y.en = true)) fun t ht => State.bootGate_some (x := x) (by rw [ht, huplinth]; exact hsome)
    · rw [hkeeps, hufrom]
      rfl
    · rw [hkeeps, hufrom]
      rfl
    · rw [hkeeps, hufrom]
      rfl
  · exact (execBoot_senses hholder hstep hcycles).trans (if_neg (by simp [vccInRange, hmv]))
  · have hexec : exec .journalRepair s = .next (s.startRepair.modBoot (fun b => { b with jwait := false })) := by
      refine (State.onEdge_pacing hholder).trans ?_
      rw [if_neg (by simp [hstep, hjwrite]), hwp, Bool.not_true, if_neg Bool.false_ne_true, hruns, if_pos rfl]
    rw [State.startRepair_writes hnewer] at hexec
    exact ⟨_, hexec, rfl, rfl, rfl⟩
  · have hexec : exec .journalRepair s = .next (s.modBoot (fun b => { b with jskip := true })).bootRest := by
      refine (State.onEdge_pacing hholder).trans ?_
      rw [if_neg (by simp [hstep, hjwrite]), hwp, Bool.not_false, if_pos rfl]
    obtain ⟨⟨hkeeps, -⟩, hskip, hseven, -⟩ := State.bootRest_frame (s := s.modBoot (fun b => { b with jskip := true }))
    refine ⟨_, hexec, hseven, hskip, ?_, ?_⟩
    · rw [hkeeps]
      rfl
    · rw [hkeeps]
      rfl
  · generalize hu : ({ s with ports := s.ports.map (fun p => { p with chainEn := p.booten }) } : State).modBoot
      (fun b => { b with step := 0 }) = u
    have hport : ∀ p : PortId, u.port p = { s.port p with chainEn := (s.port p).booten } := fun p => by
      rw [← hu]
      exact Vector.getElem_map ..
    have hlife : u.life = s.life := hu ▸ rfl
    have hboot : u.boot = { s.boot with step := 0 } := hu ▸ rfl
    have hframe : u = { s with boot := u.boot, ports := u.ports } := hu ▸ rfl
    have hexec : exec .bootEnd s = .next (if u.life.regPending = true then u.startRegression else u) := by
      refine (State.onEdge_pacing hholder).trans ?_
      rw [if_neg (by simp [hstep]), ← hu]
    cases hpending : s.life.regPending with
    | true =>
      rw [hlife, hpending, if_pos rfl] at hexec
      refine ⟨_, hexec, hboot, hport, nofun, fun _ => ⟨rfl, rfl, rfl, rfl⟩, ?_⟩
      rw [State.startRegression, hframe]
      rfl
    | false =>
      rw [hlife, hpending, if_neg Bool.false_ne_true] at hexec
      refine ⟨_, hexec, hboot, hport, fun _ => hlife, nofun, ?_⟩
      rw [hframe]

end Sys2Proof.Machine
end

section
/-! PROOFS. Reads of the ledger end (R268, R293, R365, R366, R636). -/
namespace Sys2Proof.Machine

section
variable {s : State} {o : Op}

/-! ### What a FETCH reads -/

theorem Op.nextStaged_fetch (h : o.opcode = opFetch) : o.nextStaged = none := if_neg (by rw [h]; decide)

theorem Op.chunkSlot_fetch (h : o.opcode = opFetch) : o.chunkSlot = none := if_neg (by rw [h]; decide)

theorem Op.stonesRead_fetch (h : o.opcode = opFetch) : o.stonesRead = o.fetched.length := by
  unfold Op.stonesRead
  rw [Op.nextStaged_fetch h]
  exact if_neg (by rw [h]; decide)

theorem State.stonesWanted_fetch (h : o.opcode = opFetch) : s.stonesWanted o = o.count.toNat := by
  unfold State.stonesWanted
  rw [Op.nextStaged_fetch h]
  exact if_neg (by rw [h]; decide)

theorem State.readOver_fetch (h : o.opcode = opFetch) (hresult : o.result = 0xFF) :
    s.readOver o = decide (o.count.toNat ≤ o.fetched.length) := by
  unfold State.readOver
  rw [Op.nextStaged_fetch h, State.stonesWanted_fetch h, Op.stonesRead_fetch h, hresult]
  rfl

theorem Op.reads_fetching {r : ReadRun} (h : o.work = .fetching r) : o.reads = some r := by
  unfold Op.reads
  rw [h]

theorem Op.withRun_fetch {r q : ReadRun} (h : o.opcode = opFetch) (hwork : o.work = .fetching r) :
    o.withRun q = { o with work := .fetching q } := by
  unfold Op.withRun
  rw [Op.nextStaged_fetch h]
  dsimp only
  rw [hwork]

theorem Op.gotStone_fetch (h : o.opcode = opFetch) (hmarked : o.marked = false) (w : Word) :
    o.gotStone w = { o with fetched := o.fetched ++ [w], units := o.units + 1 } := by
  unfold Op.gotStone
  rw [Op.nextStaged_fetch h]
  dsimp only
  have hne : o.opcode ≠ opHaul := by rw [h]; decide
  simp only [if_neg hne, hmarked, Bool.false_eq_true, if_false]

/-- What the readings of a stone move. -/
theorem State.noteRead_frame (b : BankId) (slot : Option (Fin 256)) (ix : Nat) (r : StoneRead) :
    ∃ tr ba, s.noteRead b slot ix r = { s with trace := tr, banks := ba } := by
  have hfeed : ∀ u : State, ∃ ba, u.plumbFeed b r.lean = { u with banks := ba } := fun u => by
    unfold State.plumbFeed
    split
    · exact ⟨u.banks, rfl⟩
    · exact ⟨_, rfl⟩
  unfold State.noteRead
  dsimp only
  split
  · obtain ⟨ba, hba⟩ := hfeed (s.addTrace tEccFix slot b.val (BitVec.ofNat 16 ix))
    exact ⟨_, ba, hba⟩
  · split
    · obtain ⟨ba, hba⟩ := hfeed (s.addTrace tEccFail slot b.val (BitVec.ofNat 16 ix))
      exact ⟨_, ba, hba⟩
    · obtain ⟨ba, hba⟩ := hfeed s
      exact ⟨s.trace, ba, hba⟩

/-- R268, R293: a stone that has passed its gate, is ready and meets its bank serving is read. -/
theorem State.readStep_reads {r : ReadRun} (hop : s.op? o.id = some o) (hwork : o.work = .fetching r) (hstate : o.state = .running)
    (hopcode : o.opcode = opFetch) (hresult : o.result = 0xFF) (hmore : o.fetched.length < o.count.toNat)
    (hpending : s.life.regPending = false) (hgated : r.gated = true) (hidle : (s.bank (bankMet o.nextStone)).state = .idle)
    (hdue : s.stonesDue r.ready 1 = 1) : s.readStep o.id = (s.readArrayStone o r, true) := by
  have hreads := Op.reads_fetching hwork
  have hover : s.readOver o = false := by
    rw [State.readOver_fetch hopcode hresult]
    exact decide_eq_false (by omega)
  have hbarred : s.fetchBarred o.nextStone = false := by
    unfold State.fetchBarred
    rw [hpending, Bool.false_and]
  have hpass : s.gateStone o r = (s, true) := if_pos hgated
  have hserves : (s.bank (bankMet o.nextStone)).servesRunning (addrBlock o.nextStone) (addrSector o.nextStone) = true := by
    unfold Bank.servesRunning Bank.serves
    rw [hidle]
    rfl
  have hagain : (s.op? o.id).bind Op.reads = some r := by
    rw [hop]
    exact hreads
  unfold State.readStep
  rw [hop]
  dsimp only
  rw [hreads]
  dsimp only
  rw [hover, hstate, hbarred, hgated, hpass, if_neg (by decide), if_neg (by simp), if_neg (by simp)]
  dsimp only
  rw [hop] at hagain
  rw [hop, hagain]
  dsimp only
  rw [hserves, hdue]
  rfl

theorem State.readArrayStone_fetch {r : ReadRun} (hop : s.op? o.id = some o) (hwork : o.work = .fetching r)
    (hopcode : o.opcode = opFetch) (hmarked : o.marked = false) :
    (s.readArrayStone o r).mem = s.mem ∧ (s.readArrayStone o r).op? o.id = some { o with
      fetched := o.fetched ++ [(readStone (s.cellsAt o.nextStone ^^^ flipOf r.flips o.fetched.length)).data], units := o.units + 1
      corrected := o.corrected || (readStone (s.cellsAt o.nextStone ^^^ flipOf r.flips o.fetched.length)).fixed
      bad := o.bad || (readStone (s.cellsAt o.nextStone ^^^ flipOf r.flips o.fetched.length)).bad
      work := .fetching { r with gated := false, cold := false, ready := r.ready + 4000 } } := by
  unfold State.readArrayStone
  dsimp only
  rw [Op.stonesRead_fetch hopcode]
  generalize readStone (s.cellsAt o.nextStone ^^^ flipOf r.flips o.fetched.length) = q
  obtain ⟨tr, ba, hnote⟩ := s.noteRead_frame (bankMet o.nextStone) o.slot (addrStone o.nextStone) q
  rw [hnote]
  refine ⟨rfl, ?_⟩
  refine (State.op?_modOp_of_op? (t := { s with trace := tr, banks := ba }) (o := o) (fun x => ?_) hop).trans ?_
  · exact (Op.withRun_key _ _).1.trans (Op.gotStone_key x q.data).1
  · rw [Op.gotStone_fetch hopcode hmarked]
    exact congrArg some (Op.withRun_fetch hopcode hwork)

/-! ### Ends -/

/-- Every operation of the name of one that has ended is its record. -/
theorem State.completeWith_done {id : Nat} (h : s.op? id = some o) (latch : Bool) (result : Byte) :
    ∀ x ∈ (State.completeWith latch s id result).ledger.ops, x.id = id →
      x.state = .complete ∧ x.result = result ∧ ∃ y ∈ s.ledger.ops, y.id = id ∧ x.fetched = y.fetched ∧ x.uncertain = y.uncertain := by
  have hid := State.op?_id h
  have hdrop : ∀ (t : State) (x : Op), x ∈ (t.dropOp o.id).ledger.ops → x.id ≠ id := fun t x hm hxi => by
    have := (List.mem_filter.1 (show x ∈ t.ledger.ops.filter (fun y => y.id != o.id) from hm)).2
    simp [hxi, hid] at this
  have hlatch : ∀ t : State, (∀ x ∈ t.ledger.ops, x.id = id →
      x.state = .complete ∧ x.result = result ∧ ∃ y ∈ s.ledger.ops, y.id = id ∧ x.fetched = y.fetched ∧ x.uncertain = y.uncertain) →
      ∀ x ∈ (if latch = true then t.latchWaits else t).ledger.ops, x.id = id →
      x.state = .complete ∧ x.result = result ∧ ∃ y ∈ s.ledger.ops, y.id = id ∧ x.fetched = y.fetched ∧ x.uncertain = y.uncertain := by
    intro t ht x hx hxi
    split at hx
    · obtain ⟨y, hy, rfl⟩ := List.mem_map.1 hx
      split
      · next hl =>
        rw [if_pos hl] at hxi
        exact ht y hy hxi
      · next hl =>
        rw [if_neg hl] at hxi
        exact ht y hy hxi
    · exact ht x hx hxi
  cases hp : o.origin with
  | direct p =>
    rw [State.completeWith_direct h hp]
    exact hlatch _ fun x hx hxi => absurd hxi (hdrop _ x hx)
  | ledger k =>
    rw [State.completeWith_ledger h hp]
    refine hlatch _ fun x hx hxi => ?_
    rw [State.raiseEvent_ops] at hx
    unfold State.leaveRecord at hx
    dsimp only at hx
    split at hx
    · exact absurd hxi (hdrop _ x hx)
    · obtain ⟨y, hy, rfl⟩ := List.mem_map.1 (show x ∈ List.map _ (s.letGo o result).ledger.ops from hx)
      rw [State.letGo_ops] at hy
      split at hxi
      · next he =>
        rw [if_pos he]
        exact ⟨rfl, rfl, y, hy, hxi, rfl, rfl⟩
      · next he => exact absurd (by rw [hxi, hid]; exact beq_self_eq_true _) he

/-- The end of an operation stages nothing. -/
theorem State.completeWith_yard {id : Nat} (latch : Bool) (result : Byte) :
    ∀ y ∈ (State.completeWith latch s id result).ledger.yard, y ∈ s.ledger.yard := by
  have hgo : ∀ (x : Op), ∀ y ∈ (s.letGo x result).ledger.yard, y ∈ s.ledger.yard := by
    intro x y hy
    have hreserve : ∀ u : State, (u.endReservation x.id).ledger = u.ledger := fun u => by
      unfold State.endReservation
      split
      · rfl
      · rfl
    unfold State.letGo at hy
    dsimp only at hy
    split at hy
    · rw [hreserve] at hy
      exact hy
    · have hkept := (List.mem_filter.1 (show y ∈ List.filter _ (State.endReservation _ x.id).ledger.yard from hy)).1
      rw [hreserve] at hkept
      exact hkept
  have hlatch : ∀ t : State, (if latch = true then t.latchWaits else t).ledger.yard = t.ledger.yard := fun t => by
    split
    · rfl
    · rfl
  cases h : s.op? id with
  | none =>
    unfold State.completeWith
    rw [h]
    exact fun y hy => hy
  | some o =>
    cases hp : o.origin with
    | direct p =>
      rw [State.completeWith_direct h hp, hlatch]
      exact hgo o
    | ledger k =>
      rw [State.completeWith_ledger h hp, hlatch]
      intro y hy
      have hevent : (((s.letGo o result).leaveRecord o result).raiseEvent o.signal).ledger.yard =
          ((s.letGo o result).leaveRecord o result).ledger.yard := by
        unfold State.raiseEvent
        split
        · rfl
        · rfl
      rw [hevent] at hy
      unfold State.leaveRecord at hy
      dsimp only at hy
      split at hy
      · exact hgo o y (List.mem_filter.1 (show y ∈ List.filter _ (s.letGo o result).ledger.yard from hy)).1
      · exact hgo o y hy

/-! ### The read of a block -/

theorem State.readSlot_frame (b : BankId) (k : Nat) (flips : Flips) : ∀ (n i fixes bad : Nat) (s : State), ∃ tr ba,
    (s.readSlot b o k flips i fixes bad n).1 = { s with trace := tr, banks := ba }
    ∧ fixes ≤ (s.readSlot b o k flips i fixes bad n).2.1 ∧ bad ≤ (s.readSlot b o k flips i fixes bad n).2.2 := by
  intro n
  induction n with
  | zero => exact fun i fixes bad s => ⟨s.trace, s.banks, rfl, le_refl _, le_refl _⟩
  | succ n ih =>
    intro i fixes bad s
    unfold State.readSlot
    dsimp only
    generalize readStone (readCells s.mem (stoneIx b.val k 0 0 + i) ^^^ flipOf flips i) = q
    generalize hu : (if (q.fixed || q.bad) = true then s.noteRead b o.slot (i % 64) q else s) = u
    obtain ⟨tr, ba, hframe, hfixes, hbad⟩ := ih (i + 1) (fixes + if q.fixed = true then 1 else 0) (bad + if q.bad = true then 1 else 0) u
    have hnote : ∃ tr ba, u = { s with trace := tr, banks := ba } := by
      rw [← hu]
      split
      · exact s.noteRead_frame b o.slot (i % 64) q
      · exact ⟨s.trace, s.banks, rfl⟩
    obtain ⟨tr', ba', hnote⟩ := hnote
    refine ⟨tr, ba, ?_, le_trans (Nat.le_add_right ..) hfixes, le_trans (Nat.le_add_right ..) hbad⟩
    rw [hframe, hnote]

/-! ### The end of a FETCH -/

/-- A FETCH has a yard slot of its own, which its stones fill. -/
theorem State.fillYard_fetch (h : o.opcode = opFetch) : ∃ tr, s.fillYard o o.fetched = { s with
    ledger := { s.ledger with yard := s.ledger.yard.map (fun e => if e.owner == o.id then { e with data := o.fetched } else e) }
    trace := tr } := by
  have hfill : (fun e : YardEntry => if (e.owner == o.id && (o.chunkSlot.isNone || o.chunkSlot == some e.slot)) = true
      then { e with data := o.fetched } else e) = fun e => if e.owner == o.id then { e with data := o.fetched } else e := by
    rw [Op.chunkSlot_fetch h]
    simp
  unfold State.fillYard
  dsimp only
  rw [hfill]
  split
  · exact ⟨_, rfl⟩
  · exact ⟨s.trace, rfl⟩

/-- An operation on a bank of the array meets no partner. -/
theorem State.freeWindow_array {b : BankId} (hbank : bankOfAddr o.addr = some b) (hop : o.opcode = opFetch) (r : Byte) :
    s.freeWindow o r = s := by
  have hwin : windowOf o.addr = none := by
    unfold bankOfAddr at hbank
    unfold windowOf
    cases hregion : regionOf o.addr with
    | window n =>
      rw [hregion] at hbank
      exact nomatch hbank
    | main => rfl
    | marks => rfl
    | info => rfl
    | unmapped => rfl
  have hnone : o.windowAddr = none := by
    unfold Op.windowAddr
    rw [hwin, hop]
    rfl
  unfold State.freeWindow State.partnerOf
  rw [hnone]

theorem Op.bankOf_some {b : BankId} (h : o.bankOf = some b) : bankOfAddr o.addr = some b := by
  unfold Op.bankOf at h
  split at h
  · exact h
  · split at h
    · exact nomatch h
    · exact h

/-- R293: a FETCH ends with its stones in its yard slot. -/
theorem State.endFetch_eq {b : BankId} (hop : o.opcode = opFetch) (hresult : o.result = 0xFF) (hbank : o.bankOf = some b) :
    ∃ u : State, s.endFetch o = u.complete o.id o.repointResult ∧ u.ledger.ops = s.ledger.ops ∧ u.mem = s.mem ∧ u.pace = s.pace
      ∧ (∀ d : BankId, d ≠ b → u.bank d = s.bank d)
      ∧ (o.fetched ≠ [] → ∀ y ∈ u.ledger.yard, y.owner = o.id → y.data = o.fetched) := by
  have hwindow : ∀ (u : State) (r : Byte), u.freeWindow o r = u := fun u r =>
    State.freeWindow_array (Op.bankOf_some hbank) hop r
  generalize hv : s.modBank b (fun k => { k with quiet := 0 }) = v
  have hothers : ∀ d : BankId, d ≠ b → v.bank d = s.bank d := fun d hd => hv ▸ State.modBank_bank_of_ne _ b _ d hd
  have hops : v.ledger.ops = s.ledger.ops := hv ▸ rfl
  have hmem : v.mem = s.mem := hv ▸ rfl
  have hpace : v.pace = s.pace := hv ▸ rfl
  have hend : s.endFetch o = (if o.fetched.isEmpty = true then v else v.fillYard o o.fetched).complete o.id o.repointResult := by
    unfold State.endFetch State.endWindow
    rw [hbank]
    dsimp only
    rw [hwindow, if_pos hresult, hv]
  rw [hend]
  cases hempty : o.fetched.isEmpty with
  | true => exact ⟨v, rfl, hops, hmem, hpace, hothers, fun hne => absurd (List.isEmpty_iff.1 hempty) hne⟩
  | false =>
    obtain ⟨tr, hfill⟩ := State.fillYard_fetch (s := v) hop
    rw [if_neg Bool.false_ne_true, hfill]
    refine ⟨_, rfl, hops, hmem, hpace, hothers, fun _ y hy howner => ?_⟩
    obtain ⟨e, he, rfl⟩ := List.mem_map.1 hy
    cases hown : e.owner == o.id with
    | true => rw [if_pos rfl]
    | false =>
      rw [hown, if_neg Bool.false_ne_true] at howner
      exact absurd howner (ne_of_beq_false hown)

/-- What the end of a ledger FETCH leaves. -/
theorem State.endFetch_ends {b : BankId} {k : Fin 256} (hok : s.ledgerOk = true) (ho : o ∈ s.ledger.ops) (hk : o.origin = .ledger k)
    (hop : o.opcode = opFetch) (hresult : o.result = 0xFF) (hbank : o.bankOf = some b) :
    s.ends (s.endFetch o) o o.repointResult o.units.toNat ∧ (s.endFetch o).mem = s.mem
    ∧ (∀ x ∈ (s.endFetch o).ledger.ops, x.id = o.id → x.fetched = o.fetched)
    ∧ (o.fetched ≠ [] → ∀ y ∈ (s.endFetch o).ledger.yard, y.owner = o.id → y.data = o.fetched)
    ∧ ∀ d : BankId, d ≠ b → (s.endFetch o).bank d = s.bank d := by
  obtain ⟨u, hend, hops, hmem, hpace, hothers, hyard⟩ := State.endFetch_eq (s := s) hop hresult hbank
  have hu : u.op? o.id = some o := (congrArg (List.find? fun x : Op => x.id == o.id) hops).trans (State.op?_of_mem hok ho)
  have hdone := State.completeWith_done hu true o.repointResult
  have hkept := State.completeWith_yard (s := u) (id := o.id) true o.repointResult
  have hends : s.ends (u.complete o.id o.repointResult) o o.repointResult o.units.toNat :=
    State.ends_completeWith hu rfl rfl (congrArg (fun x : Pace => x.devtime.extractLsb' 20 32) hpace) true o.repointResult
  obtain ⟨l, su, pw, tr, hframe, -⟩ := State.completeWith_frame hu hk true o.repointResult
  rw [hend]
  refine ⟨hends, ?_, fun x hx hxi => ?_, fun hne y hy => hyard hne y (hkept y hy), fun d hd => ?_⟩
  · exact (congrArg State.mem hframe).trans hmem
  · obtain ⟨-, -, y, hy, hyi, hfetched, -⟩ := hdone x hx hxi
    rw [hops] at hy
    rw [hfetched, Option.some.inj ((State.op?_of_mem hok hy).symm.trans (hyi ▸ State.op?_of_mem hok ho))]
  · exact (congrArg (fun t : State => t.bank d) hframe).trans (hothers d hd)

/-! ### The end of a scrub's read -/

/-- The end of an operation of the ledger that has moved on since. -/
theorem State.completeWith_ended {y : Op} {k : Fin 256} (h : s.op? o.id = some y) (hk : y.origin = .ledger k) (latch : Bool)
    (result : Byte) : ∃ l su pw tr, State.completeWith latch s o.id result = { s with ledger := l, subs := su, power := pw, trace := tr }
      ∧ ∀ e : Fin 64, l.events.getLsbD e.val = (s.ledger.events.getLsbD e.val || decide (y.signal.toNat = e.val)) := by
  have hid := State.op?_id h
  rw [← hid] at h ⊢
  exact State.completeWith_frame h hk latch result

/-- What the last block of a REPOINT that moves nothing leaves (R365). -/
theorem State.blockDone_ends {b : BankId} {y : Op} (hy : s.op? o.id = some y) (hmarked : y.marked = false)
    (hlast : y.count.toNat ≤ y.index + 1) :
    ∃ u : State, s.blockDone b o.id = u.complete o.id y.repointResult ∧ u.mem = s.mem ∧ u.pace = s.pace
      ∧ u.op? o.id = some { y with units := y.units + 1, index := y.index + 1 } ∧ (u.bank b).kept = (s.bank b).kept
      ∧ (u.bank b).moveOf o.id = none ∧ ∀ d : BankId, d ≠ b → u.bank d = s.bank d := by
  generalize hv : (s.relocDone b o.id).modBank b (fun k => k.dropMove o.id) = v
  have hself : v.bank b = { s.bank b with
      relocs := (s.bank b).relocs.filter (fun r => r.op != some o.id), moving := (s.bank b).moving.filter (fun m => m.op != o.id) } := by
    rw [← hv, State.modBank_bank_self, State.relocDone, State.modBank_bank_self]
    rfl
  have hothers : ∀ d : BankId, d ≠ b → v.bank d = s.bank d := fun d hd => by
    rw [← hv, State.modBank_bank_of_ne _ b _ d hd, State.relocDone, State.modBank_bank_of_ne _ b _ d hd]
  have hop : (v.modOp o.id (fun x => { x with units := x.units + 1, index := x.index + 1 })).op? o.id =
      some { y with units := y.units + 1, index := y.index + 1 } :=
    State.op?_modOp_of_op? (f := fun x => { x with units := x.units + 1, index := x.index + 1 }) (fun _ => rfl) (hv ▸ hy)
  refine ⟨v.modOp o.id (fun x => { x with units := x.units + 1, index := x.index + 1 }), ?_, hv ▸ rfl, hv ▸ rfl, hop, ?_, ?_, hothers⟩
  · unfold State.blockDone State.blockOver
    dsimp only
    rw [hv, hop]
    dsimp only
    rw [hmarked, if_neg Bool.false_ne_true, if_pos hlast]
    rfl
  · exact (congrArg Bank.kept hself).trans rfl
  · refine (congrArg (fun x : Bank => x.moveOf o.id) hself).trans (List.find?_eq_none.2 fun m hm => ?_)
    have := (List.mem_filter.1 hm).2
    simpa using this

/-- A scrub of a good block makes no move (R365). -/
theorem State.moveFor_scrub {b : BankId} (hkind : o.kind = .scrub) (hfix : 0 < s.upkeep.fixmax.toNat) (l : Nat) :
    s.moveFor b o l 0 0 = none := by
  unfold State.moveFor
  rw [hkind]
  dsimp only
  split
  · rfl
  · exact if_neg (by omega)

end

/-- FETCH_COMPLETE of a FETCH of array stones, in its place on the edge. -/
theorem exec_fetchComplete {s : State} {o : Op} {k : Fin 256} {r : ReadRun} {b : BankId} (hslot : s.opOfSlot k = some o)
    (hwork : o.work = .fetching r) (hbank : o.bankOf = some b) (htime : s.onTime orderEnds = true) (n : Nat) (rx : List Byte) :
    exec (.fetchComplete k n rx) s = .next ((s.fetchOver o.id).atStage orderEnds) := by
  refine (State.onStep_onTime htime _).trans (congrArg (fun t : State => Host.Outcome.next (t.atStage orderEnds)) ?_)
  rw [hslot]
  dsimp only
  rw [hwork]
  dsimp only
  rw [hbank]
  rfl

/-- Settles O54: each read from its conditions to what it leaves. -/
theorem readEnds : Obligations.ReadEnds := by
  refine ⟨fun s o r hop hwork hstate hopcode hresult hmarked hmore hpending hgated hidle hdue => ?_,
    fun s k n rx o r b hok htime hslot hwork hstate hopcode hresult hbank hsub => ⟨fun hall => ?_, fun hmore => ?_⟩,
    fun s o r b hop hnext hn => ?_, fun s k o r b hok htime hslot hwork hstate hopcode hkind hbank hbad hcorr hmarked hlast hfix hnext hfixes hrbad => ?_⟩
  · obtain ⟨hmem, hread⟩ := State.readArrayStone_fetch (s := s) hop hwork hopcode hmarked
    dsimp only
    rw [State.readStep_reads hop hwork hstate hopcode hresult hmore hpending hgated hidle hdue]
    exact ⟨rfl, hread, hmem⟩
  · have ho := List.mem_of_find?_eq_some hslot
    have hk : o.origin = .ledger k := beq_iff_eq.1 (List.find?_some (p := fun x : Op => x.origin == .ledger k) hslot)
    have hover : s.fetchOver o.id = s.endFetch o := by
      unfold State.fetchOver
      rw [State.op?_of_mem hok ho]
      dsimp only
      rw [State.readOver_fetch hopcode hresult, decide_eq_true hall, hstate]
      rfl
    obtain ⟨hends, hmem, hfetched, hyard, hothers⟩ := State.endFetch_ends hok ho hk hopcode hresult hbank
    rw [← hover] at hends hmem hfetched hyard hothers
    exact ⟨_, exec_fetchComplete hslot hwork hbank htime n rx, hends, hmem, hfetched, hyard, hothers⟩
  · have hover : s.fetchOver o.id = s := by
      unfold State.fetchOver
      rw [State.op?_of_mem hok (List.mem_of_find?_eq_some hslot)]
      dsimp only
      rw [State.readOver_fetch hopcode hresult, decide_eq_false (by omega), Bool.and_false, if_neg Bool.false_ne_true]
    rw [exec_fetchComplete hslot hwork hbank htime n rx, hover]
  · generalize hm : s.stonesDue r.ready (8192 - r.next) = m at hn
    obtain ⟨tr, ba, hframe, hfixes, hbad⟩ := State.readSlot_frame (o := o) b
      ((s.bank b).kept.slotOf (addrBlock o.addr + o.index)) r.flips m r.next r.fixes r.bad s
    have hread : s.readBlockOn o r b = _ := if_neg (hm ▸ hn)
    rw [hm] at hread
    rw [hread, hframe]
    exact ⟨_, _, State.op?_modOp_of_op? (t := { s with trace := tr, banks := ba }) (o := o) (fun _ => rfl) hop, rfl, rfl, rfl,
      hfixes, hbad, rfl⟩
  · have ho := State.op?_of_mem hok (List.mem_of_find?_eq_some hslot)
    have hk : o.origin = .ledger k := beq_iff_eq.1 (List.find?_some (p := fun x : Op => x.origin == .ledger k) hslot)
    generalize hv : s.modOp o.id (fun x => { x with
      corrected := x.corrected || decide (0 < r.fixes), bad := x.bad || decide (0 < r.bad) }) = v
    have hy : v.op? o.id = some o := by
      rw [← hv]
      refine (State.op?_modOp_of_op? (f := fun x => { x with
        corrected := x.corrected || decide (0 < r.fixes), bad := x.bad || decide (0 < r.bad) }) (fun _ => rfl) ho).trans ?_
      rw [hfixes, hrbad, decide_eq_false (Nat.lt_irrefl 0)]
      simp only [Bool.or_false]
    obtain ⟨u, hdone, hmem, hpace, hop, hkept, hmove, hothers⟩ := State.blockDone_ends (b := b) hy hmarked (le_of_eq hlast)
    have hexec : exec (.repointReadEnd k b) s = .next ((v.blockDone b o.id).atStage orderEnds) := by
      refine (State.onStep_onTime htime _).trans (congrArg (fun t : State => Host.Outcome.next (t.atStage orderEnds)) ?_)
      rw [hslot]
      dsimp only
      rw [hwork]
      dsimp only
      rw [hstate, hbank, hnext, if_pos (by simp), hv, State.afterRead, hfixes, hrbad,
        State.moveFor_scrub hkind (show 0 < v.upkeep.fixmax.toNat from hv ▸ hfix)]
    have hresult : o.repointResult = rDone := by
      unfold Op.repointResult
      rw [hbad, hcorr]
      rfl
    rw [hresult] at hdone
    have hends : s.ends (u.complete o.id rDone) o rDone (o.units + 1).toNat :=
      State.ends_completeWith hop rfl rfl (congrArg (fun x : Pace => x.devtime.extractLsb' 20 32) (hpace.trans (hv ▸ rfl))) true rDone
    obtain ⟨l, su, pw, tr, hframe, -⟩ := State.completeWith_ended hop hk true rDone
    have hbank' : ∀ d : BankId, (State.completeWith true u o.id rDone).bank d = u.bank d := fun d => by
      rw [hframe]
      rfl
    have hall := State.completeWith_done hop true rDone
    rw [hdone] at hexec
    refine ⟨_, hexec, hends, ?_, fun x hx hxi => ?_, ?_, ?_, fun d hd => ?_⟩
    · exact (congrArg State.mem hframe).trans (hmem.trans (hv ▸ rfl))
    · obtain ⟨hstate, hres, -⟩ := hall x hx hxi
      exact ⟨hstate, hres⟩
    · exact (congrArg Bank.kept (hbank' b)).trans (hkept.trans (hv ▸ rfl))
    · exact (congrArg (fun x : Bank => x.moveOf o.id) (hbank' b)).trans hmove
    · exact (hbank' d).trans ((hothers d hd).trans (hv ▸ rfl))

end Sys2Proof.Machine
end

section
/-! PROOFS. The ends of lays (R301, R304, R330, R629). -/
namespace Sys2Proof.Machine

section
variable {s : State} {b : BankId} {l : LayRun} {o : Op}

/-! ### The cells that a lay leaves -/

theorem State.touch_mem (n : Nat) : n ∈ (s.touch n).touched ∧ ∀ k ∈ s.touched, k ∈ (s.touch n).touched := by
  unfold State.touch
  dsimp only
  split
  · next h => exact ⟨List.contains_iff_mem.1 h, fun k hk => hk⟩
  · exact ⟨List.mem_cons_self, fun k hk => List.mem_cons_of_mem n hk⟩

theorem State.leavePartly_touched (l : List (Nat × BitVec 75)) : ∀ s : State,
    (∀ k ∈ s.touched, k ∈ (s.leavePartly l).touched) ∧ ∀ e ∈ l, e.1 ∈ (s.leavePartly l).touched := by
  induction l with
  | nil => exact fun s => ⟨fun k hk => hk, nofun⟩
  | cons e l ih =>
    intro s
    generalize hu : State.touch { s with
      mem := writeCells s.mem e.1 (readCells s.mem e.1 &&& (e.2 ||| Config.freeCells s.freeCtr)), freeCtr := s.freeCtr + 1 } e.1 = u
    have hrest : s.leavePartly (e :: l) = u.leavePartly l := hu ▸ rfl
    obtain ⟨htouched, hkept⟩ : e.1 ∈ u.touched ∧ ∀ k ∈ s.touched, k ∈ u.touched := by
      rw [← hu]
      exact State.touch_mem e.1
    rw [hrest]
    refine ⟨fun k hk => (ih u).1 k (hkept k hk), fun x hx => ?_⟩
    rcases List.mem_cons.1 hx with rfl | hmem
    · exact (ih u).1 _ htouched
    · exact (ih u).2 x hmem

/-- Stones of different numbers written one after another each read as written. -/
theorem foldl_writeCells_read (l : List ((Nat × BitVec 75) × Nat)) : ∀ m : List Host.Cell, (l.map (fun x => x.1.1)).Nodup →
    ∀ x ∈ l, readCells (l.foldl (fun m x => writeCells m x.1.1 x.1.2) m) x.1.1 = x.1.2 := by
  induction l with
  | nil => exact fun m _ => nofun
  | cons y l ih =>
    intro m hnodup x hx
    obtain ⟨hnot, hrest⟩ := List.nodup_cons.1 (show (y.1.1 :: l.map (fun x => x.1.1)).Nodup from hnodup)
    rcases List.mem_cons.1 hx with rfl | hmem
    · rw [List.foldl_cons, readCells_congr _ (writeCells m x.1.1 x.1.2) x.1.1 fun a ha =>
        (foldl_writeCells_cells l (fun x : (Nat × BitVec 75) × Nat => x.1) _).2 a fun z hz hne =>
          hnot (List.mem_map.2 ⟨z, hz, hne.trans ha⟩)]
      exact readCells_writeCells m x.1.1 x.1.2
    · exact ih _ hrest x hmem

theorem mem_zip_range {α : Type} {l : List α} {e : α} {i : Nat} : (e, i) ∈ l.zip (List.range l.length) ↔ l[i]? = some e := by
  rw [List.range_eq_range', ← List.zipIdx_eq_zip_range', List.mem_zipIdx_iff_getElem?]

theorem LayRun.target_inj (hnodup : (l.targets.map (·.1)).Nodup) {i j : Nat} {e f : Nat × BitVec 75} (hi : l.targets[i]? = some e)
    (hj : l.targets[j]? = some f) (h : e.1 = f.1) : i = j := by
  have hlt : i < (l.targets.map (·.1)).length := by
    rw [List.length_map]
    exact (List.getElem?_eq_some_iff.1 hi).1
  refine (List.getElem?_inj hlt hnodup).1 ?_
  rw [List.getElem?_map, List.getElem?_map, hi, hj]
  exact congrArg some h

/-- What the end of a lay whose pulses ran leaves of cells and of the blank check (R301, R629). -/
theorem State.settleLay_cells_of (hpulses : 0 < l.pulses) (hnodup : (l.targets.map (·.1)).Nodup) :
    (∀ (i : Nat) (e : Nat × BitVec 75), l.targets[i]? = some e → l.verified.getLsbD i = true → readCells (s.settleLay l).mem e.1 = e.2)
    ∧ (∀ (i : Nat) (e : Nat × BitVec 75), l.targets[i]? = some e → ¬ l.verified.getLsbD i = true → e.1 ∈ (s.settleLay l).touched)
    ∧ ∀ n : Nat, (∀ e ∈ l.targets, e.1 ≠ n) → readCells (s.settleLay l).mem n = readCells s.mem n := by
  refine ⟨fun i e hi hv => ?_, fun i e hi hv => ?_, fun n hn => ?_⟩
  · unfold State.settleLay
    rw [if_neg (Nat.ne_of_gt hpulses)]
    dsimp only
    rw [readCells_congr _ _ e.1 fun a ha => (leavePartly_cells _ _).read a ?_]
    · refine foldl_writeCells_read _ s.mem ?_ (e, i) (List.mem_filter.2 ⟨mem_zip_range.2 hi, hv⟩)
      refine List.Nodup.sublist (List.filter_sublist.map _) ?_
      rw [show (fun x : (Nat × BitVec 75) × Nat => x.1.1) = (fun x => x.1) ∘ Prod.fst from rfl, ← List.map_map,
        List.map_fst_zip (by rw [List.length_range])]
      exact hnodup
    · rintro ⟨f, hf, hfe⟩
      obtain ⟨x, hx, rfl⟩ := List.mem_map.1 hf
      obtain ⟨hzip, hnot⟩ := List.mem_filter.1 hx
      have hij := LayRun.target_inj hnodup hi (mem_zip_range.1 hzip) (ha.symm.trans hfe.symm)
      rw [← hij, hv] at hnot
      exact nomatch hnot
  · unfold State.settleLay
    rw [if_neg (Nat.ne_of_gt hpulses)]
    refine (State.leavePartly_touched _ _).2 e (List.mem_map.2 ⟨(e, i), List.mem_filter.2 ⟨mem_zip_range.2 hi, ?_⟩, rfl⟩)
    simp only [Bool.not_eq_true', Bool.eq_false_iff]
    exact hv
  · refine readCells_congr _ _ n fun a ha => (settleLay_cells s l).read a ?_
    rintro ⟨e, he, hea⟩
    exact hn e he (hea.trans ha)

/-! ### What else the end of a lay moves -/

theorem State.release_frame (id bank : Nat) : ∃ ops tr, s.release id bank = { s with ledger := { s.ledger with ops := ops }, trace := tr }
    ∧ ∀ o, s.op? id = some o → (s.release id bank).op? id = some { o with tokens := 0 } := by
  unfold State.release
  split
  · next x h =>
    exact ⟨_, _, rfl, fun o ho => State.op?_modOp_of_op? (f := fun x => { x with tokens := 0 }) (fun _ => rfl) (h.symm.trans ho ▸ h)⟩
  · next h => exact ⟨_, _, rfl, fun o ho => nomatch h.symm.trans ho⟩

/-- A bank that leaves LAYING. -/
def Bank.laid (k : Bank) : Bank := { k with lay := none, state := .idle }

theorem State.leaveLay_frame (h : (s.bank b).state ≠ .nestlay) (id : Nat) : ∃ ops tr,
    s.leaveLay b id = { s.modBank b Bank.laid with ledger := { s.ledger with ops := ops }, trace := tr }
    ∧ ∀ o, s.op? id = some o → (s.leaveLay b id).op? id = some { o with tokens := 0 } := by
  have hnest : ((s.bank b).state == .nestlay) = false := by
    cases hst : (s.bank b).state
    case nestlay => exact absurd hst h
    all_goals rfl
  have hleave : s.leaveLay b id = (s.modBank b Bank.laid).release id b.val := by
    unfold State.leaveLay
    rw [hnest]
    rfl
  obtain ⟨ops, tr, hframe, hop⟩ := State.release_frame (s := s.modBank b Bank.laid) id b.val
  rw [hleave]
  exact ⟨ops, tr, hframe, fun o ho => hop o ho⟩

theorem State.tampFeed_frame (n : Nat) : ∃ ga, s.tampFeed b n = { s with gals := ga } := by
  unfold State.tampFeed
  split
  · exact ⟨s.gals, rfl⟩
  · exact ⟨_, rfl⟩

/-- What the end of a lay leaves: its cells, its bank out of LAYING, its operation without tokens. -/
structure LayClosed (s : State) (b : BankId) (l : LayRun) (r : Byte) (t : State) : Prop where
  mem      : t.mem = (s.settleLay l).mem
  touched  : t.touched = (s.settleLay l).touched
  stamp    : t.stamp = s.stamp
  op       : ∀ o, s.op? l.op = some o → t.op? l.op = some { o with tokens := 0 }
  lay      : (t.bank b).lay = none
  state    : (t.bank b).state = .idle
  layfails : (t.bank b).layfails = if r = rLayFail then (s.bank b).layfails + 1 else (s.bank b).layfails
  others   : ∀ k : BankId, k ≠ b → t.bank k = s.bank k

theorem State.closeLay_closed (h : (s.bank b).state ≠ .nestlay) (r : Byte) : LayClosed s b l r (s.closeLay b l r) := by
  have hframe : ∃ tr ga, s.closeLay b l r = (({ s.settleLay l with trace := tr, gals := ga } : State).modBank b (fun k => { k with
      layfails := if r = rLayFail then k.layfails + 1 else k.layfails })).leaveLay b l.op := by
    have htrace : ∃ tr, (if l.pulses = 0 then s else
        s.addTrace tPulses ((s.op? l.op).bind Op.slot) b.val (BitVec.ofNat 16 (min l.pulses 0xFFFF))).settleLay l =
        { s.settleLay l with trace := tr } := by
      split
      · exact ⟨_, rfl⟩
      · exact ⟨_, State.settleLay_setTrace l _ s⟩
    obtain ⟨tr, htr⟩ := htrace
    unfold State.closeLay
    dsimp only
    rw [htr]
    split
    · obtain ⟨ga, hga⟩ := State.tampFeed_frame (s := { s.settleLay l with trace := tr }) (b := b) l.pulses
      rw [hga]
      exact ⟨tr, ga, rfl⟩
    · exact ⟨tr, _, rfl⟩
  obtain ⟨tr, ga, hclose⟩ := hframe
  have hsettle := (settleLay_cells s l).eq
  have hbanks : (s.settleLay l).banks = s.banks := by rw [hsettle]
  have hledger : (s.settleLay l).ledger = s.ledger := by rw [hsettle]
  have hpace : (s.settleLay l).pace = s.pace := by rw [hsettle]
  generalize hu : ({ s.settleLay l with trace := tr, gals := ga } : State).modBank b (fun k => { k with
      layfails := if r = rLayFail then k.layfails + 1 else k.layfails }) = u at hclose
  have hself : u.bank b = { s.bank b with layfails := if r = rLayFail then (s.bank b).layfails + 1 else (s.bank b).layfails } := by
    rw [← hu, State.modBank_bank_self]
    simp only [State.bank, hbanks]
  have hothers : ∀ k : BankId, k ≠ b → u.bank k = s.bank k := fun k hk => by
    rw [← hu, State.modBank_bank_of_ne _ b _ k hk]
    simp only [State.bank, hbanks]
  obtain ⟨ops, tr', hframe, hop⟩ := State.leaveLay_frame (s := u) (b := b) (by rw [hself]; exact h) l.op
  have hupace : u.pace = s.pace := by
    rw [← hu]
    exact hpace
  have hbank : (s.closeLay b l r).bank b = (u.bank b).laid := by
    rw [hclose, hframe]
    exact State.modBank_bank_self u b Bank.laid
  rw [hself] at hbank
  refine ⟨?_, ?_, ?_, fun o ho => ?_, ?_, ?_, ?_, fun k hk => ?_⟩
  · rw [hclose, hframe, ← hu]
    rfl
  · rw [hclose, hframe, ← hu]
    rfl
  · rw [hclose, hframe]
    exact congrArg (fun x : Pace => x.devtime.extractLsb' 20 32) hupace
  · rw [hclose]
    refine hop o ?_
    rw [← hu]
    exact (congrArg (fun x : Ledger => x.findOp l.op) hledger).trans ho
  · rw [hbank]
    rfl
  · rw [hbank]
    rfl
  · rw [hbank]
    rfl
  · rw [hclose, hframe]
    exact (State.modBank_bank_of_ne u b Bank.laid k hk).trans (hothers k hk)

/-- A relocation is asked of its bank alone. -/
theorem State.askRelocation_frame (s : State) (b : BankId) (o : Op) (l : LayRun) : ∃ f : Bank → Bank,
    s.askRelocation b o l = s.modBank b f ∧ (f (s.bank b)).lay = (s.bank b).lay ∧ (f (s.bank b)).state = (s.bank b).state
    ∧ (f (s.bank b)).layfails = (s.bank b).layfails := by
  have hsame : s = s.modBank b id := by
    rw [State.modBank, id, State.bank, Vector.set_getElem_self]
  unfold State.askRelocation
  split
  · exact ⟨id, hsame, rfl, rfl, rfl⟩
  · split
    · exact ⟨_, rfl, rfl, rfl, rfl⟩
    · split
      · exact ⟨id, hsame, rfl, rfl, rfl⟩
      · exact ⟨_, rfl, rfl, rfl, rfl⟩

theorem LayClosed.modBank {t : State} {r : Byte} (h : LayClosed s b l r t) {f : Bank → Bank} (hlay : (f (t.bank b)).lay = (t.bank b).lay)
    (hstate : (f (t.bank b)).state = (t.bank b).state) (hfails : (f (t.bank b)).layfails = (t.bank b).layfails) :
    LayClosed s b l r (t.modBank b f) := by
  refine ⟨h.mem, h.touched, h.stamp, h.op, ?_, ?_, ?_, fun k hk => ?_⟩
  · rw [State.modBank_bank_self, hlay]
    exact h.lay
  · rw [State.modBank_bank_self, hstate]
    exact h.state
  · rw [State.modBank_bank_self, hfails]
    exact h.layfails
  · rw [State.modBank_bank_of_ne _ b _ k hk]
    exact h.others k hk

/-- A LAY's lay ends with `r`, and the LAY with it. -/
theorem State.endLay_lay (h : (s.bank b).state ≠ .nestlay) (hlay : (s.bank b).lay = some l) (hcopy : l.copy = false)
    (hop : s.op? l.op = some o) (hopcode : o.opcode = opLay) {r : Byte} (hr : r ≠ rRelaid) :
    ∃ u tr, LayClosed s b l r u ∧ s.endLay b r =
      ({ u.modOp l.op (fun x => { x with units := BitVec.ofNat 32 l.units }) with trace := tr } : State).complete l.op r := by
  have hid := State.op?_id hop
  have hdrain : ∀ u : State, ∃ tr, u.drainYard o = { u with trace := tr } := fun u => by
    unfold State.drainYard
    split
    · exact ⟨_, rfl⟩
    · exact ⟨u.trace, rfl⟩
  have hclosed := State.closeLay_closed (l := l) h r
  obtain ⟨u, hu, hasked⟩ : ∃ u, LayClosed s b l r u ∧
      (if r = rLayFail then (s.closeLay b l r).askRelocation b o l else s.closeLay b l r) = u := by
    split
    · obtain ⟨f, hf, hl, hst, hfails⟩ := (s.closeLay b l r).askRelocation_frame b o l
      exact ⟨_, hclosed.modBank hl hst hfails, hf⟩
    · exact ⟨_, hclosed, rfl⟩
  obtain ⟨tr, htr⟩ := hdrain (u.modOp l.op (fun x => { x with units := BitVec.ofNat 32 l.units }))
  refine ⟨u, tr, hu, ?_⟩
  unfold State.endLay
  rw [hlay]
  dsimp only
  rw [hcopy, if_neg Bool.false_ne_true, hop]
  dsimp only
  rw [hasked, if_neg (by rw [hopcode]; decide), if_neg hr, hid, htr]

theorem LayRun.units_le : l.units ≤ l.targets.length := by
  refine le_trans (List.length_filter_le _ _) ?_
  rw [List.length_range]

theorem LayRun.units_eq_iff : l.units = l.targets.length ↔ ∀ i, i < l.targets.length → l.verified.getLsbD i = true := by
  have hlen : (List.range l.targets.length).length = l.targets.length := List.length_range
  unfold LayRun.units
  constructor
  · intro h i hi
    have hall := List.length_filter_eq_length_iff.1 (h.trans hlen.symm)
    exact hall i (List.mem_range.2 hi)
  · intro h
    exact (List.length_filter_eq_length_iff.2 fun i hi => h i (List.mem_range.1 hi)).trans hlen

/-- What a LAY leaves whose lay ends with `r`. -/
theorem State.endLay_leaves (h : (s.bank b).state ≠ .nestlay) (hlay : (s.bank b).lay = some l) (hcopy : l.copy = false)
    (hop : s.op? l.op = some o) (hopcode : o.opcode = opLay) (hnodup : (l.targets.map (·.1)).Nodup) (hlen : l.targets.length ≤ 64)
    (hpulses : 0 < l.pulses) {r : Byte} (hr : r ≠ rRelaid) :
    let t := (s.endLay b r).atStage orderEnds
    ((∀ (i : Nat) (e : Nat × BitVec 75), l.targets[i]? = some e → l.verified.getLsbD i = true → readCells t.mem e.1 = e.2)
      ∧ (∀ (i : Nat) (e : Nat × BitVec 75), l.targets[i]? = some e → ¬ l.verified.getLsbD i = true → t.blankStone e.1 = false)
      ∧ (∀ n : Nat, (∀ e ∈ l.targets, e.1 ≠ n) → readCells t.mem n = readCells s.mem n)
      ∧ (t.bank b).lay = none ∧ (t.bank b).state = .idle ∧ ∀ k : BankId, k ≠ b → t.bank k = s.bank k)
    ∧ s.ends t o r l.units
    ∧ (t.bank b).layfails = if r = rLayFail then (s.bank b).layfails + 1 else (s.bank b).layfails := by
  obtain ⟨u, tr, hu, hend⟩ := State.endLay_lay h hlay hcopy hop hopcode hr
  have hid := State.op?_id hop
  generalize hv : ({ u.modOp l.op (fun x => { x with units := BitVec.ofNat 32 l.units }) with trace := tr } : State) = v at hend
  have hvop : v.op? l.op = some { o with tokens := 0, units := BitVec.ofNat 32 l.units } := by
    rw [← hv]
    exact State.op?_modOp_of_op? (f := fun x => { x with units := BitVec.ofNat 32 l.units }) (fun _ => rfl) (hu.op o hop)
  have hstamp : v.stamp = s.stamp := by
    rw [← hv]
    exact hu.stamp
  rw [← hid] at hvop
  have hends : s.ends (State.completeWith true v o.id r) o r (BitVec.ofNat 32 l.units).toNat :=
    State.ends_completeWith hvop rfl rfl hstamp true r
  have hunits : (BitVec.ofNat 32 l.units).toNat = l.units := by
    have := l.units_le
    rw [BitVec.toNat_ofNat]
    exact Nat.mod_eq_of_lt (by omega)
  rw [hunits, hid] at hends
  obtain ⟨po, le, su, pw, tr', gl, hframe⟩ := State.completeWith_moves v true l.op r
  have hmem : (s.endLay b r).mem = (s.settleLay l).mem := by
    rw [hend, State.complete, hframe, ← hv]
    exact hu.mem
  have htouched : (s.endLay b r).touched = (s.settleLay l).touched := by
    rw [hend, State.complete, hframe, ← hv]
    exact hu.touched
  have hbank : ∀ k : BankId, (s.endLay b r).bank k = u.bank k := fun k => by
    rw [hend, State.complete, hframe, ← hv]
    rfl
  obtain ⟨hread, hopen, hothers⟩ := State.settleLay_cells_of (s := s) hpulses hnodup
  rw [← hmem] at hread hothers
  rw [← htouched] at hopen
  refine ⟨⟨hread, fun i e hi hv => ?_, hothers, ?_, ?_, fun k hk => ?_⟩, ?_, ?_⟩
  · refine (Bool.and_eq_false_iff.2 (.inr ?_))
    rw [Bool.not_eq_false']
    exact List.contains_iff_mem.2 (hopen i e hi hv)
  · exact (congrArg Bank.lay (hbank b)).trans hu.lay
  · exact (congrArg Bank.state (hbank b)).trans hu.state
  · exact (hbank k).trans (hu.others k hk)
  · rw [hend]
    exact hends
  · exact (congrArg Bank.layfails (hbank b)).trans hu.layfails

end

/-- Settles O52: the targets settle, the bank leaves LAYING, and the LAY ends. -/
theorem layEndLeavesTargets : Obligations.LayEndLeavesTargets := by
  intro s b l o hok hwf htime hlay hnest hheld hrelaid hcopy hpulse hpulses hop hopcode hnodup hlen
  have hexec : ∀ r : Byte, (if (l.whole && l.pulse.isNone) = true then s.endLay b (if l.denied then rDenied else rDone)
      else if l.maxPs ≤ l.time then s.endLay b rLayFail else s) = s.endLay b r →
      exec (.layEnd b) s = .next ((s.endLay b r).atStage orderEnds) := by
    intro r hr
    refine (State.onStep_onTime htime _).trans (congrArg (fun t : State => Host.Outcome.next (t.atStage orderEnds)) ?_)
    rw [hlay]
    dsimp only
    rw [hheld, hrelaid, if_neg Bool.false_ne_true, if_neg Bool.false_ne_true]
    exact hr
  refine ⟨fun hall => ?_, fun ⟨i, hi, hnot⟩ hmax => ?_⟩
  · have hunits := LayRun.units_eq_iff.2 hall
    have hr : (if l.denied then rDenied else rDone) ≠ rRelaid ∧ (if l.denied then rDenied else rDone) ≠ rLayFail := by
      cases l.denied
      · decide
      · decide
    obtain ⟨hcells, hends, hfails⟩ := State.endLay_leaves hnest hlay hcopy hop hopcode hnodup hlen hpulses hr.1
    refine ⟨_, hexec _ (if_pos ?_), hcells, ?_, ?_⟩
    · rw [LayRun.whole, hunits, hpulse, beq_self_eq_true]
      rfl
    · rw [← hunits]
      exact hends
    · rw [hfails, if_neg hr.2]
  · obtain ⟨hcells, hends, hfails⟩ := State.endLay_leaves hnest hlay hcopy hop hopcode hnodup hlen hpulses
      (show rLayFail ≠ rRelaid by decide)
    refine ⟨_, hexec _ ?_, hcells, hends, ?_⟩
    · rw [if_neg, if_pos hmax]
      rw [LayRun.whole, beq_false_of_ne fun h => hnot (LayRun.units_eq_iff.1 h i hi)]
      exact Bool.false_ne_true
    · rw [hfails, if_pos rfl]

end Sys2Proof.Machine
end

section
/-! PROOFS. The ends of clear units and of firings (R309, R331, R338, R360 to R362, R630). -/
namespace Sys2Proof.Machine

section
variable {s t u : State} {b : BankId} {c : ClearRun} {o : Op}

/-! ### Work on one bank -/

/-- Work on bank `b` moves no other bank, no operation, no time and no pin. -/
structure State.OnlyBank (s : State) (b : BankId) (t : State) : Prop where
  others : ∀ k : BankId, k ≠ b → t.bank k = s.bank k
  ledger : t.ledger = s.ledger
  pace   : t.pace = s.pace
  pins   : t.pins = s.pins

theorem State.OnlyBank.trans (h : s.OnlyBank b t) (g : t.OnlyBank b u) : s.OnlyBank b u :=
  ⟨fun k hk => (g.others k hk).trans (h.others k hk), g.ledger.trans h.ledger, g.pace.trans h.pace, g.pins.trans h.pins⟩

theorem State.OnlyBank.modBank (f : Bank → Bank) : s.OnlyBank b (s.modBank b f) :=
  ⟨fun k hk => State.modBank_bank_of_ne s b f k hk, rfl, rfl, rfl⟩

theorem State.OnlyBank.of_banks (hb : t.banks = s.banks) (hl : t.ledger = s.ledger) (hp : t.pace = s.pace) (hi : t.pins = s.pins) :
    s.OnlyBank b t :=
  ⟨fun k _ => by rw [State.bank, hb]; rfl, hl, hp, hi⟩

/-- One bank of two states with the same banks. -/
theorem State.bank_of_banks (h : t.banks = s.banks) (k : BankId) : t.bank k = s.bank k := by
  rw [State.bank, h]
  rfl

theorem State.tracePulses_frame (c : ClearRun) : ∃ tr, s.tracePulses b c = { s with trace := tr } := by
  unfold State.tracePulses
  split
  · exact ⟨s.trace, rfl⟩
  · exact ⟨_, rfl⟩

theorem State.setWear_only (key clears firings : Nat) : s.OnlyBank b (s.setWear b key clears firings)
    ∧ (s.setWear b key clears firings).bank b = { s.bank b with
      wear := (key, clears, firings) :: (s.bank b).wear.filter (fun e => e.1 != key) } := by
  have hfirst : ∀ q : Bool, s.OnlyBank b (if q then s.modBoot (fun x => { x with copy2 := true }) else s)
      ∧ (if q then s.modBoot (fun x => { x with copy2 := true }) else s).bank b = s.bank b := fun q => by
    cases q with
    | true => exact ⟨.of_banks rfl rfl rfl rfl, rfl⟩
    | false => exact ⟨.of_banks rfl rfl rfl rfl, rfl⟩
  unfold State.setWear
  dsimp only
  generalize hq : (if (((s.bank b).wear.find? (fun e => e.1 == key)).isNone && (s.plinthWear b key).2.2) = true then
    s.modBoot (fun x => { x with copy2 := true }) else s) = v
  obtain ⟨hv, hself⟩ : s.OnlyBank b v ∧ v.bank b = s.bank b := hq ▸ hfirst _
  generalize hw : v.modBank b (fun x => { x with wear := (key, clears, firings) :: x.wear.filter (fun e => e.1 != key) }) = w
  have honly : s.OnlyBank b w := hw ▸ hv.trans (.modBank _)
  have hbank : w.bank b = { s.bank b with wear := (key, clears, firings) :: (s.bank b).wear.filter (fun e => e.1 != key) } := by
    rw [← hw, State.modBank_bank_self, hself]
  split
  · split
    · exact ⟨honly.trans (.of_banks rfl rfl rfl rfl), hbank⟩
    · exact ⟨honly, hbank⟩
  · exact ⟨honly, hbank⟩

theorem State.addClear_only (x : UnitRef) : s.OnlyBank b (s.addClear b x)
    ∧ ∃ w v, (s.addClear b x).bank b = { s.bank b with wear := w, overdue := v } := by
  unfold State.addClear
  split
  · exact ⟨.of_banks rfl rfl rfl rfl, _, _, rfl⟩
  · next key _ =>
    obtain ⟨honly, hbank⟩ := State.setWear_only (s := s) (b := b) key ((s.wearOf b key).1 + 1) (s.wearOf b key).2
    dsimp only
    split
    · refine ⟨honly.trans (.trans (.modBank (fun x => { x with overdue := true })) (.of_banks rfl rfl rfl rfl)),
        ((s.setWear b key ((s.wearOf b key).1 + 1) (s.wearOf b key).2).bank b).wear, true, ?_⟩
      refine (State.modBank_bank_self _ b (fun x => { x with overdue := true })).trans ?_
      rw [hbank]
    · exact ⟨honly, _, _, hbank⟩

theorem State.countSince_only (o : Op) : s.OnlyBank b (s.countSince b o)
    ∧ ∃ n, (s.countSince b o).bank b = { s.bank b with since := n } := by
  unfold State.countSince
  split
  · exact ⟨.of_banks rfl rfl rfl rfl, _, rfl⟩
  · exact ⟨.modBank _, _, State.modBank_bank_self _ b _⟩

theorem State.refillGap_only : s.OnlyBank b (s.refillGap b)
    ∧ ∃ r g, (s.refillGap b).bank b = { s.bank b with kept := r, nogap := g }
      ∧ ((s.bank b).kept.gap.isSome = true → r = (s.bank b).kept) := by
  unfold State.refillGap
  split
  · exact ⟨.modBank _, (s.bank b).kept, false, State.modBank_bank_self _ b _, fun _ => rfl⟩
  · next hnone =>
    have hno : (s.bank b).kept.gap.isSome = true → False := fun h => by
      rw [hnone] at h
      exact nomatch h
    split
    · exact ⟨.modBank _, _, _, State.modBank_bank_self _ b _, fun h => (hno h).elim⟩
    · exact ⟨.modBank _, _, _, State.modBank_bank_self _ b _, fun h => (hno h).elim⟩

/-- What is kept of a bank has changed; a gap that it names stays. -/
theorem State.modKept_only (g : BankRec → BankRec) : s.OnlyBank b (s.modKept b g)
    ∧ ∃ r n w, (s.modKept b g).bank b = { s.bank b with kept := r, nogap := n, worn := w }
      ∧ ((g (s.bank b).kept).gap.isSome = true → r = g (s.bank b).kept) := by
  generalize hv : s.modBank b (fun x => { x with kept := g x.kept }) = v
  have hvonly : s.OnlyBank b v := hv ▸ .modBank _
  have hvbank : v.bank b = { s.bank b with kept := g (s.bank b).kept } := hv ▸ State.modBank_bank_self _ b _
  obtain ⟨hronly, r, n, hrbank, hgap⟩ := State.refillGap_only (s := v) (b := b)
  rw [hvbank] at hrbank hgap
  generalize hq : v.refillGap b = q at hronly hrbank
  have hkept : s.modKept b g = (q.noteWorn b).writeBankRec b := by
    rw [← hq, ← hv]
    rfl
  have hworn : q.OnlyBank b (q.noteWorn b) ∧ ∃ w, (q.noteWorn b).bank b = { q.bank b with worn := w } := by
    unfold State.noteWorn
    dsimp only
    split
    · exact ⟨.trans (.modBank (fun x => { x with worn := decide ((q.bank b).kept.reserveCount b < 4) })) (.of_banks rfl rfl rfl rfl), _,
        State.modBank_bank_self q b (fun x => { x with worn := decide ((q.bank b).kept.reserveCount b < 4) })⟩
    · exact ⟨.modBank _, _, State.modBank_bank_self q b _⟩
  obtain ⟨hwonly, w, hwbank⟩ := hworn
  have hrec : ∀ z : State, z.OnlyBank b (z.writeBankRec b) ∧ (z.writeBankRec b).bank b = z.bank b := fun z => by
    unfold State.writeBankRec
    split
    · exact ⟨.of_banks rfl rfl rfl rfl, rfl⟩
    · exact ⟨.of_banks rfl rfl rfl rfl, rfl⟩
  obtain ⟨hwrec, hwself⟩ := hrec (q.noteWorn b)
  rw [hkept]
  refine ⟨((hvonly.trans hronly).trans hwonly).trans hwrec, r, n, w, ?_, hgap⟩
  rw [hwself, hwbank, hrbank]

theorem State.clearFailed_only (c : ClearRun) : s.OnlyBank b (s.clearFailed b c)
    ∧ ∃ r n w v, (s.clearFailed b c).bank b = { s.bank b with kept := r, nogap := n, worn := w, noreserve := v } := by
  unfold State.clearFailed
  split
  · exact ⟨.of_banks rfl rfl rfl rfl, _, _, _, _, rfl⟩
  · split
    · exact ⟨.modBank _, _, _, _, _, State.modBank_bank_self _ b _⟩
    · next d _ =>
      split
      · exact ⟨.of_banks rfl rfl rfl rfl, _, _, _, _, rfl⟩
      · obtain ⟨honly, r, n, w, hbank, -⟩ := State.modKept_only (s := s) (b := b)
          (fun r => ((r.setMap c.lblock d).setSlot b d .mapped).retire b c.slot retClearFail s.stamp)
        exact ⟨honly, r, n, w, _, hbank⟩

/-! ### A unit of an operation's clear -/

/-- A unit has ended: its cells, and what is counted of it. -/
def State.unitDone (s : State) (b : BankId) (c : ClearRun) (ok : Bool) : State :=
  if ok then ((s.tracePulses b c).blankUnit b c.unit).addClear b c.unit
  else (if c.pulses = 0 then s.tracePulses b c else (s.tracePulses b c).openUnit b c.unit).countClearFail b

theorem State.endUnit_good (hpurpose : c.purpose = .operation) (hop : s.op? c.op = some o) :
    s.endUnit b c true = ((s.unitDone b c true).countSince b o).unitGood b c o := by
  unfold State.endUnit
  dsimp only
  rw [hpurpose, hop]
  rfl

theorem State.endUnit_bad (hpurpose : c.purpose = .operation) (hop : s.op? c.op = some o) :
    s.endUnit b c false = ((s.unitDone b c false).clearFailed b c).endClear b c rClearFail := by
  unfold State.endUnit
  dsimp only
  rw [hpurpose, hop]
  rfl

theorem State.unitDone_good (c : ClearRun) : s.OnlyBank b (s.unitDone b c true)
    ∧ ∃ w v, (s.unitDone b c true).bank b = { s.bank b with wear := w, overdue := v } := by
  obtain ⟨tr, htr⟩ := s.tracePulses_frame (b := b) c
  obtain ⟨honly, w, v, hbank⟩ := State.addClear_only (s := (s.tracePulses b c).blankUnit b c.unit) (b := b) c.unit
  refine ⟨.trans (.of_banks ?_ ?_ ?_ ?_) honly, w, v, hbank.trans ?_⟩
  · rw [htr]
    rfl
  · rw [htr]
    rfl
  · rw [htr]
    rfl
  · rw [htr]
    rfl
  · rw [htr]
    rfl

theorem State.unitDone_bad (c : ClearRun) : s.OnlyBank b (s.unitDone b c false)
    ∧ (s.unitDone b c false).bank b = { s.bank b with clearfails := (s.bank b).clearfails + 1 } := by
  obtain ⟨tr, htr⟩ := s.tracePulses_frame (b := b) c
  have hframe : ∃ m k f, (if c.pulses = 0 then s.tracePulses b c else (s.tracePulses b c).openUnit b c.unit) =
      { s with trace := tr, mem := m, touched := k, freeCtr := f } := by
    rw [htr]
    split
    · exact ⟨_, _, _, rfl⟩
    · exact ⟨_, _, _, (openUnit_cells { s with trace := tr } b c.unit).eq⟩
  obtain ⟨m, k, f, hframe⟩ := hframe
  unfold State.unitDone
  rw [if_neg Bool.false_ne_true, hframe]
  refine ⟨State.OnlyBank.trans (t := { s with trace := tr, mem := m, touched := k, freeCtr := f }) (.of_banks rfl rfl rfl rfl)
    (.modBank (fun k => { k with clearfails := k.clearfails + 1 })), ?_⟩
  exact State.modBank_bank_self _ b (fun k => { k with clearfails := k.clearfails + 1 })

/-- The cells outside a unit stay, whichever way it ends. -/
theorem State.unitMem_outside (c : ClearRun) (ok : Bool) (a : Nat) (h : a < 10 * (c.unit.range b).1 ∨ 10 * (c.unit.range b).2 ≤ a) :
    Memory.read (s.unitMem b c ok) a = Memory.read s.mem a := by
  have hout : ¬ ((c.unit.range b).1 ≤ a / 10 ∧ a / 10 < (c.unit.range b).2) := by omega
  unfold State.unitMem
  split
  · exact (blankUnit_cells s b c.unit).read a hout
  · split
    · rfl
    · exact (openUnit_cells s b c.unit).read a hout

/-- A unit that has verified reads blank. -/
theorem State.unitMem_blank (c : ClearRun) {n : Nat} (hlo : (c.unit.range b).1 ≤ n) (hhi : n < (c.unit.range b).2) :
    readCells (s.unitMem b c true) n = cellsBlank := by
  rw [State.unitMem, if_pos rfl]
  exact (readCells_blankStones s.mem _ _ n).trans (if_pos ⟨hlo, hhi⟩)

/-! ### A clear closes -/

/-- A bank whose clear or firing has ended. -/
def Bank.cleared (k : Bank) : Bank := { k with state := .idle, clear := none, deferred := false, deferHost := false, hostsusp := false }

theorem State.closeClear_frame (c : ClearRun) : ∃ ops tr,
    s.closeClear b c = { s.modBank b Bank.cleared with ledger := { s.ledger with ops := ops }, trace := tr }
    ∧ ∀ o, s.op? c.op = some o → (s.closeClear b c).op? c.op = some { o with tokens := 0 } := by
  obtain ⟨ops, tr, hframe, hop⟩ := State.release_frame (s := s.modBank b Bank.cleared) c.op b.val
  exact ⟨ops, tr, hframe, fun o ho => hop o ho⟩

/-- What the end of a clear leaves of its operation and of the banks. -/
theorem State.endClear_leaves {z : State} {y : Op} (hop : s.op? c.op = some y) (horigin : y.origin = o.origin) (hsub : y.sub = o.sub)
    (hid : o.id = c.op) (hstamp : s.stamp = z.stamp) (r : Byte) :
    z.ends (s.endClear b c r) o r y.units.toNat ∧ (s.endClear b c r).bank b = (s.bank b).cleared
    ∧ ∀ k : BankId, k ≠ b → (s.endClear b c r).bank k = s.bank k := by
  obtain ⟨ops, tr, hframe, hclosed⟩ := State.closeClear_frame (s := s) (b := b) c
  have hcop := hclosed y hop
  obtain ⟨po, le, su, pw, tr', gl, hdone⟩ := State.completeWith_moves (s.closeClear b c) true c.op r
  have hcstamp : (s.closeClear b c).stamp = z.stamp := by
    rw [hframe]
    exact hstamp
  have hbank : ∀ k : BankId, (s.endClear b c r).bank k = (s.modBank b Bank.cleared).bank k := fun k => by
    rw [State.endClear, State.complete, hdone, hframe]
    rfl
  refine ⟨?_, (hbank b).trans (State.modBank_bank_self s b _), fun k hk => (hbank k).trans (State.modBank_bank_of_ne s b _ k hk)⟩
  unfold State.endClear State.complete
  rw [← hid] at hcop ⊢
  exact State.ends_completeWith hcop horigin hsub hcstamp true r

/-- Where the last unit that counts has verified, no unit comes after it. -/
theorem State.unitAfter_none (hcounts : countsUnit o c.unit = true) {y : Op} (hopcode : y.opcode = o.opcode)
    (hlast : ¬ y.units.toNat < y.count.toNat) : s.unitAfter b y c = none := by
  unfold State.unitAfter
  cases hunit : c.unit with
  | sector k n =>
    rw [hunit] at hcounts
    have hnot : ¬ (y.opcode = opClear ∧ n < 15) := by
      rintro ⟨hclear, hn⟩
      have := (show (o.opcode != opClear || n == 15) = true from hcounts)
      simp only [Bool.or_eq_true, bne_iff_ne, beq_iff_eq] at this
      rcases this with hne | h15
      · exact hne (hopcode.symm.trans hclear)
      · omega
    dsimp only
    rw [if_neg hnot, if_neg hlast]
  | block k => exact if_neg hlast
  | page p => exact if_neg hlast

/-- A unit that has verified ends the clear, or leads to the next; the failures of the bank stay. -/
theorem State.unitGood_leaves (hop : s.op? o.id = some o) (hid : o.id = c.op) {z : State} (hstamp : s.stamp = z.stamp) :
    (∀ k : BankId, k ≠ b → (s.unitGood b c o).bank k = s.bank k) ∧ ((s.unitGood b c o).bank b).clearfails = (s.bank b).clearfails
    ∧ (countsUnit o c.unit = true → o.marked = false → (o.units + 1).toNat = o.count.toNat →
        z.ends (s.unitGood b c o) o rDone (o.units + 1).toNat ∧ ((s.unitGood b c o).bank b).state = .idle
        ∧ ((s.unitGood b c o).bank b).clear = none) := by
  obtain ⟨v, y, hv, hvop, hvbank, hvstamp, horigin, hsub, hopcode, hcount, hmarked, hunits⟩ : ∃ (v : State) (y : Op),
      s.modOp o.id (fun x => { x with units := if countsUnit o c.unit then x.units + 1 else x.units }) = v ∧ v.op? o.id = some y
      ∧ (∀ k : BankId, v.bank k = s.bank k) ∧ v.stamp = z.stamp ∧ y.origin = o.origin ∧ y.sub = o.sub ∧ y.opcode = o.opcode
      ∧ y.count = o.count ∧ y.marked = o.marked ∧ (countsUnit o c.unit = true → y.units = o.units + 1) :=
    ⟨_, { o with units := if countsUnit o c.unit then o.units + 1 else o.units }, rfl,
      State.op?_modOp_of_op? (f := fun x => { x with units := if countsUnit o c.unit then x.units + 1 else x.units }) (fun _ => rfl) hop,
      fun _ => rfl, hstamp, rfl, rfl, rfl, rfl, rfl, fun h => if_pos h⟩
  have hend := fun r => State.endClear_leaves (s := v) (b := b) (c := c) (o := o) (z := z) (by rw [← hid]; exact hvop) horigin hsub hid
    hvstamp r
  have hends : ∀ r, (∀ k : BankId, k ≠ b → (v.endClear b c r).bank k = s.bank k)
      ∧ ((v.endClear b c r).bank b).clearfails = (s.bank b).clearfails := fun r => by
    obtain ⟨-, hself, hothers⟩ := hend r
    refine ⟨fun k hk => (hothers k hk).trans (hvbank k), ?_⟩
    rw [hself, hvbank]
    rfl
  unfold State.unitGood
  dsimp only
  rw [hv, hvop]
  dsimp only
  split
  · next hcancel =>
    obtain ⟨hothers, hfails⟩ := hends rCancelled
    refine ⟨hothers, hfails, fun _ hnot _ => ?_⟩
    rw [hmarked, hnot, Bool.and_false] at hcancel
    exact nomatch hcancel
  · split
    · obtain ⟨hothers, hfails⟩ := hends rDone
      obtain ⟨hdone, hself, -⟩ := hend rDone
      refine ⟨hothers, hfails, fun hcounts _ _ => ⟨?_, ?_, ?_⟩⟩
      · rw [← hunits hcounts]
        exact hdone
      · rw [hself]
        rfl
      · rw [hself]
        rfl
    · next x hafter =>
      refine ⟨fun k hk => (State.modBank_bank_of_ne _ b _ k hk).trans (hvbank k), ?_, fun hcounts _ hlast => ?_⟩
      · rw [State.modBank_bank_self]
        show (v.bank b).clearfails = _
        rw [hvbank]
      · rw [State.unitAfter_none hcounts hopcode (by rw [hunits hcounts, hcount]; omega)] at hafter
        exact nomatch hafter

/-! ### The end of a firing -/

theorem State.setWear_touched (key clears firings : Nat) : (s.setWear b key clears firings).touched = s.touched := by
  have hfirst : ∀ q : Bool, (if q then s.modBoot (fun x => { x with copy2 := true }) else s).touched = s.touched := fun q => by
    cases q with
    | true => rfl
    | false => rfl
  unfold State.setWear
  dsimp only
  split
  · split
    · exact hfirst _
    · exact hfirst _
  · exact hfirst _

theorem State.modKept_touched (g : BankRec → BankRec) : (s.modKept b g).touched = s.touched := by
  have hgap : ∀ z : State, (z.refillGap b).touched = z.touched := fun z => by
    unfold State.refillGap
    split
    · rfl
    · split
      · rfl
      · rfl
  have hworn : ∀ z : State, (z.noteWorn b).touched = z.touched := fun z => by
    unfold State.noteWorn
    dsimp only
    split
    · rfl
    · rfl
  have hrec : ∀ z : State, (z.writeBankRec b).touched = z.touched := fun z => by
    unfold State.writeBankRec
    split
    · rfl
    · rfl
  unfold State.modKept State.settleSlots
  rw [hrec, hworn, hgap]
  rfl

/-- Wear that has been set is read back. -/
theorem State.wearOf_of_wear {key : Nat} {x : Nat × Nat} {l : List (Nat × Nat × Nat)} (h : (s.bank b).wear = (key, x) :: l) :
    s.wearOf b key = x := by
  unfold State.wearOf
  rw [h, List.find?_cons_of_pos (p := fun e : Nat × Nat × Nat => e.1 == key) (beq_self_eq_true key)]

theorem BankRec.fired_slot (r : BankRec) (b : BankId) (k : Nat) : ((r.setSlot b k .reserve).tidyDrop k).slotState b k = .reserve :=
  (Sparse.get_put (defaultSlot b) r.slots k .reserve k).trans (if_pos rfl)

/-- R360: a firing whose clear has verified ends DONE with a RESERVE slot. -/
theorem State.firedState_leaves {z : State} {y : Op} {id k : Nat} (hop : s.op? id = some y) (horigin : y.origin = o.origin)
    (hsub : y.sub = o.sub) (hid : o.id = id) (hstamp : s.stamp = z.stamp) (hworn : (s.wearOf b k).2 < 100000)
    (hgap : (s.bank b).kept.gap.isSome = true) :
    z.ends (s.firedState b id k true) o rDone 1 ∧ (s.firedState b id k true).mem = s.mem
    ∧ (s.firedState b id k true).touched = s.touched
    ∧ (∃ r n w, (s.firedState b id k true).bank b = { s.bank b with kept := r, nogap := n, worn := w, swaps := (s.bank b).swaps + 1 }
      ∧ r.slotState b k = .reserve)
    ∧ ∀ d : BankId, d ≠ b → (s.firedState b id k true).bank d = s.bank d := by
  obtain ⟨honly, r, n, w, hbank, hkept⟩ := State.modKept_only (s := s) (b := b) (fun r => (r.setSlot b k .reserve).tidyDrop k)
  have htouched := State.modKept_touched (s := s) (b := b) (fun r => (r.setSlot b k .reserve).tidyDrop k)
  have hmem := State.mem_of_kept (State.kept_modKept s b (fun r => (r.setSlot b k .reserve).tidyDrop k))
  have hfired : s.firedState b id k true = (((s.modKept b (fun r => (r.setSlot b k .reserve).tidyDrop k)).modBank b
      (fun x => { x with swaps := x.swaps + 1 })).modOp id (fun x => { x with units := 1 })).complete id rDone := by
    unfold State.firedState
    rw [decide_eq_false (by omega)]
    rfl
  generalize s.modKept b (fun r => (r.setSlot b k .reserve).tidyDrop k) = v at *
  have hvop : ((v.modBank b (fun x => { x with swaps := x.swaps + 1 })).modOp id (fun x => { x with units := 1 })).op? id =
      some { y with units := 1 } :=
    State.op?_modOp_of_op? (f := fun x => { x with units := 1 }) (fun _ => rfl)
      ((congrArg (fun l : Ledger => l.findOp id) honly.ledger).trans hop)
  have hvstamp : ((v.modBank b (fun x => { x with swaps := x.swaps + 1 })).modOp id (fun x => { x with units := 1 })).stamp = z.stamp :=
    (congrArg (fun x : Pace => x.devtime.extractLsb' 20 32) honly.pace).trans hstamp
  obtain ⟨po, le, su, pw, tr, gl, hdone⟩ := State.completeWith_moves
    ((v.modBank b (fun x => { x with swaps := x.swaps + 1 })).modOp id (fun x => { x with units := 1 })) true id rDone
  rw [hfired]
  refine ⟨?_, ?_, ?_, ⟨r, n, w, ?_, ?_⟩, fun d hd => ?_⟩
  · rw [← hid] at hvop hvstamp ⊢
    exact State.ends_completeWith hvop horigin hsub hvstamp true rDone
  · rw [State.complete, hdone]
    exact hmem
  · rw [State.complete, hdone]
    exact htouched
  · rw [State.complete, hdone]
    refine (State.modBank_bank_self v b (fun x => { x with swaps := x.swaps + 1 })).trans ?_
    rw [hbank]
  · rw [hkept hgap]
    exact BankRec.fired_slot _ b k
  · rw [State.complete, hdone]
    exact (State.modBank_bank_of_ne v b (fun x => { x with swaps := x.swaps + 1 }) d hd).trans (honly.others d hd)

/-- The state from which a firing whose clear has verified ends. -/
def State.fired (s : State) (b : BankId) (c : ClearRun) : State :=
  ((((s.tracePulses b c).blankUnit b c.unit).countFiring b c).closeClear b c).modOp c.op (fun x => { x with
    index := (if c.stage = 0 then 0 else stagePs 0) + min c.fireTime (stagePs c.stage) })

theorem State.fired_leaves {k : Nat} (hunit : c.unit = .block k) (hop : s.op? c.op = some o) :
    (s.fired b c).mem = (s.blankUnit b c.unit).mem ∧ (s.fired b c).touched = (s.blankUnit b c.unit).touched
    ∧ (∃ y, (s.fired b c).op? c.op = some y ∧ y.origin = o.origin ∧ y.sub = o.sub) ∧ (s.fired b c).stamp = s.stamp
    ∧ (((s.tracePulses b c).blankUnit b c.unit).countFiring b c).pins = s.pins ∧ (∀ d : BankId, d ≠ b → (s.fired b c).bank d = s.bank d)
    ∧ ∃ l, (s.fired b c).bank b = ({ s.bank b with wear := (k, 0, (s.wearOf b k).2 + 1) :: l } : Bank).cleared := by
  have hslot : c.slot = k := by
    unfold ClearRun.slot
    rw [hunit]
  obtain ⟨tr, htr⟩ := s.tracePulses_frame (b := b) c
  generalize hv : ({ s with trace := tr } : State).blankUnit b c.unit = v
  have hvbank : ∀ d : BankId, v.bank d = s.bank d := fun d => hv ▸ rfl
  have hvwear : v.wearOf b k = s.wearOf b k := hv ▸ rfl
  obtain ⟨honly, hself⟩ := State.setWear_only (s := v) (b := b) k 0 ((v.wearOf b k).2 + 1)
  have htouched := State.setWear_touched (s := v) (b := b) k 0 ((v.wearOf b k).2 + 1)
  have hmem := State.mem_of_kept (State.kept_setWear v b k 0 ((v.wearOf b k).2 + 1))
  have hfired : s.fired b c = ((v.setWear b k 0 ((v.wearOf b k).2 + 1)).closeClear b c).modOp c.op (fun x => { x with
      index := (if c.stage = 0 then 0 else stagePs 0) + min c.fireTime (stagePs c.stage) }) := by
    unfold State.fired State.countFiring
    rw [htr, hv, hslot]
  have hpins : (((s.tracePulses b c).blankUnit b c.unit).countFiring b c).pins = s.pins := by
    unfold State.countFiring
    rw [htr, hv, hslot]
    exact honly.pins.trans (hv ▸ rfl)
  generalize v.setWear b k 0 ((v.wearOf b k).2 + 1) = w at *
  obtain ⟨ops, tr', hframe, hclosed⟩ := State.closeClear_frame (s := w) (b := b) c
  have hwop : w.op? c.op = some o :=
    (congrArg (fun l : Ledger => l.findOp c.op) honly.ledger).trans (hv ▸ hop)
  have hclosedop := hclosed o hwop
  rw [hframe] at hclosedop hfired
  rw [hfired]
  refine ⟨hmem.trans (hv ▸ rfl), htouched.trans (hv ▸ rfl), ⟨_, State.op?_modOp_of_op? (f := fun x => { x with
      index := (if c.stage = 0 then 0 else stagePs 0) + min c.fireTime (stagePs c.stage) }) (fun _ => rfl) hclosedop, rfl, rfl⟩,
    ?_, hpins, fun d hd => ?_, (v.bank b).wear.filter (fun e => e.1 != k), ?_⟩
  · exact congrArg (fun x : Pace => x.devtime.extractLsb' 20 32) (honly.pace.trans (hv ▸ rfl))
  · exact (State.modBank_bank_of_ne w b Bank.cleared d hd).trans ((honly.others d hd).trans (hvbank d))
  · refine (State.modBank_bank_self w b Bank.cleared).trans (congrArg Bank.cleared ?_)
    rw [hself, hvwear, hvbank]

end

/-- Settles O53: what a unit's cells read, what its operation leaves, and what a firing's slot becomes. -/
theorem clearEndLeavesBlank : Obligations.ClearEndLeavesBlank := by
  refine ⟨fun s b c o hok htime hclear hstate hpurpose hheld hboundary hop => ?_,
    fun s b c htime hqual hbrown hclear hstate hpurpose hin hstage => ⟨?_, fun u hu _ hutime => ?_⟩,
    fun s b c o k hok htime hqual hbrown hclear hstate hpurpose hunit hin hverified hpulse hop hwp hgap hwear => ?_⟩
  · have hid := State.op?_id hop
    have hexec : ∀ ok, c.over = some ok → exec (.clearUnitEnd b) s = .next ((s.endUnit b c ok).atStage orderEnds) := by
      intro ok hover
      refine (State.onStep_onTime htime _).trans (congrArg (fun t : State => Host.Outcome.next (t.atStage orderEnds)) ?_)
      rw [hclear]
      dsimp only
      rw [if_neg (by simp [hpurpose, hheld, hboundary, hstate]), hover]
    refine ⟨fun hverified hpulse => ?_, fun hbad hmax => ?_⟩
    · have hover : c.over = some true := by
        unfold ClearRun.over
        rw [hverified, hpulse]
        rfl
      obtain ⟨hdone, w, v, hdbank⟩ := State.unitDone_good (s := s) (b := b) c
      obtain ⟨hsince, n, hsbank⟩ := State.countSince_only (s := s.unitDone b c true) (b := b) o
      have honly := hdone.trans hsince
      obtain ⟨hothers, hfails, hlast⟩ := State.unitGood_leaves (s := (s.unitDone b c true).countSince b o) (b := b) (c := c) (o := o)
        (z := s) ((congrArg (fun l : Ledger => l.findOp o.id) honly.ledger).trans (hid ▸ hop)) hid
        (congrArg (fun x : Pace => x.devtime.extractLsb' 20 32) honly.pace)
      have hmem := s.endUnit_mem b c true
      have hgood := State.endUnit_good (b := b) hpurpose hop
      rw [← hgood] at hothers hfails hlast
      refine ⟨_, hexec true hover, ⟨fun a ha => ?_, fun k hk => (hothers k hk).trans (honly.others k hk)⟩, fun n hlo hhi => ?_, ?_, hlast⟩
      · exact (congrArg (fun m => Memory.read m a) hmem).trans (State.unitMem_outside c true a ha)
      · exact (congrArg (fun m => readCells m n) hmem).trans (State.unitMem_blank c hlo hhi)
      · refine hfails.trans ?_
        rw [hsbank, hdbank]
    · have hover : c.over = some false := by
        unfold ClearRun.over
        rw [if_neg, if_pos hmax]
        rcases hbad with hv | hp
        · simp [hv]
        · simp [Option.isSome_iff_ne_none.1 hp]
      obtain ⟨hdone, hdbank⟩ := State.unitDone_bad (s := s) (b := b) c
      obtain ⟨hfailed, r, n, w, v, hfbank⟩ := State.clearFailed_only (s := s.unitDone b c false) (b := b) c
      have honly := hdone.trans hfailed
      obtain ⟨hends, hself, hothers⟩ := State.endClear_leaves (s := (s.unitDone b c false).clearFailed b c) (b := b) (c := c) (o := o)
        (z := s) ((congrArg (fun l : Ledger => l.findOp c.op) honly.ledger).trans hop) rfl rfl hid
        (congrArg (fun x : Pace => x.devtime.extractLsb' 20 32) honly.pace) rClearFail
      have hmem := s.endUnit_mem b c false
      have hgood := State.endUnit_bad (b := b) hpurpose hop
      rw [hfbank, hdbank] at hself
      rw [← hgood] at hends hself hothers
      refine ⟨_, hexec false hover, ⟨fun a ha => ?_, fun k hk => (hothers k hk).trans (honly.others k hk)⟩, hends, ?_, ?_, ?_⟩
      · exact (congrArg (fun m => Memory.read m a) hmem).trans (State.unitMem_outside c false a ha)
      · exact congrArg Bank.state hself
      · exact congrArg Bank.clear hself
      · exact congrArg Bank.clearfails hself
  · obtain ⟨tr, htr⟩ := s.tracePulses_frame (b := b) c
    have hexec : exec (.firingStageEnd b) s = .next ((({ s with trace := tr } : State).modBank b (fun k => { k with clear := some { c with
        inClear := true, verified := false, time := 0, pulses := 0, pulse := none, stretch := 100 } })).atStage orderEnds) := by
      refine (State.onStep_onTime htime _).trans (congrArg (fun t : State => Host.Outcome.next (t.atStage orderEnds)) ?_)
      rw [if_neg (by simp [hqual, hbrown]), hclear]
      dsimp only
      rw [if_neg (by simp [hpurpose, hstate]), hin, Bool.not_false, if_pos rfl, if_pos hstage, htr]
    have hself := State.modBank_bank_self { s with trace := tr } b (fun k => { k with clear := some { c with
        inClear := true, verified := false, time := 0, pulses := 0, pulse := none, stretch := 100 } })
    refine ⟨_, hexec, ⟨_, congrArg Bank.clear hself, rfl, rfl, rfl, rfl, rfl⟩, (congrArg Bank.state hself).trans hstate,
      fun k hk => State.modBank_bank_of_ne { s with trace := tr } b (fun k => { k with clear := some { c with
        inClear := true, verified := false, time := 0, pulses := 0, pulse := none, stretch := 100 } }) k hk, rfl, rfl⟩
  · refine (State.onStep_onTime hutime _).trans (congrArg (fun t : State => Host.Outcome.next (t.atStage orderEnds)) ?_)
    rw [hu]
    rfl
  · have hid := State.op?_id hop
    have hslot : c.slot = k := by
      unfold ClearRun.slot
      rw [hunit]
    have hover : c.over = some true := by
      unfold ClearRun.over
      rw [hverified, hpulse]
      rfl
    obtain ⟨hmem, htouched, ⟨y, hyop, hyorigin, hysub⟩, hstamp, hpins, hothers, l, hself⟩ := State.fired_leaves (b := b) hunit hop
    have hwearOf : (s.fired b c).wearOf b k = (0, (s.wearOf b k).2 + 1) := State.wearOf_of_wear (by rw [hself]; rfl)
    obtain ⟨hends, hfmem, hftouched, ⟨r, n, w, hfbank, hreserve⟩, hfothers⟩ := State.firedState_leaves (s := s.fired b c) (b := b) (k := k)
      (z := s) (o := o) hyop hyorigin hysub hid hstamp (by rw [hwearOf]; exact hwear) (by rw [hself]; exact hgap)
    have hexec : exec (.firingStageEnd b) s = .next (((s.fired b c).firedState b c.op k true).atStage orderEnds) := by
      refine (State.onStep_onTime htime _).trans (congrArg (fun t : State => Host.Outcome.next (t.atStage orderEnds)) ?_)
      rw [if_neg (by simp [hqual, hbrown]), hclear]
      dsimp only
      rw [if_neg (by simp [hpurpose, hstate]), hin, Bool.not_true, if_neg Bool.false_ne_true, hover]
      unfold State.endFiring
      dsimp only
      rw [hslot]
      exact if_pos ((congrArg Pins.wp hpins).trans hwp)
    rw [hself] at hfbank
    have hcells := hfmem.trans hmem
    refine ⟨_, hexec, hends, fun a ha => ?_, fun n hlo hhi => ?_, congrArg Bank.state hfbank, congrArg Bank.clear hfbank, ?_, ?_, ?_, ?_,
      fun d hd => (hfothers d hd).trans (hothers d hd)⟩
    · exact (congrArg (fun m => Memory.read m a) hcells).trans ((blankUnit_cells s b c.unit).read a (by omega))
    · exact (congrArg (fun m => readCells m n) hcells).trans ((readCells_blankStones s.mem _ _ n).trans (if_pos ⟨hlo, hhi⟩))
    · exact (congrArg (fun x : Bank => x.kept.slotState b k) hfbank).trans hreserve
    · exact congrArg Bank.swaps hfbank
    · exact State.wearOf_of_wear (l := l) (congrArg Bank.wear hfbank)
    · have hrange : (c.unit.range b).1 < (c.unit.range b).2 := by
        rw [hunit]
        exact Nat.lt_add_of_pos_right (by decide)
      have hread : readCells ((s.fired b c).firedState b c.op k true).mem (c.unit.range b).1 = cellsBlank := by
        rw [hcells]
        exact (readCells_blankStones s.mem _ _ _).trans (if_pos ⟨le_refl _, hrange⟩)
      have hopen : ((s.fired b c).firedState b c.op k true).touched.contains (c.unit.range b).1 = false := by
        rw [hftouched, htouched, Bool.eq_false_iff]
        intro hcon
        have := (List.mem_filter.1 (List.contains_iff_mem.1 hcon)).2
        simp [hrange] at this
      exact Bool.and_eq_true_iff.2 ⟨beq_iff_eq.2 hread, (congrArg not hopen).trans rfl⟩

end Sys2Proof.Machine
end

section
/-! PROOFS. Polls, losses, time-outs, mode faults and manual control of the annexes (R494 to R496, R501 to R503, R509, R512, R513). -/
namespace Sys2Proof.Machine

section
variable {s t u z : State} {a : AnnexId} {p : PartnerId} {o : Op}

/-! ### Annexes and partners after an update -/

theorem State.modAnx_modAnx (f g : Annex → Annex) : (s.modAnx a f).modAnx a g = s.modAnx a (fun x => g (f x)) := by
  unfold State.modAnx State.anx
  simp only [Vector.getElem_set_self, Vector.set_set]

theorem State.modPartner_partner_self (f : Partner → Partner) : (s.modPartner a p f).partner a p = f (s.partner a p) := by
  unfold State.modPartner State.partner
  rw [State.modAnx_anx_self]
  exact Vector.getElem_set_self ..

theorem State.modPartner_partner_of_ne (f : Partner → Partner) {b : AnnexId} {q : PartnerId} (h : b = a → q ≠ p) :
    (s.modPartner a p f).partner b q = s.partner b q := by
  unfold State.modPartner State.partner
  by_cases hb : b = a
  · subst hb
    rw [State.modAnx_anx_self]
    exact Vector.getElem_set_ne p.isLt q.isLt fun hqp => h rfl (Fin.ext hqp.symm)
  · rw [State.modAnx_anx_of_ne _ a _ b hb]

/-- Where the addresses of a window lead. -/
def Partner.map (q : Partner) : Bool × BitVec 5 × BitVec 13 := (q.en, q.size, q.base)

/-- What is counted of a partner, its fence and its last result. -/
def Partner.tally (q : Partner) : Bool × BitVec 16 × BitVec 16 × Byte := (q.fenced, q.losts, q.timeouts, q.lastres)

theorem Partner.holds_of_map {q r : Partner} (h : q.map = r.map) (x : BitVec 32) : q.holds x = r.holds x := by
  obtain ⟨hen, hrest⟩ := Prod.mk.inj h
  obtain ⟨hsize, hbase⟩ := Prod.mk.inj hrest
  unfold Partner.holds
  rw [hen, hsize, hbase]

/-- The map decides which partner an address names. -/
theorem State.partnerAt_of_maps (h : ∀ (b : AnnexId) (q : PartnerId), (t.partner b q).map = (s.partner b q).map) (x : BitVec 32) :
    t.partnerAt x = s.partnerAt x := by
  have howner : ∀ n : AnnexId, (t.anx n).owner x = (s.anx n).owner x := fun n =>
    List.find?_congr fun q _ => Partner.holds_of_map (h n q) x
  unfold State.partnerAt
  split
  · rw [howner]
  · rfl

theorem State.partnerAt_bind_of_maps (h : ∀ (b : AnnexId) (q : PartnerId), (t.partner b q).map = (s.partner b q).map)
    (w : Option (BitVec 32)) : w.bind t.partnerAt = w.bind s.partnerAt :=
  congrArg (Option.bind w) (funext fun x => State.partnerAt_of_maps h x)

theorem State.partnerOf_of_bind (h : o.windowAddr.bind s.partnerAt = some (a, p)) : s.partnerOf o = some (a, p) := by
  unfold State.partnerOf
  cases hw : o.windowAddr with
  | none =>
    rw [hw] at h
    exact nomatch h
  | some x =>
    rw [hw] at h
    dsimp only
    rw [show s.partnerAt x = some (a, p) from h]

/-- What each partner keeps through a change of one. -/
theorem State.modPartner_keeps {α : Type} (v : Partner → α) {f : Partner → Partner} (hf : v (f (s.partner a p)) = v (s.partner a p))
    (b : AnnexId) (q : PartnerId) : v ((s.modPartner a p f).partner b q) = v (s.partner b q) := by
  by_cases h : b = a ∧ q = p
  · obtain ⟨rfl, rfl⟩ := h
    rw [State.modPartner_partner_self, hf]
  · rw [State.modPartner_partner_of_ne f fun hb hq => h ⟨hb, hq⟩]

theorem State.modPartner_stream (f : Partner → Partner) (b : AnnexId) : ((s.modPartner a p f).anx b).stream = (s.anx b).stream := by
  unfold State.modPartner
  by_cases hb : b = a
  · subst hb
    rw [State.modAnx_anx_self]
  · rw [State.modAnx_anx_of_ne _ a _ b hb]

/-! ### The end of a window operation -/

/-- What the release of a partner and its last result leave. -/
theorem State.freeWindow_leaves (hap : o.windowAddr.bind s.partnerAt = some (a, p)) (r : Byte) :
    ∃ t : State, s.freeWindow o r = t ∧ (∃ an, t = { s with annex := an }) ∧ (t.partner a p).fenced = (s.partner a p).fenced
      ∧ (t.partner a p).losts = (s.partner a p).losts ∧ (t.partner a p).timeouts = (s.partner a p).timeouts
      ∧ (t.partner a p).lastres = r ∧ (t.anx a).stream = (s.anx a).stream
      ∧ ((s.partner a p).owner = some o.id → (t.partner a p).owner = none ∧ (t.partner a p).inFlight = false) := by
  have hlast := State.modPartner_partner_self (s := s) (a := a) (p := p) (fun q => { q with lastres := r })
  have hstream := State.modPartner_stream (s := s) (a := a) (p := p) (fun q => { q with lastres := r }) a
  have hfree : ∀ (b : AnnexId) (q : PartnerId),
      (((s.lastResult a p r).freePartner b q).partner a p).tally = ((s.lastResult a p r).partner a p).tally := fun b q =>
    State.modPartner_keeps Partner.tally rfl a p
  have hfreestream : ∀ (b : AnnexId) (q : PartnerId), (((s.lastResult a p r).freePartner b q).anx a).stream = (s.anx a).stream :=
    fun b q => (State.modPartner_stream _ a).trans hstream
  have htally : ((s.lastResult a p r).partner a p).tally =
      ((s.partner a p).fenced, (s.partner a p).losts, (s.partner a p).timeouts, r) := by
    rw [State.lastResult, hlast]
    rfl
  have hwindow : s.freeWindow o r =
      if (s.partner a p).owner = some o.id then (s.lastResult a p r).freePartner a p else (s.lastResult a p r).freeOwned o.id := by
    unfold State.freeWindow
    rw [State.partnerOf_of_bind hap]
  have hsplit : ∀ q : Partner, q.tally = ((s.partner a p).fenced, (s.partner a p).losts, (s.partner a p).timeouts, r) →
      q.fenced = (s.partner a p).fenced ∧ q.losts = (s.partner a p).losts ∧ q.timeouts = (s.partner a p).timeouts ∧ q.lastres = r := by
    intro q hq
    obtain ⟨h1, hq⟩ := Prod.mk.inj hq
    obtain ⟨h2, hq⟩ := Prod.mk.inj hq
    obtain ⟨h3, h4⟩ := Prod.mk.inj hq
    exact ⟨h1, h2, h3, h4⟩
  rw [hwindow]
  split
  · next howner =>
    obtain ⟨h1, h2, h3, h4⟩ := hsplit _ ((hfree a p).trans htally)
    have hself := State.modPartner_partner_self (s := s.lastResult a p r) (a := a) (p := p)
      (fun q => { q with owner := none, inFlight := false, sentTicks := 0, ffPolls := 0 })
    refine ⟨_, rfl, ⟨_, rfl⟩, h1, h2, h3, h4, hfreestream a p, fun _ => ⟨?_, ?_⟩⟩
    · exact congrArg Partner.owner hself
    · exact congrArg Partner.inFlight hself
  · next howner =>
    unfold State.freeOwned
    split
    · next q _ =>
      obtain ⟨h1, h2, h3, h4⟩ := hsplit _ ((hfree q.1 q.2).trans htally)
      exact ⟨_, rfl, ⟨_, rfl⟩, h1, h2, h3, h4, hfreestream q.1 q.2, fun h => absurd h howner⟩
    · obtain ⟨h1, h2, h3, h4⟩ := hsplit _ htally
      exact ⟨_, rfl, ⟨_, rfl⟩, h1, h2, h3, h4, hstream, fun h => absurd h howner⟩

/-- What the end of a window operation leaves. -/
theorem State.endWindow_leaves {x y : Op} (hap : x.windowAddr.bind s.partnerAt = some (a, p)) (hop : s.op? x.id = some y)
    (horigin : y.origin = o.origin) (hsub : y.sub = o.sub) (hid : o.id = x.id) (hstamp : s.stamp = z.stamp) (r : Byte) :
    let t := s.endWindow x r
    z.ends t o r y.units.toNat ∧ t.mem = s.mem ∧ (t.partner a p).fenced = (s.partner a p).fenced
    ∧ (t.partner a p).losts = (s.partner a p).losts ∧ (t.partner a p).timeouts = (s.partner a p).timeouts
    ∧ (t.partner a p).lastres = r ∧ (t.anx a).stream = (s.anx a).stream
    ∧ ((s.partner a p).owner = some o.id → (t.partner a p).owner = none ∧ (t.partner a p).inFlight = false)
    ∧ ∀ w ∈ t.ledger.ops, w.id = o.id → ∃ v ∈ s.ledger.ops, v.id = o.id ∧ w.uncertain = v.uncertain := by
  obtain ⟨u, hu, ⟨an, hframe⟩, hfenced, hlosts, htimeouts, hlast, hstream, hfree⟩ := State.freeWindow_leaves hap r
  have huop : u.op? x.id = some y := by
    rw [hframe]
    exact hop
  have hustamp : u.stamp = z.stamp := by
    rw [hframe]
    exact hstamp
  have hops : u.ledger.ops = s.ledger.ops := by rw [hframe]
  have humem : u.mem = s.mem := by rw [hframe]
  obtain ⟨po, le, su, pw, tr, gl, hdone⟩ := State.completeWith_moves u true x.id r
  have hall := State.completeWith_done huop true r
  have hends : z.ends (State.completeWith true u x.id r) o r y.units.toNat := by
    rw [← hid] at huop ⊢
    exact State.ends_completeWith huop horigin hsub hustamp true r
  have hend : s.endWindow x r = State.completeWith true u x.id r := by
    rw [State.endWindow, hu]
    rfl
  have hannex : (State.completeWith true u x.id r).annex = u.annex := by rw [hdone]
  have hanx : ∀ b : AnnexId, (State.completeWith true u x.id r).anx b = u.anx b := fun b => by rw [State.anx, hannex]; rfl
  have hpartner : (State.completeWith true u x.id r).partner a p = u.partner a p := by rw [State.partner, hanx]; rfl
  dsimp only
  rw [hend]
  refine ⟨hends, ?_, ?_, ?_, ?_, ?_, ?_, fun howner => ?_, fun w hw hwi => ?_⟩
  · rw [hdone]
    exact humem
  · rw [hpartner, hfenced]
  · rw [hpartner, hlosts]
  · rw [hpartner, htimeouts]
  · rw [hpartner, hlast]
  · rw [hanx, hstream]
  · rw [hpartner]
    exact hfree (hid ▸ howner)
  · obtain ⟨-, -, v, hv, hvi, -, hunc⟩ := hall w hw (hwi.trans hid)
    rw [hops] at hv
    exact ⟨v, hv, hvi.trans hid.symm, hunc⟩

/-! ### Polls -/

theorem Annex.endRead_fields (x : Annex) : x.endRead.stream = none ∧ x.endRead.sent = x.sent ∧ x.endRead.turn = x.turn
    ∧ x.endRead.partners = x.partners := by
  unfold Annex.endRead
  split
  · exact ⟨rfl, rfl, rfl, rfl⟩
  · next h => exact ⟨h, rfl, rfl, rfl⟩

theorem Annex.exchange_fields (x : Annex) (e : Exchange) : (x.exchange e).stream = none ∧ (x.exchange e).sent = x.sent ++ [e]
    ∧ (x.exchange e).turn = x.turn ∧ (x.exchange e).partners = x.partners := by
  obtain ⟨hstream, hsent, hturn, hpartners⟩ := x.endRead_fields
  exact ⟨hstream, congrArg (· ++ [e]) hsent, hturn, hpartners⟩

/-- A poll of partner `p` goes out (R494). -/
def State.pollSent (s : State) (a : AnnexId) (p : PartnerId) : State :=
  ((s.modPartner a p (fun x => { x with polled := true })).modAnx a (fun x => { x with turn := p.val })).send a
    ((s.partner a p).command p [(s.anx a).rdsrOp] 1)

theorem State.pollSent_leaves (s : State) (a : AnnexId) (p : PartnerId) :
    (∃ an, s.pollSent a p = { s with annex := an }) ∧ (s.pollSent a p).partner a p = { s.partner a p with polled := true }
    ∧ (∀ (b : AnnexId) (q : PartnerId), ((s.pollSent a p).partner b q).map = (s.partner b q).map)
    ∧ ((s.pollSent a p).anx a).sent = (s.anx a).sent ++ [(s.partner a p).command p [(s.anx a).rdsrOp] 1]
    ∧ ((s.pollSent a p).anx a).stream = none ∧ ((s.pollSent a p).anx a).turn = p.val
    ∧ (∀ b : AnnexId, b ≠ a → (s.pollSent a p).anx b = s.anx b)
    ∧ ∀ q : PartnerId, q ≠ p → (s.pollSent a p).partner a q = s.partner a q := by
  generalize he : (s.partner a p).command p [(s.anx a).rdsrOp] 1 = e
  generalize hx : ({ s.anx a with
    partners := (s.anx a).partners.set p.val ({ s.partner a p with polled := true } : Partner), turn := p.val } : Annex) = x
  obtain ⟨hstream, hsent, hturn, hpartners⟩ := x.exchange_fields e
  have hset : x.partners = (s.anx a).partners.set p.val ({ s.partner a p with polled := true } : Partner) := by rw [← hx]
  rw [hset] at hpartners
  have hpoll : s.pollSent a p = s.modAnx a (fun _ => x.exchange e) := by
    rw [State.pollSent, he, State.modPartner, State.send, State.modAnx_modAnx, State.modAnx_modAnx, ← hx]
    rfl
  have hanx : (s.pollSent a p).anx a = x.exchange e := by rw [hpoll, State.modAnx_anx_self]
  have hothers : ∀ b : AnnexId, b ≠ a → (s.pollSent a p).anx b = s.anx b := fun b hb => by
    rw [hpoll, State.modAnx_anx_of_ne _ a _ b hb]
  have hself : (s.pollSent a p).partner a p = { s.partner a p with polled := true } := by
    rw [State.partner, hanx]
    simp only [hpartners]
    exact Vector.getElem_set_self ..
  have hne : ∀ q : PartnerId, q ≠ p → (s.pollSent a p).partner a q = s.partner a q := fun q hq => by
    rw [State.partner, hanx]
    simp only [hpartners]
    exact Vector.getElem_set_ne p.isLt q.isLt fun h => hq (Fin.ext h.symm)
  refine ⟨⟨_, hpoll⟩, hself, fun b q => ?_, ?_, ?_, ?_, hothers, hne⟩
  · by_cases hb : b = a
    · subst hb
      by_cases hq : q = p
      · subst hq
        rw [hself]
        rfl
      · rw [hne q hq]
    · rw [State.partner, hothers b hb]
      rfl
  · rw [hanx, hsent, ← hx]
  · rw [hanx, hstream]
  · rw [hanx, hturn, ← hx]

/-- A poll that finds the partner busy (R494). -/
theorem State.pollBusy_leaves (s : State) (a : AnnexId) (p : PartnerId) :
    ∃ u : State, (s.pollSent a p).modPartner a p (fun x => { x with ffPolls := 0 }) = u ∧ (∃ an, u = { s with annex := an })
    ∧ u.partner a p = { s.partner a p with polled := true, ffPolls := 0 }
    ∧ (u.anx a).sent = (s.anx a).sent ++ [(s.partner a p).command p [(s.anx a).rdsrOp] 1]
    ∧ (u.anx a).stream = none ∧ (u.anx a).turn = p.val ∧ (∀ b : AnnexId, b ≠ a → u.anx b = s.anx b)
    ∧ ∀ q : PartnerId, q ≠ p → u.partner a q = s.partner a q := by
  obtain ⟨⟨an, hframe⟩, hself, -, hsent, hstream, hturned, hothers, hne⟩ := s.pollSent_leaves a p
  generalize s.pollSent a p = v at *
  have hanx : (v.modPartner a p (fun x => { x with ffPolls := 0 })).anx a = { v.anx a with
      partners := (v.anx a).partners.set p.val { (v.anx a).partners[p.val] with ffPolls := 0 } } := State.modAnx_anx_self v a _
  refine ⟨_, rfl, ⟨(v.modPartner a p (fun x => { x with ffPolls := 0 })).annex, ?_⟩, ?_, ?_, ?_, ?_, fun b hb => ?_, fun q hq => ?_⟩
  · rw [hframe]
    rfl
  · rw [State.modPartner_partner_self, hself]
  · rw [hanx]
    exact hsent
  · rw [hanx]
    exact hstream
  · rw [hanx]
    exact hturned
  · exact (State.modAnx_anx_of_ne v a _ b hb).trans (hothers b hb)
  · exact (State.modPartner_partner_of_ne _ fun _ => hq).trans (hne q hq)

/-- The poll's answer, once it has gone out. -/
theorem exec_poll {sr : Byte} {rx : List Byte} {id : Nat} (htime : s.onTime orderEnds = true) (howner : (s.partner a p).owner = some id)
    (hop : s.op? id = some o) (hflight : (s.partner a p).inFlight = true) (hcrossed : s.pace.crossed ≠ 0)
    (hpolled : (s.partner a p).polled = false) (htyp : (s.partner a p).typTicks ≤ (s.partner a p).sentTicks)
    (hyielded : (s.anx a).yielded = false) (hturn : (s.anx a).turn ≤ p.val) :
    exec (.poll a p sr rx) s = .next ((if sr = 0xFF then
        (if 1 ≤ (s.partner a p).ffPolls then (s.pollSent a p).loseOp o false
         else (s.pollSent a p).modPartner a p (fun x => { x with ffPolls := x.ffPolls + 1 }))
      else if sr.getLsbD 0 then (s.pollSent a p).modPartner a p (fun x => { x with ffPolls := 0 })
      else if (s.partner a p).erasing then
        ((s.pollSent a p).modPartner a p (fun x => { x with inFlight := false, ffPolls := 0 })).eraseConfirmed o (a, p) rx
      else ((s.pollSent a p).modPartner a p (fun x => { x with inFlight := false, ffPolls := 0 })).pageConfirmed o (a, p) rx).atStage
        orderEnds) := by
  refine (State.onStep_onTime htime _).trans (congrArg (fun t : State => Host.Outcome.next (t.atStage orderEnds)) ?_)
  have hbind : (s.partner a p).owner.bind s.op? = some o := by
    rw [howner]
    exact hop
  rw [hbind]
  dsimp only
  rw [if_neg]
  · rfl
  · simp only [hflight, hcrossed, hpolled, hyielded, Bool.not_true, Bool.false_or, Bool.or_false, decide_false, Bool.or_eq_true,
      decide_eq_true_eq]
    omega

/-- A lost partner ends its operation (R502). -/
theorem State.loseOp_leaves (hap : o.windowAddr.bind s.partnerAt = some (a, p)) (hop : s.op? o.id = some o) (hstamp : s.stamp = z.stamp)
    (howner : (s.partner a p).owner = some o.id) (hflight : (s.partner a p).inFlight = true) :
    let t := s.loseOp o false
    z.ends t o rLost o.units.toNat ∧ t.mem = s.mem ∧ (t.partner a p).fenced = true
    ∧ (t.partner a p).losts = (s.partner a p).losts + 1 ∧ (t.partner a p).owner = none ∧ (t.partner a p).lastres = rLost
    ∧ ∀ x ∈ t.ledger.ops, x.id = o.id → x.uncertain = true := by
  generalize hv : s.losePartner a p false = v
  have hself : v.partner a p = { s.partner a p with losts := (s.partner a p).losts + 1, fenced := true, lastres := rLost } := by
    rw [← hv, State.losePartner, State.lastResult, State.modPartner_partner_self, State.modPartner_partner_self]
    simp only [Bool.not_false, Bool.or_true]
  have hmaps : ∀ (b : AnnexId) (q : PartnerId), (v.partner b q).map = (s.partner b q).map := fun b q => by
    rw [← hv]
    exact (State.modPartner_keeps Partner.map rfl b q).trans (State.modPartner_keeps Partner.map rfl b q)
  have hlose : s.loseOp o false = (v.modOp o.id (fun x => { x with uncertain := true })).endWindow o rLost := by
    unfold State.loseOp
    rw [State.partnerOf_of_bind hap]
    dsimp only
    rw [hv, howner, hflight, if_pos (by simp)]
  have hvop : (v.modOp o.id (fun x => { x with uncertain := true })).op? o.id = some { o with uncertain := true } :=
    State.op?_modOp_of_op? (f := fun x => { x with uncertain := true }) (fun _ => rfl) (hv ▸ hop)
  have hvap : o.windowAddr.bind (v.modOp o.id (fun x => { x with uncertain := true })).partnerAt = some (a, p) :=
    (State.partnerAt_bind_of_maps (t := v.modOp o.id (fun x => { x with uncertain := true })) hmaps o.windowAddr).trans hap
  have hvstamp : (v.modOp o.id (fun x => { x with uncertain := true })).stamp = z.stamp := by
    rw [← hv]
    exact hstamp
  obtain ⟨hends, hmem, hfenced, hlosts, -, hlast, -, hfree, hunc⟩ := State.endWindow_leaves (o := o) hvap hvop rfl rfl rfl hvstamp rLost
  have hpartner : (v.modOp o.id (fun x => { x with uncertain := true })).partner a p = v.partner a p := rfl
  rw [hpartner, hself] at hfenced hlosts hfree
  dsimp only
  rw [hlose]
  refine ⟨hends, hmem.trans (hv ▸ rfl), hfenced, hlosts, (hfree howner).1, hlast, fun x hx hxi => ?_⟩
  obtain ⟨y, hy, hyi, hxy⟩ := hunc x hx hxi
  obtain ⟨w, -, rfl⟩ := List.mem_map.1 (show y ∈ v.ledger.ops.map _ from hy)
  rw [hxy]
  split at hyi
  · next h => rw [if_pos h]
  · next h => exact absurd (beq_iff_eq.2 hyi) h

/-- A page program that was the last one confirms (R495): the LAY ends. -/
theorem State.pageConfirmed_leaves {rx : List Byte} (hap : o.windowAddr.bind s.partnerAt = some (a, p)) (hop : s.op? o.id = some o)
    (hstamp : s.stamp = z.stamp) (howner : (s.partner a p).owner = some o.id) (hopcode : o.opcode = opLay) (hresult : o.result = 0xFF)
    (hindex : o.index = 0) (hposition : o.position = 0) (hpage : (o.pageBytes (s.partner a p)).length = 8 * o.payload.length) :
    let t := s.pageConfirmed o (a, p) rx
    z.ends t o rDone o.payload.length ∧ (t.partner a p).owner = none ∧ (t.partner a p).inFlight = false
    ∧ (t.partner a p).lastres = rDone ∧ t.mem = s.mem := by
  have hdrain : ∀ u : State, ∃ tr, u.drainYard o = { u with trace := tr } := fun u => by
    unfold State.drainYard
    split
    · exact ⟨_, rfl⟩
    · exact ⟨u.trace, rfl⟩
  generalize hv : s.modOp o.id (fun x => { x with
    index := 8 * o.payload.length, units := BitVec.ofNat 32 (8 * o.payload.length / 8) }) = v
  obtain ⟨tr, htr⟩ := hdrain v
  have hvop : v.op? o.id = some { o with index := 8 * o.payload.length, units := BitVec.ofNat 32 o.payload.length } := by
    rw [← hv, Nat.mul_div_cancel_left _ (by decide)]
    exact State.op?_modOp_of_op? (f := fun x => { x with index := 8 * o.payload.length, units := BitVec.ofNat 32 o.payload.length })
      (fun _ => rfl) hop
  have hend : s.pageConfirmed o (a, p) rx = ({ v with trace := tr } : State).endWindow { o with index := 8 * o.payload.length } rDone := by
    unfold State.pageConfirmed
    dsimp only
    rw [hpage, hindex, hposition, Nat.zero_add, Nat.zero_add, hv, if_neg (Nat.lt_irrefl _), if_neg (by rw [hopcode]; decide), if_pos hresult,
      htr]
  obtain ⟨hends, hmem, -, -, -, hlast, -, hfree, -⟩ := State.endWindow_leaves (s := { v with trace := tr }) (o := o) (z := z) (a := a) (p := p)
    (x := { o with index := 8 * o.payload.length }) (hv ▸ hap) hvop rfl rfl rfl (hv ▸ hstamp) rDone
  obtain ⟨hnone, hflight⟩ := hfree (hv ▸ howner)
  dsimp only
  rw [hend]
  refine ⟨?_, hnone, hflight, hlast, hmem.trans (hv ▸ rfl)⟩
  have hunits : (BitVec.ofNat 32 o.payload.length).toNat = o.payload.length % 2 ^ 32 := BitVec.toNat_ofNat ..
  obtain ⟨hdirect, hrecord⟩ := hends
  rw [hunits] at hdirect hrecord
  refine ⟨fun q hq => ?_, fun hd hs => ?_⟩
  · obtain ⟨h1, h2, h3⟩ := hdirect q hq
    refine ⟨h1, h2.trans (BitVec.eq_of_toNat_eq ?_), h3⟩
    rw [BitVec.toNat_ofNat, BitVec.toNat_ofNat, Nat.mod_mod_of_dvd _ (by decide)]
  · obtain ⟨x, hx, h1, h2, h3, h4, h5, h6⟩ := hrecord hd hs
    refine ⟨x, hx, h1, h2, h3, h4, h5.trans (BitVec.eq_of_toNat_eq ?_), h6⟩
    rw [BitVec.toNat_ofNat, BitVec.toNat_ofNat, Nat.mod_mod]

/-- A partner that is not ready in time is fenced, and its operation ends (R496, R503). -/
theorem State.timeout_leaves (hap : o.windowAddr.bind s.partnerAt = some (a, p)) (hop : s.op? o.id = some o)
    (howner : (s.partner a p).owner = some o.id) :
    let t := s.partnerEnds o (a, p) rTimeout
    s.ends t o rTimeout o.units.toNat ∧ (t.partner a p).fenced = true ∧ (t.partner a p).timeouts = (s.partner a p).timeouts + 1
    ∧ (t.partner a p).owner = none ∧ t.mem = s.mem := by
  generalize hv : s.fencePartner a p rTimeout = v
  have hself : v.partner a p = { s.partner a p with fenced := true, timeouts := (s.partner a p).timeouts + 1, lastres := rTimeout } := by
    rw [← hv, State.fencePartner, State.lastResult, State.modPartner_partner_self, State.modPartner_partner_self]
    rfl
  have hmaps : ∀ (b : AnnexId) (q : PartnerId), (v.partner b q).map = (s.partner b q).map := fun b q => by
    rw [← hv]
    exact (State.modPartner_keeps Partner.map rfl b q).trans (State.modPartner_keeps Partner.map rfl b q)
  have hend : s.partnerEnds o (a, p) rTimeout = v.endWindow o rTimeout := by
    unfold State.partnerEnds
    rw [if_neg (by decide), ← hv]
  obtain ⟨hends, hmem, hfenced, -, htimeouts, -, -, hfree, -⟩ := State.endWindow_leaves (s := v) (o := o) (z := s) (a := a) (p := p) (x := o)
    ((State.partnerAt_bind_of_maps hmaps o.windowAddr).trans hap) (hv ▸ hop) rfl rfl rfl (hv ▸ rfl) rTimeout
  rw [hself] at hfenced htimeouts hfree
  dsimp only
  rw [hend]
  exact ⟨hends, hfenced, htimeouts, (hfree howner).1, hmem.trans (hv ▸ rfl)⟩

/-! ### A read that loses its strobe -/

/-- The gate lets through what an open gate asked for; the operation keeps its epoch. -/
theorem State.passAll_passes {x : BitVec 32} (h : s.gatesPass o false [x] = true) :
    ∃ e : Byte, s.passAll o false [x] = (s.modOp o.id (fun y => { y with epoch := e }), 1, false) ∨ s.passAll o false [x] = (s, 1, false) := by
  unfold State.passAll
  split
  · exact ⟨0, .inr rfl⟩
  · split
    · exact ⟨0, .inr rfl⟩
    · next g hg =>
      unfold State.gatesPass at h
      simp only [List.all_cons, List.all_nil, Bool.and_true] at h
      rw [hg] at h
      obtain ⟨-, hask⟩ := Bool.and_eq_true_iff.1 h
      dsimp only
      rw [Option.isNone_iff_eq_none.1 hask]
      exact ⟨_, .inl rfl⟩

theorem State.gateHolds_of_passes {x : BitVec 32} (h : s.gatesPass o false [x] = true) : s.gateHolds o x = false := by
  unfold State.gatesPass at h
  simp only [List.all_cons, List.all_nil, Bool.and_true] at h
  unfold State.gateHolds State.gateOpenFor
  cases hg : gateOf x with
  | none => simp
  | some g =>
    rw [hg] at h
    obtain ⟨hen, -⟩ := Bool.and_eq_true_iff.1 h
    dsimp only
    rw [hen]
    simp

theorem State.modAnx_of_fixed {f : Annex → Annex} (h : f (s.anx a) = s.anx a) : s.modAnx a f = s := by
  rw [State.modAnx, h, State.anx, Vector.set_getElem_self]

/-- A stone that its gate lets through: the read has passed it, and nothing else has moved (R293, R420). -/
theorem State.gateStone_passes {r : ReadRun} (hop : s.op? o.id = some o) (hwork : o.work = .fetching r) (hopcode : o.opcode = opFetch)
    (h : s.gatesPass o false [o.nextStone] = true) :
    ∃ (t : State) (e : Byte) (q : ReadRun), s.gateStone o r = (t, true) ∧ (∃ ops, t = { s with ledger := { s.ledger with ops := ops } })
      ∧ t.op? o.id = some { o with epoch := e, work := .fetching q } := by
  have hrun : ∀ (u : State) (e : Byte) (q : ReadRun), u.op? o.id = some { o with epoch := e } →
      (u.modOp o.id (fun x => x.withRun q)).op? o.id = some { o with epoch := e, work := .fetching q } := fun u e q hu => by
    rw [State.op?_modOp_of_op? (f := fun x => x.withRun q) (fun x => (Op.withRun_key x q).1) hu]
    exact congrArg some (Op.withRun_fetch (o := { o with epoch := e }) hopcode hwork)
  obtain ⟨e, hpass⟩ := State.passAll_passes h
  obtain ⟨u, hu, ⟨ops, hops⟩, e', huop⟩ : ∃ u : State, s.passAll o false [o.nextStone] = (u, 1, false)
      ∧ (∃ ops, u = { s with ledger := { s.ledger with ops := ops } }) ∧ ∃ e, u.op? o.id = some { o with epoch := e } := by
    rcases hpass with hpass | hpass
    · exact ⟨_, hpass, ⟨_, rfl⟩, e, State.op?_modOp_of_op? (f := fun y => { y with epoch := e }) (fun _ => rfl) hop⟩
    · exact ⟨s, hpass, ⟨_, rfl⟩, o.epoch, hop⟩
  unfold State.gateStone
  rw [State.gateHolds_of_passes h, hu]
  cases hgated : r.gated with
  | true =>
    refine ⟨s, o.epoch, r, if_pos rfl, ⟨_, rfl⟩, ?_⟩
    rw [← hwork]
    exact hop
  | false =>
    rw [if_neg Bool.false_ne_true, if_neg Bool.false_ne_true]
    dsimp only
    rw [if_neg Bool.false_ne_true]
    split
    · exact ⟨_, e', _, rfl, ⟨_, by rw [hops]; rfl⟩, hrun u e' _ huop⟩
    · exact ⟨_, e', _, rfl, ⟨_, by rw [hops]; rfl⟩, hrun u e' _ huop⟩

/-- The state of a read that has lost its partner (R501, R502). -/
def State.strobeLost (s : State) (a : AnnexId) (p : PartnerId) (k : Nat) : State :=
  ((s.modAnx a (fun x => x.readOn p k)).modAnx a Annex.endRead).losePartner a p false

theorem Annex.readOn_partners (x : Annex) (k : Nat) : (x.readOn p k).partners = x.partners := by
  unfold Annex.readOn
  split
  · rfl
  · exact x.endRead_fields.2.2.2

theorem State.strobeLost_leaves (s : State) (a : AnnexId) (p : PartnerId) (k : Nat) :
    (∃ an, s.strobeLost a p k = { s with annex := an }) ∧ ((s.strobeLost a p k).partner a p).fenced = true
    ∧ ((s.strobeLost a p k).partner a p).losts = (s.partner a p).losts + 1
    ∧ (∀ (b : AnnexId) (q : PartnerId), ((s.strobeLost a p k).partner b q).map = (s.partner b q).map)
    ∧ ((s.strobeLost a p k).anx a).stream = none := by
  generalize hv : (s.modAnx a (fun x => x.readOn p k)).modAnx a Annex.endRead = v
  have hanx : v.anx a = ((s.anx a).readOn p k).endRead := by
    rw [← hv, State.modAnx_anx_self, State.modAnx_anx_self]
  obtain ⟨hstream, -, -, hparts⟩ := ((s.anx a).readOn p k).endRead_fields
  have hpartner : ∀ (b : AnnexId) (q : PartnerId), v.partner b q = s.partner b q := fun b q => by
    by_cases hb : b = a
    · subst hb
      rw [State.partner, hanx]
      simp only [hparts, Annex.readOn_partners]
      rfl
    · rw [State.partner, ← hv, State.modAnx_anx_of_ne _ a _ b hb, State.modAnx_anx_of_ne _ a _ b hb]
      rfl
  have hself : (v.losePartner a p false).partner a p =
      { s.partner a p with losts := (s.partner a p).losts + 1, fenced := true, lastres := rLost } := by
    rw [State.losePartner, State.lastResult, State.modPartner_partner_self, State.modPartner_partner_self, hpartner]
    simp only [Bool.not_false, Bool.or_true]
  have hlost : s.strobeLost a p k = v.losePartner a p false := hv ▸ rfl
  rw [hlost]
  refine ⟨⟨(v.losePartner a p false).annex, ?_⟩, ?_, ?_, fun b q => ?_, ?_⟩
  · rw [← hv]
    rfl
  · rw [hself]
  · rw [hself]
  · refine ((State.modPartner_keeps Partner.map rfl b q).trans (State.modPartner_keeps Partner.map rfl b q)).trans ?_
    rw [hpartner]
  · refine ((State.modPartner_stream _ a).trans (State.modPartner_stream _ a)).trans ?_
    rw [hanx, hstream]

theorem Op.nextStone_first (h : o.opcode = opFetch) (hnone : o.fetched = []) : o.nextStone = o.addr := by
  unfold Op.nextStone
  rw [Op.nextStaged_fetch h]
  dsimp only
  rw [if_neg (by rw [h]; decide), hnone]
  exact BitVec.add_zero _

theorem State.readPartner_lost {rx : List Byte} {x : BitVec 32} (hstrobe : (s.partner a p).byStrobe = true) (hrx : rx.length < 8) :
    s.readPartner a p x rx = (s.strobeLost a p ((s.partner a p).addrOf x), none, []) := by
  refine (if_pos ?_).trans rfl
  rw [hstrobe, decide_eq_true hrx]
  rfl

/-- A read by strobe whose first strobe does not come stops with its partner lost (R501). -/
theorem State.windowReads_lost {r : ReadRun} {rx : List Byte} (hop : s.op? o.id = some o) (hwork : o.work = .fetching r)
    (hstate : o.state = .running) (hopcode : o.opcode = opFetch) (hresult : o.result = 0xFF) (hfetched : o.fetched = [])
    (hcount : 1 ≤ o.count.toNat) (hpending : s.life.regPending = false) (hat : s.partnerAt o.addr = some (a, p))
    (hinside : (s.partner a p).inside o.addr = true) (hstrobe : (s.partner a p).byStrobe = true) (hrx : rx.length < 8)
    (hgate : s.gatesPass o false [o.addr] = true) :
    ∃ (w : State) (e : Byte) (q : ReadRun) (ops : List Op), s.windowReads o.id rx 1 = w
      ∧ w.op? o.id = some { o with epoch := e, work := .fetching q, result := rLost }
      ∧ (∃ an, w = { s with ledger := { s.ledger with ops := ops }, annex := an }) ∧ (w.partner a p).fenced = true
      ∧ (w.partner a p).losts = (s.partner a p).losts + 1
      ∧ (∀ (b : AnnexId) (x : PartnerId), (w.partner b x).map = (s.partner b x).map) ∧ (w.anx a).stream = none := by
  have hnext := Op.nextStone_first hopcode hfetched
  have hreads := Op.reads_fetching hwork
  obtain ⟨t, e, q, hstone, ⟨ops, ht⟩, htop⟩ := State.gateStone_passes (r := r) hop hwork hopcode (by rw [hnext]; exact hgate)
  have hpartner : ∀ (b : AnnexId) (x : PartnerId), t.partner b x = s.partner b x := fun b x => by rw [ht]; rfl
  have htat : t.partnerAt o.addr = some (a, p) :=
    (State.partnerAt_of_maps (fun b x => by rw [hpartner]) o.addr).trans hat
  obtain ⟨⟨an, hframe⟩, hfenced, hlosts, hmaps, hstream⟩ := t.strobeLost_leaves a p ((t.partner a p).addrOf o.addr)
  generalize hu : t.strobeLost a p ((t.partner a p).addrOf o.addr) = u at hframe hfenced hlosts hmaps hstream
  have hread : t.readWindowStone o r rx = (u.stopsWith o.id rLost, [], false) := by
    unfold State.readWindowStone
    rw [hnext, htat]
    dsimp only
    rw [hpartner, hinside, Bool.not_true, if_neg Bool.false_ne_true]
    rw [State.readPartner_lost (by rw [hpartner]; exact hstrobe) hrx, hu]
  have hstep : s.windowStep o.id rx = (u.stopsWith o.id rLost, [], false) := by
    have hover : s.readOver o = false := by
      rw [State.readOver_fetch hopcode hresult, hfetched]
      exact decide_eq_false (by simpa using Nat.not_le.2 hcount)
    unfold State.windowStep
    rw [hop]
    dsimp only
    rw [hreads]
    dsimp only
    rw [hstate, hover, if_neg (by decide), State.fetchBarred, hpending, Bool.false_and, Bool.and_false, if_neg Bool.false_ne_true, hstone]
    exact hread
  have huop : u.op? o.id = some { o with epoch := e, work := .fetching q } := by
    rw [hframe]
    exact htop
  have hwop : (u.stopsWith o.id rLost).op? o.id = some { o with epoch := e, work := .fetching q, result := rLost } := by
    unfold State.stopsWith
    rw [State.op?_modOp_of_op? (f := fun x => x.stops rLost) (fun x => (Op.stops_key x rLost).1) huop]
    refine congrArg some ?_
    unfold Op.stops
    rw [Op.nextStaged_fetch (o := { o with epoch := e, work := .fetching q }) hopcode]
  have hpauses : (u.stopsWith o.id rLost).readPauses o.id = u.stopsWith o.id rLost := by
    have hover : (u.stopsWith o.id rLost).readOver { o with epoch := e, work := .fetching q, result := rLost } = true := by
      unfold State.readOver
      rw [Op.nextStaged_fetch (o := { o with epoch := e, work := .fetching q, result := rLost }) hopcode]
      rfl
    have hstopat : (u.stopsWith o.id rLost).partnerAt o.addr = some (a, p) :=
      (State.partnerAt_of_maps (t := u.stopsWith o.id rLost) (fun b x => (hmaps b x).trans (congrArg Partner.map (hpartner b x))) o.addr).trans hat
    have hfixed : ∀ k : Nat, ((u.stopsWith o.id rLost).anx a).stopRead p k = (u.stopsWith o.id rLost).anx a := fun k =>
      if_neg (by rw [show ((u.stopsWith o.id rLost).anx a).stream = none from hstream]; exact nofun)
    unfold State.readPauses
    rw [hwop]
    dsimp only
    rw [Op.reads_fetching (o := { o with epoch := e, work := .fetching q, result := rLost }) rfl]
    dsimp only
    rw [hover, Bool.true_or, if_pos rfl, Op.nextStone_first (o := { o with epoch := e, work := .fetching q, result := rLost }) hopcode hfetched]
    unfold State.stopRead
    rw [hstopat]
    exact State.modAnx_of_fixed (hfixed _)
  have hwindow : s.windowReads o.id rx 1 = u.stopsWith o.id rLost := by
    unfold State.windowReads
    rw [hstep]
    exact hpauses
  refine ⟨_, e, q, (u.stopsWith o.id rLost).ledger.ops, hwindow, hwop, ⟨an, ?_⟩, hfenced, ?_, fun b x => (hmaps b x).trans (congrArg Partner.map (hpartner b x)), hstream⟩
  · rw [State.stopsWith, hframe, ht]
    rfl
  · exact hlosts.trans (congrArg (fun x : Partner => x.losts + 1) (hpartner a p))

end

/-- R501, R502: a read by strobe without its first strobe loses its partner. -/
theorem exec_strobeMissing {s : State} {a : AnnexId} {p : PartnerId} {rx : List Byte} {o : Op} {r : ReadRun}
    (htime : s.onTime orderEnds = true) (hstrobe : (s.partner a p).byStrobe = true) (hops : s.ledger.ops = [o]) (hopcode : o.opcode = opFetch)
    (hstate : o.state = .running) (hwork : o.work = .fetching r) (hfetched : o.fetched = []) (hdirect : o.isDirect = false)
    (hresult : o.result = 0xFF) (hcount : 1 ≤ o.count.toNat) (hat : s.partnerAt o.addr = some (a, p))
    (hinside : (s.partner a p).inside o.addr = true) (hpending : s.life.regPending = false) (hturn : (s.anx a).turn ≤ 4 + p.val)
    (hmanual : (s.anx a).manual = false) (hrx : rx.length < 8) (hgate : s.gatesPass o false [o.addr] = true) :
    ∃ t, exec (.rdsEdgeMissing a p rx) s = .next (t.atStage orderEnds) ∧ s.ends t o rLost o.units.toNat
      ∧ (t.partner a p).fenced = true ∧ (t.partner a p).losts = (s.partner a p).losts + 1 ∧ (t.partner a p).lastres = rLost
      ∧ (t.anx a).stream = none ∧ t.mem = s.mem := by
  generalize hv : s.takesTurn (a, p) = v
  have hvpartner : ∀ (b : AnnexId) (q : PartnerId), v.partner b q = s.partner b q := fun b q => by
    by_cases hb : b = a
    · subst hb
      rw [State.partner, ← hv, State.takesTurn, State.modAnx_anx_self]
      rfl
    · rw [State.partner, ← hv, State.takesTurn, State.modAnx_anx_of_ne _ a _ b hb]
      rfl
  have hvop : v.op? o.id = some o := by
    rw [← hv]
    show s.ledger.ops.find? _ = _
    rw [hops]
    exact List.find?_cons_of_pos (beq_self_eq_true o.id)
  have hvat : v.partnerAt o.addr = some (a, p) := (State.partnerAt_of_maps (fun b q => by rw [hvpartner]) o.addr).trans hat
  obtain ⟨w, e, q, ops, hw, hwop, ⟨an, hframe⟩, hfenced, hlosts, hmaps, hstream⟩ := State.windowReads_lost (s := v) (a := a) (p := p) hvop hwork
    hstate hopcode hresult hfetched hcount (hv ▸ hpending) hvat (by rw [hvpartner]; exact hinside) (by rw [hvpartner]; exact hstrobe) hrx
    (hv ▸ hgate)
  generalize hy : ({ o with epoch := e, work := .fetching q, result := rLost } : Op) = y at hwop
  have hyopcode : y.opcode = opFetch := hy ▸ hopcode
  have hyid : y.id = o.id := hy ▸ rfl
  have hyover : (y.state == .running && w.readOver y) = true := by
    rw [show y.state = .running from hy ▸ hstate, State.readOver, Op.nextStaged_fetch hyopcode]
    dsimp only
    rw [show y.result = rLost from hy ▸ rfl]
    rfl
  have hwindow : (windowOf o.addr).isSome = true := by
    unfold State.partnerAt at hat
    split at hat
    · next n hn => rw [hn]; rfl
    · exact nomatch hat
  have hbank : y.bankOf = none := by
    have hnone : bankOfAddr o.addr = none := by
      unfold windowOf at hwindow
      unfold bankOfAddr
      cases hregion : regionOf o.addr with
      | window n => rfl
      | main => rw [hregion] at hwindow; exact nomatch hwindow
      | marks => rw [hregion] at hwindow; exact nomatch hwindow
      | info => rw [hregion] at hwindow; exact nomatch hwindow
      | unmapped => rfl
    unfold Op.bankOf
    rw [show y.isDirect = false from hy ▸ hdirect, if_neg Bool.false_ne_true, show y.addr = o.addr from hy ▸ rfl, hnone]
    exact ite_self _
  have hyaddr : y.windowAddr = some o.addr := by
    rw [← hy]
    unfold Op.windowAddr
    dsimp only
    rw [hwindow, hopcode]
    rfl
  have hend : w.fetchOver o.id = w.endWindow y rLost := by
    unfold State.fetchOver
    rw [hwop]
    dsimp only
    rw [hyover, if_pos rfl]
    unfold State.endFetch
    rw [hbank]
    dsimp only
    rw [show y.fetched = [] from hy ▸ hfetched, show y.result = rLost from hy ▸ rfl]
    rfl
  have hexec : exec (.rdsEdgeMissing a p rx) s = .next ((w.fetchOver o.id).atStage orderEnds) := by
    have hfetch : s.fetchAt (a, p) = some o := by
      unfold State.fetchAt
      rw [hops]
      refine List.find?_cons_of_pos ?_
      rw [Op.nextStone_first hopcode hfetched, hat, hopcode, hstate, hdirect]
      simp
    have hopen : s.turnOpen (a, p) = true := by
      unfold State.turnOpen
      rw [hmanual, decide_eq_true hturn]
      rfl
    refine (State.onStep_onTime htime _).trans (congrArg (fun t : State => Host.Outcome.next (t.atStage orderEnds)) ?_)
    rw [hstrobe, hfetch]
    dsimp only
    rw [hopen, Bool.not_true, if_neg Bool.false_ne_true, if_neg Bool.false_ne_true, hv, Nat.div_eq_of_lt hrx, Nat.zero_add, hw]
  have hwap : y.windowAddr.bind w.partnerAt = some (a, p) := by
    rw [hyaddr]
    exact (State.partnerAt_of_maps (t := w) (s := v) hmaps o.addr).trans hvat
  obtain ⟨hends, hmem, hf, hl, -, hlast, hst, -, -⟩ := State.endWindow_leaves (s := w) (o := o) (z := s) (a := a) (p := p) (x := y) (y := y) hwap
    (hyid ▸ hwop) (hy ▸ rfl) (hy ▸ rfl) hyid.symm (by rw [hframe, ← hv]; rfl) rLost
  rw [hend] at hexec
  refine ⟨_, hexec, ?_, hf.trans hfenced, ?_, hlast, hst.trans hstream, ?_⟩
  · rw [show y.units = o.units from hy ▸ rfl] at hends
    exact hends
  · rw [hl, hlosts, hvpartner]
  · rw [hmem, hframe, ← hv]
    rfl

/-- R512, R513: MODF of an annex without a running operation. -/
theorem exec_modf_idle {s : State} {a : AnnexId} {p : PartnerId} (htime : s.onTime orderEnds = true) (hsenses : (s.anx a).senses p = true)
    (hrun : s.annexRunning a = false) :
    exec (.modf a p) s = .next (((s.modAnx a Annex.yields).cause cAnnex).atStage orderEnds) := by
  have hidle : ∀ (l : List Op) (t : State), (∀ x ∈ l, (x.state == .running && x.annexOf == some a) = false) →
      forEach l (fun t o => t.yieldOp a o) t = t := by
    intro l
    induction l with
    | nil => exact fun _ _ => rfl
    | cons x l ih =>
      intro t hl
      have hx := hl x List.mem_cons_self
      have hyield : t.yieldOp a x = t := by
        refine if_pos ?_
        rw [← Bool.not_eq_true', Bool.not_and] at hx
        exact hx
      exact (congrArg (forEach l fun t o => t.yieldOp a o) hyield).trans (ih t fun y hy => hl y (List.mem_cons_of_mem x hy))
  refine (State.onStep_onTime htime _).trans (congrArg (fun t : State => Host.Outcome.next (t.atStage orderEnds)) ?_)
  rw [if_pos hsenses, hidle]
  exact fun x hx => Bool.eq_false_iff.2 (List.any_eq_false.1 hrun x hx)

theorem Annex.senses_of {x : Annex} {p : PartnerId} (hen : x.en = true) (hyielded : x.yielded = false) (hpen : x.partners[p.val].en = true)
    (hsel : x.selIn.getLsbD p.val = false) (hunsensed : x.unsensed[p.val] = 0) (hstream : ∀ n, x.stream ≠ some (p, n)) :
    x.senses p = true := by
  have hdrives : x.drivesSel p = false := by
    unfold Annex.drivesSel
    split
    · next q n hq =>
      rw [beq_eq_false_iff_ne]
      rintro rfl
      exact hstream n hq
    · rfl
  unfold Annex.senses
  rw [hen, hyielded, hdrives, hsel, hunsensed, hpen]
  rfl

/-- R496: the time-out of a command in flight. -/
theorem exec_partnerTimeout {s : State} {a : AnnexId} {p : PartnerId} {o : Op} (htime : s.onTime orderEnds = true)
    (howner : (s.partner a p).owner = some o.id) (hop : s.op? o.id = some o) (hflight : (s.partner a p).inFlight = true)
    (hlimit : 0 < (if (s.partner a p).erasing then (s.anx a).eraseLimit else (s.anx a).progLimit)
      ∧ (if (s.partner a p).erasing then (s.anx a).eraseLimit else (s.anx a).progLimit) ≤ (s.partner a p).sentTicks) :
    exec (.partnerTimeout a p) s = .next ((s.partnerEnds o (a, p) rTimeout).atStage orderEnds) := by
  refine (State.onStep_onTime htime _).trans (congrArg (fun t : State => Host.Outcome.next (t.atStage orderEnds)) ?_)
  have hbind : (s.partner a p).owner.bind s.op? = some o := by
    rw [howner]
    exact hop
  rw [hbind]
  dsimp only
  rw [hflight, if_pos]
  exact Bool.and_eq_true_iff.2 ⟨rfl, decide_eq_true hlimit⟩

/-- Settles O58: each row by what it finds of its partner. -/
theorem partnerEvents : Obligations.PartnerEvents := by
  refine ⟨fun s a p sr rx id o hok htime howner hop hflight hcrossed hpolled htyp hyielded hturn => ?_,
    fun s a p id o hok htime howner hop hflight hap hpos hlate => ?_,
    fun s a p rx o r hok htime hstrobe hops hopcode hstate hwork hfetched hdirect hresult hcount hat hinside howner hpending hturn hmanual
      hrx hgate => ?_,
    fun s a p htime hen hyielded hpen hsel hunsensed hstream hrun =>
      exec_modf_idle htime (Annex.senses_of hen hyielded hpen hsel hunsensed hstream) hrun,
    fun s a hholder hmanual hrun => ?_, fun s a hrun => ?_⟩
  · have hid := State.op?_id hop
    subst hid
    have hexec := exec_poll (sr := sr) (rx := rx) htime howner hop hflight hcrossed hpolled htyp hyielded hturn
    obtain ⟨⟨an, hframe⟩, hself, hmaps, -⟩ := s.pollSent_leaves a p
    obtain ⟨u, hbusyeq, ⟨an', hubusy⟩, hbusyleaves⟩ := s.pollBusy_leaves a p
    generalize s.pollSent a p = v at *
    have hvop : v.op? o.id = some o := by
      rw [hframe]
      exact hop
    have hvstamp : v.stamp = s.stamp := by
      rw [hframe]
      rfl
    have hvmem : v.mem = s.mem := by rw [hframe]
    refine ⟨fun hff hbusy => ?_, fun hff hagain hap => ?_, fun hready herase hopcode hresult hindex hposition hpage hap => ?_⟩
    · rw [if_neg hff, if_pos hbusy, hbusyeq] at hexec
      refine ⟨_, hexec, ?_, hbusyleaves⟩
      rw [hubusy]
      rfl
    · rw [if_pos hff, if_pos hagain] at hexec
      obtain ⟨hends, hmem, hfenced, hlosts, hnone, hlast, hunc⟩ := State.loseOp_leaves (s := v) (z := s)
        ((State.partnerAt_bind_of_maps hmaps o.windowAddr).trans hap) hvop hvstamp (by rw [hself]; exact howner) (by rw [hself]; exact hflight)
      rw [hself] at hlosts
      exact ⟨_, hexec, hends, hfenced, hlosts, hnone, hlast, hunc, hmem.trans hvmem⟩
    · have hnotff : sr ≠ 0xFF := by
        rintro rfl
        exact absurd hready (by decide)
      generalize hw : v.modPartner a p (fun x => { x with inFlight := false, ffPolls := 0 }) = w at hexec
      have hwself : w.partner a p = { s.partner a p with polled := true, inFlight := false, ffPolls := 0 } := by
        rw [← hw, State.modPartner_partner_self, hself]
      have hwmaps : ∀ (b : AnnexId) (q : PartnerId), (w.partner b q).map = (s.partner b q).map := fun b q => by
        rw [← hw]
        exact (State.modPartner_keeps Partner.map rfl b q).trans (hmaps b q)
      rw [if_neg hnotff, hready, if_neg Bool.false_ne_true, herase, if_neg Bool.false_ne_true] at hexec
      obtain ⟨hends, hnone, hdown, hlast, hmem⟩ := State.pageConfirmed_leaves (s := w) (z := s) (rx := rx)
        ((State.partnerAt_bind_of_maps hwmaps o.windowAddr).trans hap) (hw ▸ hvop) (hw ▸ hvstamp) (by rw [hwself]; exact howner) hopcode
        hresult hindex hposition (by rw [hwself]; exact hpage)
      exact ⟨_, hexec, hends, hnone, hdown, hlast, hmem.trans (hw ▸ hvmem)⟩
  · have hid := State.op?_id hop
    subst hid
    obtain ⟨hends, hfenced, htimeouts, hnone, hmem⟩ := State.timeout_leaves hap hop howner
    exact ⟨_, exec_partnerTimeout htime howner hop hflight ⟨hpos, hlate⟩, hends, hfenced, htimeouts, hnone, hmem⟩
  · obtain ⟨t, hexec, hends, hfenced, hlosts, hlast, hstream, hmem⟩ := exec_strobeMissing htime hstrobe hops hopcode hstate hwork hfetched
      hdirect hresult hcount hat hinside hpending hturn hmanual hrx hgate
    exact ⟨_, hexec, hends, hfenced, hlosts, hlast, hstream, hmem⟩
  · refine (State.onEdge_pacing hholder).trans (congrArg Host.Outcome.next ?_)
    rw [hmanual, hrun]
    cases hon : (s.anx a).manualon with
    | false => rfl
    | true => exact (if_neg Bool.false_ne_true).trans (State.modAnx_of_fixed (by rw [← hon])).symm
  · have hstays : (if ((s.anx a).manual && !(s.anx a).manualon && !s.annexRunning a) = true then
        s.modAnx a (fun x => { x with manualon := true }) else s) = s := if_neg (by rw [hrun, Bool.not_true, Bool.and_false]; exact Bool.false_ne_true)
    show s.onEdge _ = _
    rw [hstays]
    exact State.onEdge_self s

end Sys2Proof.Machine
end

section
/-! PROOFS. The life cycle: REGRESS begins, the regression sequence clears its units, journal records act, plinth writes go
from copy to copy (O49). -/
namespace Sys2Proof.Machine

section
variable {s : State}

/-! ### What the end of an operation leaves -/

/-- The end of an operation sets no cause of INT_STAT. -/
theorem State.completeWith_causes (s : State) (latch : Bool) (id : Nat) (result : Byte) :
    (State.completeWith latch s id result).glob.causes = s.glob.causes := by
  cases h : s.op? id with
  | none =>
    unfold State.completeWith
    rw [h]
  | some o =>
    have hid := State.op?_id h
    subst hid
    cases hk : o.origin with
    | ledger k =>
      obtain ⟨l, su, pw, tr, heq, -⟩ := State.completeWith_frame h hk latch result
      rw [heq]
    | direct p =>
      obtain ⟨y, pw, tr, hgo⟩ := s.letGo_frame o result
      rw [State.completeWith_direct h hk, hgo]
      split <;> rfl

/-- Latching waits leaves names and states of the operations. -/
theorem State.latchWaits_states {x : Op} (hx : x ∈ s.latchWaits.ledger.ops) : ∃ y ∈ s.ledger.ops, y.id = x.id ∧ y.state = x.state := by
  obtain ⟨y, hy, rfl⟩ := List.mem_map.1 (show x ∈ List.map _ s.ledger.ops from hx)
  refine ⟨y, hy, ?_⟩
  split <;> exact ⟨rfl, rfl⟩

/-- Latching or not, the end of an operation leaves the same names and states. -/
theorem State.completeWith_states {latch : Bool} {id : Nat} {result : Byte} {x : Op}
    (hx : x ∈ (State.completeWith latch s id result).ledger.ops) :
    ∃ y ∈ (State.completeWith false s id result).ledger.ops, y.id = x.id ∧ y.state = x.state := by
  cases latch with
  | false => exact ⟨x, hx, rfl, rfl⟩
  | true =>
    cases h : s.op? id with
    | none =>
      unfold State.completeWith at hx ⊢
      rw [h] at hx ⊢
      exact ⟨x, hx, rfl, rfl⟩
    | some o =>
      have hid := State.op?_id h
      subst hid
      cases hk : o.origin with
      | ledger k =>
        rw [State.completeWith_ledger h hk, if_pos rfl] at hx
        rw [State.completeWith_ledger h hk, if_neg Bool.false_ne_true]
        exact State.latchWaits_states hx
      | direct p =>
        rw [State.completeWith_direct h hk, if_pos rfl] at hx
        rw [State.completeWith_direct h hk, if_neg Bool.false_ne_true]
        exact State.latchWaits_states hx

/-- Every operation of a name has completed. -/
def State.over (s : State) (id : Nat) : Prop := ∀ x ∈ s.ledger.ops, x.id = id → x.state = .complete

theorem State.over_complete (s : State) (id : Nat) (result : Byte) : (s.complete id result).over id := by
  intro x hx hid
  obtain ⟨y, hy, hyid, hystate⟩ := State.completeWith_states (latch := true) hx
  rw [← hystate]
  cases h : s.op? id with
  | none =>
    unfold State.completeWith at hy
    rw [h] at hy
    exact absurd (hyid.trans hid) (by simpa using List.find?_eq_none.1 h y hy)
  | some o => exact (State.completeWith_all h result y hy (hyid.trans hid)).1

theorem State.over_completeWith {id : Nat} (h : s.over id) (k : Nat) (result : Byte) : (State.completeWith false s k result).over id := by
  intro x hx hid
  by_cases hk : x.id = k
  · cases ho : s.op? k with
    | none =>
      unfold State.completeWith at hx
      rw [ho] at hx
      exact h x hx hid
    | some o => exact (State.completeWith_all ho result x hx hk).1
  · exact h x (State.completeWith_others result hx hk) hid

/-! ### What waits for the journal (R447, R448) -/

/-- What goes on once the journal is free leaves records, causes and completed operations as they are. -/
theorem State.tryRaise_leaves (s : State) : ∃ po l su pw tr gl pl,
    s.tryRaise = { s with ports := po, ledger := l, subs := su, power := pw, trace := tr, glob := gl, plinth := pl }
    ∧ gl.causes = s.glob.causes ∧ (∀ b : Bool, pl.copy b = s.plinth.copy b) ∧ ∀ id, s.over id → s.tryRaise.over id := by
  unfold State.tryRaise
  split
  · exact ⟨_, _, _, _, _, _, _, rfl, rfl, fun _ => rfl, fun _ h => h⟩
  · split
    · exact ⟨_, _, _, _, _, _, _, rfl, rfl, fun _ => rfl, fun _ h => h⟩
    · next o ho =>
      split
      · refine ⟨_, _, _, _, _, _, _, rfl, rfl, fun b => ?_, fun id h x hx hid => ?_⟩
        · cases b <;> rfl
        · obtain ⟨y, hy, rfl⟩ := List.mem_map.1 (show x ∈ List.map _ s.ledger.ops from hx)
          have hqueued : o.state = .queued := by
            have := List.find?_some ho
            simp only [Bool.and_eq_true, beq_iff_eq] at this
            exact this.1.2
          have hne : (y.id == o.id) = false := by
            rw [beq_eq_false_iff_ne]
            rintro he
            rw [if_pos (beq_iff_eq.2 he)] at hid
            have hcomplete := h o (List.mem_of_find?_eq_some ho) (he ▸ hid)
            exact absurd (hqueued.symm.trans hcomplete) (by decide)
          rw [hne, if_neg Bool.false_ne_true] at hid ⊢
          exact h y hy hid
      · obtain ⟨po, l, su, pw, tr, gl, heq⟩ := s.completeWith_moves false o.id rDenied
        have hcauses := s.completeWith_causes false o.id rDenied
        rw [heq] at hcauses
        refine ⟨po, l, su, pw, tr, gl, s.plinth, heq, hcauses, fun _ => rfl, fun id h => ?_⟩
        exact State.over_completeWith h o.id rDenied

/-- No regression pending, or none that has been through, has final writes to make. -/
theorem State.finishRegression_of_idle (h : s.life.phase ≠ 3 ∨ s.life.regPending = false) : s.finishRegression = s := if_pos h

/-! ### Plinth writes that a regression makes -/

theorem State.imagesQueued_frame (l : List GateId) (s : State) :
    ∃ pl, forEach l (fun t g => t.plinthWrite (.image g GateImage.shipment)) s = { s with plinth := pl } :=
  forEach_inv (P := fun t => ∃ pl, t = { s with plinth := pl })
    (fun _ g ⟨pl, ht⟩ => ⟨pl.enqueue (.image g GateImage.shipment), ht ▸ rfl⟩) l s ⟨s.plinth, rfl⟩

/-- The regression's final plinth writes: PRIV, epochs and the plinth's queue. -/
theorem State.queueFinals_frame (s : State) : ∃ l g pl, s.queueFinals = { s with life := l, gates := g, plinth := pl }
    ∧ l.cleared = s.life.cleared ∧ l.cursor = s.life.cursor := by
  have hpriv : ∃ l g, (if s.life.priv = 1 then s else (s.modLife (fun l => { l with priv := 1 })).bumpEpochs)
      = { s with life := l, gates := g } ∧ l.cleared = s.life.cleared ∧ l.cursor = s.life.cursor := by
    split
    · exact ⟨s.life, s.gates, rfl, rfl, rfl⟩
    · exact ⟨_, _, rfl, rfl, rfl⟩
  obtain ⟨l, g, hpriv, hcleared, hcursor⟩ := hpriv
  unfold State.queueFinals
  dsimp only
  rw [hpriv]
  generalize allGates = gs
  obtain ⟨pl, himages⟩ := State.imagesQueued_frame gs { s with life := l, gates := g }
  rw [himages]
  exact ⟨_, _, _, rfl, hcleared, hcursor⟩

theorem State.finishRegression_frame (s : State) : ∃ l g pl, s.finishRegression = { s with life := l, gates := g, plinth := pl }
    ∧ l.cleared = s.life.cleared ∧ l.cursor = s.life.cursor := by
  unfold State.finishRegression
  split
  · exact ⟨s.life, s.gates, s.plinth, rfl, rfl, rfl⟩
  · split
    · exact ⟨_, _, _, rfl, rfl, rfl⟩
    · dsimp only
      split
      · obtain ⟨l, g, pl, heq, hcleared, hcursor⟩ := (s.modLife (fun l => { l with wpwait := false })).queueFinals_frame
        exact ⟨l, g, pl, heq, hcleared, hcursor⟩
      · split
        · exact ⟨_, _, _, rfl, rfl, rfl⟩
        · exact ⟨_, _, _, rfl, rfl, rfl⟩

theorem State.regressionCheck_frame (s : State) : ∃ l g pl gl, s.regressionCheck = { s with life := l, gates := g, plinth := pl, glob := gl }
    ∧ l.cleared = s.life.cleared ∧ l.cursor = s.life.cursor := by
  unfold State.regressionCheck
  split
  · split
    · obtain ⟨l, g, pl, heq, hcleared, hcursor⟩ := (s.modLife (fun l => { l with phase := 3 })).finishRegression_frame
      exact ⟨l, g, pl, s.glob, heq, hcleared, hcursor⟩
    · exact ⟨_, s.gates, s.plinth, _, rfl, rfl, rfl⟩
  · exact ⟨s.life, s.gates, s.plinth, s.glob, rfl, rfl, rfl⟩

/-- A unit that counts in CLEARED takes its gallery past it (R453, R454). -/
theorem State.unitCleared_leaves (s : State) (g : GalId) (p : Nat) : let t := s.unitCleared g p
    t.life.cleared = s.life.cleared + 1 ∧ t.life.cursor[g.val] = p + 1 ∧ t.mem = s.mem := by
  have hcursor : ((s.unitPassed g p).modLife (fun l => { l with cleared := l.cleared + 1 })).life.cursor[g.val] = p + 1 :=
    Vector.getElem_set_self ..
  intro t
  generalize hu : (s.unitPassed g p).modLife (fun l => { l with cleared := l.cleared + 1 }) = u at hcursor
  have hcleared : u.life.cleared = s.life.cleared + 1 := hu ▸ rfl
  have hmem : u.mem = s.mem := hu ▸ rfl
  have ht : t.life = u.life ∧ t.mem = u.mem := by
    show (s.unitCleared g p).life = _ ∧ (s.unitCleared g p).mem = _
    unfold State.unitCleared
    dsimp only
    rw [hu]
    split
    · split
      · unfold State.writeBankRec
        split <;> exact ⟨rfl, rfl⟩
      · exact ⟨rfl, rfl⟩
    · exact ⟨rfl, rfl⟩
  rw [ht.1, ht.2]
  exact ⟨hcleared, hcursor, hmem⟩

/-- REGRESSION_CLEAR of a unit that is blank already (R453). -/
theorem exec_regressionClear_blank {g : GalId} {p : Nat} (hholder : s.pace.holder.isSome = true) (hpending : s.life.regPending = true)
    (hbooting : s.booting = false) (hphase : s.life.phase = 2) (hstuck : s.life.stuck = false) (hruns : s.regressionRuns g = false)
    (hnext : s.nextUnit g s.life.cursor[g.val] = some p) (hblank : s.blankRange (unitRange p).1 (unitRange p).2 = true) :
    exec (.regressionClear g) s = .next (s.unitCleared g p).regressionCheck := by
  refine (State.onEdge_pacing hholder).trans (congrArg Host.Outcome.next ?_)
  rw [if_neg (by simp [hpending, hbooting, hphase, hstuck, hruns]), hnext]
  dsimp only
  rw [hblank, if_pos rfl]

/-- REGRESSION_CLEAR of a unit that is not blank, on an idle bank with tokens at hand (R453). -/
theorem exec_regressionClear_starts {g : GalId} {p : Nat} (hholder : s.pace.holder.isSome = true) (hpending : s.life.regPending = true)
    (hbooting : s.booting = false) (hphase : s.life.phase = 2) (hstuck : s.life.stuck = false) (hruns : s.regressionRuns g = false)
    (hnext : s.nextUnit g s.life.cursor[g.val] = some p) (hblank : s.blankRange (unitRange p).1 (unitRange p).2 = false)
    (hidle : (s.bank (posBank p)).state = .idle) (hfits : s.fits s.tokClear = true) :
    exec (.regressionClear g) s = .next (s.startRegressionClear (posBank p) (s.unitAt p)) := by
  refine (State.onEdge_pacing hholder).trans (congrArg Host.Outcome.next ?_)
  rw [if_neg (by simp [hpending, hbooting, hphase, hstuck, hruns]), hnext]
  dsimp only
  rw [hblank, if_neg Bool.false_ne_true, hidle, hfits]
  exact if_pos rfl

theorem State.startRegressionClear_leaves (b : BankId) (u : UnitRef) : let t := s.startRegressionClear b u
    (∃ c, (t.bank b).clear = some c ∧ c.purpose = .regression ∧ c.unit = u ∧ c.pulses = 0 ∧ c.verified = false ∧ c.held = false
      ∧ c.tokens = s.tokClear)
    ∧ (∀ k : BankId, k ≠ b → t.bank k = s.bank k) ∧ t.mem = s.mem ∧ t.life = s.life ∧ t.ledger = s.ledger ∧ t.plinth = s.plinth := by
  intro t
  generalize hv : s.modBank b (fun k => { k with
    state := if b = markBank then k.state else .clearing, run := 0,
    clear := some (ClearRun.start 0 .regression u 512 false s.tokClear) }) = v
  have ht : t = v.regressionGrant b s.tokClear := hv ▸ rfl
  have hgrant : ∃ pw tr, v.regressionGrant b s.tokClear = { v with power := pw, trace := tr } := by
    unfold State.regressionGrant State.notePeak
    split
    · exact ⟨_, _, rfl⟩
    · exact ⟨_, _, rfl⟩
  obtain ⟨pw, tr, hgrant⟩ := hgrant
  rw [ht, hgrant]
  refine ⟨⟨ClearRun.start 0 .regression u 512 false s.tokClear, ?_, rfl, rfl, rfl, rfl, rfl, rfl⟩, fun k hk => ?_, ?_, ?_, ?_, ?_⟩
  · show (v.bank b).clear = _
    rw [← hv, State.modBank_bank_self]
  · show v.bank k = _
    rw [← hv]
    exact State.modBank_bank_of_ne _ b _ k hk
  all_goals exact hv ▸ rfl

/-! ### Journal records that read back good -/

/-- A journal copy after its record has been written. -/
theorem Plinth.recordWritten_copy (p : Plinth) (j : JWrite) :
    (p.recordWritten j).copy j.copy = { w0 := j.w0, w1 := j.w1, broken := false } ∧ (p.recordWritten j).copy (!j.copy) = p.copy (!j.copy) := by
  unfold Plinth.recordWritten Plinth.copy
  cases j.copy <;> exact ⟨rfl, rfl⟩

/-- JOURNAL_WRITE_DONE where boot has ended: what waited for the journal goes on. -/
theorem exec_journalWriteDone {j : JWrite} (hholder : s.pace.holder.isSome = true) (hj : s.plinth.jwrite = some j)
    (hruns : s.plinthRuns = true) (hboot : ((s.modPlinth (fun p => p.recordWritten j)).recordActs j).booting = false) :
    exec .journalWriteDone s = .next ((s.modPlinth (fun p => p.recordWritten j)).recordActs j).tryRaise.finishRegression := by
  refine (State.onEdge_pacing hholder).trans (congrArg Host.Outcome.next ?_)
  rw [hj]
  dsimp only
  rw [hruns, Bool.not_true, if_neg Bool.false_ne_true, if_neg (by rw [hboot]; exact Bool.false_ne_true)]

/-- What a record acts on, where it leaves the plinth and boot alone and no regression to finish: the frame of the row. -/
theorem exec_journalWriteDone_leaves {j : JWrite} (hholder : s.pace.holder.isSome = true) (hj : s.plinth.jwrite = some j)
    (hruns : s.plinthRuns = true) (hbooting : s.booting = false) {u : State}
    (hu : (s.modPlinth (fun p => p.recordWritten j)).recordActs j = u) (hboot : u.boot = s.boot)
    (hidle : u.life.phase ≠ 3 ∨ u.life.regPending = false) (hplinth : u.plinth = s.plinth.recordWritten j)
    (hcauses : u.glob.causes = s.glob.causes ||| cLevel) (hmem : u.mem = s.mem) :
    ∃ t, exec .journalWriteDone s = .next t ∧ (t.plinth.copy j.copy = { w0 := j.w0, w1 := j.w1, broken := false }
      ∧ t.plinth.copy (!j.copy) = s.plinth.copy (!j.copy) ∧ t.glob.causes = s.glob.causes ||| cLevel ∧ t.mem = s.mem)
      ∧ t.life = u.life ∧ t.gates = u.gates ∧ ∀ id, u.over id → t.over id := by
  have hexec := exec_journalWriteDone hholder hj hruns (by rw [hu, State.booting, hboot]; exact hbooting)
  obtain ⟨hself, hother⟩ := s.plinth.recordWritten_copy j
  obtain ⟨po, l, su, pw, tr, gl, pl, heq, hgl, hpl, hover⟩ := u.tryRaise_leaves
  rw [hu] at hexec
  generalize u.tryRaise = v at *
  have hlife : v.life = u.life := by rw [heq]
  rw [State.finishRegression_of_idle (hlife ▸ hidle)] at hexec
  refine ⟨v, hexec, ⟨?_, ?_, ?_, ?_⟩, hlife, by rw [heq], hover⟩
  · rw [heq, ← hself, ← hplinth]
    exact hpl j.copy
  · rw [heq, ← hother, ← hplinth]
    exact hpl (!j.copy)
  · rw [heq]
    exact hgl.trans hcauses
  · rw [heq]
    exact hmem

/-- A LEVEL_RAISE in force: level and epochs, and its operation over (R447, R431). -/
theorem State.raised_leaves (id : Nat) (level : BitVec 2) : let t := s.raised id level
    t.boot = s.boot ∧ t.plinth = s.plinth ∧ t.glob.causes = s.glob.causes ||| cLevel ∧ t.mem = s.mem
    ∧ t.life = { s.life with level := level } ∧ t.gates = s.bumpEpochs.gates ∧ t.over id := by
  intro t
  generalize hv : ((s.modLife (fun l => { l with level := level })).bumpEpochs).cause cLevel = v
  have ht : t = v.complete id rDone := hv ▸ rfl
  have hover := v.over_complete id rDone
  have hcauses := v.completeWith_causes true id rDone
  obtain ⟨po, l, su, pw, tr, gl, heq⟩ := v.completeWith_moves true id rDone
  have hframe : v.complete id rDone = _ := heq
  have hvcauses : v.glob.causes = s.glob.causes ||| cLevel := hv ▸ rfl
  have hvlife : v.life = { s.life with level := level } := hv ▸ rfl
  have hvgates : v.gates = s.bumpEpochs.gates := hv ▸ rfl
  rw [ht]
  refine ⟨?_, ?_, hcauses.trans hvcauses, ?_, ?_, ?_, hover⟩
  · rw [hframe]
    exact hv ▸ rfl
  · rw [hframe]
    exact hv ▸ rfl
  · rw [hframe]
    exact hv ▸ rfl
  · rw [hframe]
    exact hvlife
  · rw [hframe]
    exact hvgates

/-! ### OPEN again (R456) -/

/-- The shipment image enables its gate afresh. -/
theorem State.loadShipment (g : GateId) (t : State) : t.loadGate g GateImage.shipment = t.modGate g (fun x => { x with
    en := true, strict := false, regions := Vector.replicate 8 0, fault := 0, epoch := x.epoch + 1 }) := by
  generalize hu : t.modGate g (fun x => { x with en := false, strict := false, regions := Vector.replicate 8 0 }) = u
  have hself : u.gate g = { t.gate g with en := false, strict := false, regions := Vector.replicate 8 0 } := by
    rw [← hu, State.modGate_gate_self]
  have hload : t.loadGate g GateImage.shipment = u.enableGate g := hu ▸ rfl
  have hfault : (u.gate g).firstFault g = none := Gate.firstFault_of_blank _ g (by rw [hself])
  rw [hload, State.enableGate, hfault]
  dsimp only
  rw [← hu, State.modGate_modGate]

/-- A gate as its shipment image leaves it. -/
def Gate.shipped (x : Gate) : Gate :=
  { x with en := true, strict := false, regions := Vector.replicate 8 0, fault := 0, epoch := x.epoch + 1 }

/-- The epoch of an enabled gate changes with the level, and again as it is enabled (R431). -/
theorem Gate.shipped_bumped (x : Gate) : ({ x with epoch := if x.en = true then x.epoch + 1 else x.epoch } : Gate).shipped
    = { x with en := true, strict := false, regions := Vector.replicate 8 0, fault := 0, epoch := x.epoch + (if x.en then 2 else 1) } := by
  unfold Gate.shipped
  cases x.en with
  | true =>
    simpa using BitVec.add_assoc x.epoch 1 1
  | false => rfl

/-- Shipment images: what they leave, and every gate of the list that loads one. -/
theorem State.shipmentLoads (l : List GateId) (g : GateId) : ∀ (s : State), l.Nodup →
    let t := forEach l (fun t h => t.loadGate h GateImage.shipment) s
    (∃ gs, t = { s with gates := gs }) ∧ t.gate g = if g ∈ l then (s.gate g).shipped else s.gate g := by
  induction l with
  | nil => exact fun s _ => ⟨⟨s.gates, rfl⟩, (if_neg List.not_mem_nil).symm⟩
  | cons a l ih =>
    intro s hl
    obtain ⟨⟨gs, hframe⟩, hgate⟩ := ih (s.loadGate a GateImage.shipment) hl.of_cons
    have hload := State.loadShipment a s
    rw [hload] at hframe hgate
    refine ⟨⟨gs, (congrArg _ hload).trans hframe⟩, ((congrArg (fun u : State => (forEach l _ u).gate g) hload).trans hgate).trans ?_⟩
    by_cases hg : g = a
    · subst hg
      rw [if_neg hl.notMem, if_pos List.mem_cons_self, State.modGate_gate_self]
      rfl
    · rw [State.modGate_gate_of_ne _ a _ g hg]
      simp [hg]

/-- Once every gate has its shipment image, the REGRESS that runs completes (R456). -/
theorem State.openAgain_ends (s : State) :
    let v := (s.modLife (fun l => { l with level := 0, regPending := false, phase := 0, finals := false })).bumpEpochs
    let w := (forEach allGates (fun t g => t.loadGate g GateImage.shipment) v).cause cLevel
    ∃ po l su pw tr gl, s.openAgain = { w with ports := po, ledger := l, subs := su, power := pw, trace := tr, glob := gl }
      ∧ gl.causes = w.glob.causes := by
  unfold State.openAgain
  dsimp only
  generalize (forEach allGates _ _).cause cLevel = w
  split
  · exact ⟨_, _, _, _, _, _, rfl, rfl⟩
  · next o _ =>
    generalize hm : w.modOp o.id (fun x => { x with units := BitVec.setWidth 32 w.life.cleared }) = m
    obtain ⟨po, l, su, pw, tr, gl, heq⟩ := m.completeWith_moves true o.id rDone
    have hcauses := m.completeWith_causes true o.id rDone
    rw [heq] at hcauses
    exact ⟨po, l, su, pw, tr, gl, heq.trans (hm ▸ rfl), hcauses.trans (hm ▸ rfl)⟩

/-- OPEN takes effect (R456, R431). -/
theorem State.openAgain_leaves (s : State) : let t := s.openAgain
    t.boot = s.boot ∧ t.plinth = s.plinth ∧ t.glob.causes = s.glob.causes ||| cLevel ∧ t.mem = s.mem
    ∧ t.life = { s.life with level := 0, regPending := false, phase := 0, finals := false }
    ∧ ∀ g : GateId, t.gate g = (s.bumpEpochs.gate g).shipped := by
  intro t
  have hends := s.openAgain_ends
  have hall : ∀ g : GateId, g ∈ allGates := List.mem_finRange
  have hnodup : allGates.Nodup := List.nodup_finRange 66
  generalize hv : (s.modLife (fun l => { l with level := 0, regPending := false, phase := 0, finals := false })).bumpEpochs = v at hends
  generalize allGates = l at *
  dsimp only at hends
  have hloads := fun g => State.shipmentLoads l g v hnodup
  generalize forEach l (fun t g => t.loadGate g GateImage.shipment) v = w at *
  obtain ⟨⟨gs, hw⟩, -⟩ := hloads 0
  obtain ⟨po, l', su, pw, tr, gl, heq, hcauses⟩ := hends
  have ht : t = _ := heq
  have hvgate : ∀ g : GateId, v.gate g = s.bumpEpochs.gate g := fun g => hv ▸ rfl
  rw [ht]
  refine ⟨?_, ?_, hcauses.trans ?_, ?_, ?_, fun g => ?_⟩
  · show w.boot = _
    rw [hw, ← hv]
    rfl
  · show w.plinth = _
    rw [hw, ← hv]
    rfl
  · show w.glob.causes ||| cLevel = _
    rw [hw, ← hv]
    rfl
  · show w.mem = _
    rw [hw, ← hv]
    rfl
  · show w.life = _
    rw [hw, ← hv]
    rfl
  · show w.gate g = _
    rw [(hloads g).2, if_pos (hall g), hvgate]

/-! ### Plinth writes (R559, R468, R469) -/

theorem Plinth.onCopies_queue (p : Plinth) (d : PlinthData) (f : {α : Type} → Copies α → α → Copies α) :
    (p.onCopies d f).queue = p.queue ∧ (p.onCopies d f).begun = p.begun ∧ (p.onCopies d f).second = p.second := by
  unfold Plinth.onCopies
  split
  · exact ⟨rfl, rfl, rfl⟩
  · exact ⟨rfl, rfl, rfl⟩
  · exact ⟨rfl, rfl, rfl⟩
  · split
    · exact ⟨rfl, rfl, rfl⟩
    · exact ⟨rfl, rfl, rfl⟩

/-- The first copy of a write has read back good. -/
theorem Plinth.copyDone_first {p : Plinth} {d : PlinthData} {r : List PlinthData} (hqueue : p.queue = d :: r) (hfirst : p.second = false)
    (wp : Bool) : p.copyDone wp = { p.onCopies d (fun c a => c.write1 a) with second := true } := by
  unfold Plinth.copyDone
  rw [hqueue]
  dsimp only
  rw [hfirst, if_neg Bool.false_ne_true]

/-- The second copy of a write has read back good: the next one begins, WP# permitting. -/
theorem Plinth.copyDone_second {p : Plinth} {d : PlinthData} {r : List PlinthData} (hqueue : p.queue = d :: r) (hsecond : p.second = true)
    (wp : Bool) : p.copyDone wp = ({ p.onCopies d (fun c a => c.write2 a) with queue := r, begun := false } : Plinth).goOn wp := by
  unfold Plinth.copyDone
  rw [hqueue]
  dsimp only
  rw [hsecond, if_pos rfl]

/-- What a plinth that writes nothing does next: its queue stays, and its head begins while WP# is high. -/
theorem Plinth.goOn_leaves {p : Plinth} (hbegun : p.begun = false) (wp : Bool) : (p.goOn wp).queue = p.queue
    ∧ (p.goOn wp).begun = (wp && !p.queue.isEmpty) ∧ ((p.goOn wp).begun = true → (p.goOn wp).second = false)
    ∧ (p.goOn wp).config.c2 = p.config.c2 ∧ (p.goOn wp).config.v2 = p.config.v2 := by
  unfold Plinth.goOn
  rw [hbegun]
  cases wp with
  | false => exact ⟨rfl, hbegun, fun h => absurd (hbegun.symm.trans h) Bool.false_ne_true, rfl, rfl⟩
  | true =>
    rw [if_neg (by decide)]
    unfold Plinth.startHead
    split
    · next d r hqueue =>
      refine ⟨(p.onCopies_queue d _).1, by rw [hqueue]; rfl, fun _ => rfl, ?_, ?_⟩
      · cases d with
        | wear w =>
          unfold Plinth.onCopies
          dsimp only
          split <;> rfl
        | _ => rfl
      · cases d with
        | wear w =>
          unfold Plinth.onCopies
          dsimp only
          split <;> rfl
        | _ => rfl
    · next hqueue => 
      refine ⟨rfl, by rw [hqueue]; exact hbegun, fun h => absurd (hbegun.symm.trans h) Bool.false_ne_true, rfl, rfl⟩

/-- Settles O49: the rows of REGRESS and of the regression, what each kind of record does, and the copies of a plinth
write. -/
theorem lifeCycleRuns : Obligations.LifeCycleRuns := by
  refine ⟨fun s o hholder hop hdraining hdrained hnone => ⟨fun hwp => ?_, fun hwp hlevel => ?_⟩,
    fun s g p hholder hpending hbooting hphase hstuck hruns hnext => ⟨fun hblank => ?_, fun hblank hidle hfits => ?_⟩,
    fun s j hholder hj hruns hbooting => ⟨fun id hpurpose hpending => ?_, fun hpurpose => ?_, fun hpurpose => ?_⟩,
    fun s d r hholder hqueue hbegun hruns hpending => ?_⟩
  · refine (State.onEdge_pacing hholder).trans (congrArg Host.Outcome.next ?_)
    rw [hop]
    dsimp only
    rw [hdraining, hdrained, hnone, hwp]
    rfl
  · have hexec : exec .regressBegin s = .next (((s.modLife (fun l => { l with wpwait := false })).modOp o.id
        (fun x => { x with state := .running, work := .lifecycle })).startJournal kRegressBegin 1 .begin) := by
      refine (State.onEdge_pacing hholder).trans (congrArg Host.Outcome.next ?_)
      rw [hop]
      dsimp only
      rw [hdraining, hdrained, hnone, hwp, if_neg (by decide), if_neg (by decide), if_neg (fun h => h hlevel)]
    refine ⟨_, hexec, fun x hx hid => ?_, rfl, rfl, rfl, rfl, rfl⟩
    obtain ⟨y, hy, rfl⟩ := List.mem_map.1 (show x ∈ List.map _ s.ledger.ops from hx)
    split at hid
    · next he =>
      rw [if_pos he]
    · next he => exact absurd (beq_iff_eq.2 hid) he
  · obtain ⟨hcleared, hcursor, hmem⟩ := s.unitCleared_leaves g p
    have hexec := exec_regressionClear_blank hholder hpending hbooting hphase hstuck hruns hnext hblank
    obtain ⟨l, gs, pl, gl, heq, hlcleared, hlcursor⟩ := (s.unitCleared g p).regressionCheck_frame
    rw [heq] at hexec
    refine ⟨_, hexec, hlcleared.trans hcleared, ?_, hmem⟩
    show l.cursor[g.val] = _
    rw [hlcursor]
    exact hcursor
  · exact ⟨_, exec_regressionClear_starts hholder hpending hbooting hphase hstuck hruns hnext hblank hidle hfits,
      s.startRegressionClear_leaves (posBank p) (s.unitAt p)⟩
  · obtain ⟨hboot, hplinth, hcauses, hmem, hlife, hgates, hover⟩ :=
      (s.modPlinth (fun p => p.recordWritten j)).raised_leaves id (BitVec.setWidth 2 (j.w0.extractLsb' 32 8))
    have hacts : (s.modPlinth (fun p => p.recordWritten j)).recordActs j
        = (s.modPlinth (fun p => p.recordWritten j)).raised id (BitVec.setWidth 2 (j.w0.extractLsb' 32 8)) := by
      unfold State.recordActs
      rw [hpurpose]
    obtain ⟨t, hexec, hcommon, htlife, htgates, htover⟩ := exec_journalWriteDone_leaves hholder hj hruns hbooting hacts hboot
      (Or.inr ((congrArg Life.regPending hlife).trans hpending)) hplinth hcauses hmem
    refine ⟨t, hexec, hcommon, htlife.trans hlife, fun g => ?_, htover id hover⟩
    rw [State.gate, htgates, hgates]
    exact s.bumpEpochs_gate g
  · have hacts : (s.modPlinth (fun p => p.recordWritten j)).recordActs j
        = (s.modPlinth (fun p => p.recordWritten j)).regressionBegins := by
      unfold State.recordActs
      rw [hpurpose]
    obtain ⟨t, hexec, hcommon, htlife, htgates, -⟩ := exec_journalWriteDone_leaves hholder hj hruns hbooting hacts rfl
      (Or.inl (show (2 : BitVec 2) ≠ 3 by decide)) rfl rfl rfl
    refine ⟨t, hexec, hcommon, ?_, ?_, ?_, ?_, ?_, ?_, htgates⟩
    · rw [htlife]
      rfl
    · rw [State.levelNow, htlife]
      rfl
    all_goals rw [htlife]; rfl
  · obtain ⟨hboot, hplinth, hcauses, hmem, hlife, hgates⟩ := (s.modPlinth (fun p => p.recordWritten j)).openAgain_leaves
    have hacts : (s.modPlinth (fun p => p.recordWritten j)).recordActs j
        = (s.modPlinth (fun p => p.recordWritten j)).openAgain := by
      unfold State.recordActs
      rw [hpurpose]
    obtain ⟨t, hexec, hcommon, htlife, htgates, -⟩ := exec_journalWriteDone_leaves hholder hj hruns hbooting hacts hboot
      (Or.inr (congrArg Life.regPending hlife)) hplinth hcauses hmem
    rw [hlife] at htlife
    refine ⟨t, hexec, hcommon, congrArg Life.level htlife, congrArg Life.regPending htlife, congrArg Life.phase htlife, fun g => ?_⟩
    have hgate : t.gate g = (s.bumpEpochs.gate g).shipped := (congrArg (fun v => v[g.val]) htgates).trans (hgates g)
    exact hgate.trans ((congrArg Gate.shipped (s.bumpEpochs_gate g)).trans (s.gate g).shipped_bumped)
  · have hexec : exec .plinthCopyDone s = .next (s.modPlinth (fun p => p.copyDone s.pins.wp)) := by
      refine (State.onEdge_pacing hholder).trans (congrArg Host.Outcome.next ?_)
      rw [hbegun, hruns, if_neg (by decide)]
      exact State.finishRegression_of_idle (Or.inr hpending)
    refine ⟨_, hexec, rfl, ?_⟩
    show (s.plinth.second = false → (s.plinth.copyDone s.pins.wp).queue = _ ∧ (s.plinth.copyDone s.pins.wp).second = _
        ∧ (s.plinth.copyDone s.pins.wp).begun = _)
      ∧ (s.plinth.second = true → (s.plinth.copyDone s.pins.wp).queue = _ ∧ (s.plinth.copyDone s.pins.wp).begun = _
        ∧ ((s.plinth.copyDone s.pins.wp).begun = true → (s.plinth.copyDone s.pins.wp).second = false))
      ∧ (∀ c, d = .config c → s.plinth.second = false → (s.plinth.copyDone s.pins.wp).config.c1 = c
        ∧ (s.plinth.copyDone s.pins.wp).config.v1 = true ∧ (s.plinth.copyDone s.pins.wp).config.v2 = false)
      ∧ ∀ c, d = .config c → s.plinth.second = true → (s.plinth.copyDone s.pins.wp).config.c2 = c
        ∧ (s.plinth.copyDone s.pins.wp).config.v2 = true
    refine ⟨fun hfirst => ?_, fun hsecond => ?_, fun c hc hfirst => ?_, fun c hc hsecond => ?_⟩
    · rw [Plinth.copyDone_first hqueue hfirst]
      obtain ⟨hq, hb, -⟩ := s.plinth.onCopies_queue d (fun c a => c.write1 a)
      exact ⟨hq.trans hqueue, rfl, hb.trans hbegun⟩
    · rw [Plinth.copyDone_second hqueue hsecond]
      obtain ⟨hq, hb, hsec, -⟩ := Plinth.goOn_leaves (p := { s.plinth.onCopies d (fun c a => c.write2 a) with queue := r, begun := false })
        rfl s.pins.wp
      exact ⟨hq, hb, hsec⟩
    · subst hc
      rw [Plinth.copyDone_first hqueue hfirst]
      exact ⟨rfl, rfl, rfl⟩
    · subst hc
      rw [Plinth.copyDone_second hqueue hsecond]
      obtain ⟨-, -, -, hc2, hv2⟩ := Plinth.goOn_leaves
        (p := { s.plinth.onCopies (.config c) (fun c a => c.write2 a) with queue := r, begun := false }) rfl s.pins.wp
      exact ⟨hc2, hv2⟩

end

end Sys2Proof.Machine
end

section
/-! PROOFS. The house: what it submits, and when (O57). -/
namespace Sys2Proof.Machine

section
variable {s : State}

/-! ### A house packet that passes admission (R341, R342, R632) -/

/-- A house packet links to nothing and signals nothing, so it closes no cycle (R242). -/
theorem State.closesCycle_houseAsk (op : Byte) (addr : BitVec 32) (count : Nat) (kind : MoveKind) :
    s.closesCycle (s.opOf (s.houseAsk op addr count kind) 0) = false := by
  have hwaiters : (s.ledger.ops.filter (fun w => w.inGraph && (0xFF : Byte) != 0xFF && w.wait == 0xFF && !w.latched)).map (·.id) = [] := by
    rw [List.filter_eq_nil_iff.2, List.map_nil]
    exact fun w _ => by simp
  unfold State.closesCycle
  dsimp only [State.opOf, State.houseAsk]
  refine (if_neg (by simp)).trans ?_
  rw [hwaiters]
  rfl

/-- Check 3 lets a KILN or REPOINT through outside boot, regression and drain (R450, Table 12.3). -/
theorem State.check3_houseAsk {op : Byte} (hop : op = opKiln ∨ op = opRepoint) (addr : BitVec 32) (count : Nat) (kind : MoveKind)
    (hboot : s.booting = false) (hpending : s.life.regPending = false) (hdrain : s.draining = false) :
    s.check3 (s.houseAsk op addr count kind) = (s, true) := by
  unfold State.check3
  rw [hboot, hpending, hdrain]
  rcases hop with rfl | rfl <;> rfl

/-- The house submits one packet that commits, as the next operation of S31. -/
theorem State.houseSubmit_commits {op : Byte} {count : Nat} (hop : op = opKiln ∨ op = opRepoint ∧ count = 1) (addr : BitVec 32)
    (kind : MoveKind) (h : s.houseAdmits op count = true) : ∃ l su tr fc,
    s.houseSubmit op addr count kind = ({ s with ledger := l, subs := su, trace := tr, freeCtr := fc }, true)
    ∧ ∃ (o : Op) (k : Fin 256), l.ops = s.ledger.ops ++ [o] ∧ k ∈ s.freeSlots ∧ o.origin = .ledger k
      ∧ o.id = s.ledger.nextId ∧ o.sub = 31 ∧ o.state = .queued ∧ o.work = .waiting ∧ o.opcode = op ∧ o.addr = addr
      ∧ o.count = BitVec.ofNat 16 count ∧ o.kind = kind ∧ o.seq = (s.sub 31).last + 1 ∧ o.admitted = s.stamp
      ∧ o.after = 0xFF ∧ o.wait = 0xFF ∧ o.signal = 0xFF ∧ o.flags = 0 := by
  have hop' : op = opKiln ∨ op = opRepoint := hop.imp_right And.left
  simp only [State.houseAdmits, Bool.and_eq_true, Bool.not_eq_true', List.isEmpty_eq_false_iff] at h
  obtain ⟨⟨⟨⟨⟨hboot, hpending⟩, hdrain⟩, hopen⟩, hfree⟩, hcolour⟩ := h
  have hcharge : s.chargeOf op (BitVec.ofNat 16 count).toNat = s.chargeOf op count := by
    rcases hop with rfl | ⟨rfl, rfl⟩ <;> rfl
  have hnoyard : takesYard op = false := by
    rcases hop' with rfl | rfl <;> rfl
  obtain ⟨v, o, k, hadmit, hadm⟩ := State.admitFrom3_admitted (a := s.houseAsk op addr count kind)
    (State.check3_houseAsk hop' addr count kind hboot hpending hdrain) hopen hfree (State.closesCycle_houseAsk op addr count kind)
    (fun _ => (congrArg (fun c => ((s.sub 31).colourOf c).isSome) hcharge).trans hcolour) rfl
    (fun hy => absurd (hnoyard.symm.trans hy) Bool.false_ne_true)
  have hbuilt := hadm.built
  have hopcode : o.opcode = op := by rw [hbuilt]; rfl
  have hcommit : v.commit o = v.joined o := v.commit_joined
    (by rw [hopcode]; rcases hop' with rfl | rfl <;> decide) (by rw [hopcode]; rcases hop' with rfl | rfl <;> decide)
    (by rw [hopcode]; rcases hop' with rfl | rfl <;> decide)
  have hjoined := v.joined_joined o
  have hstamp : v.stamp = s.stamp := by
    rw [hadm.rest]
    rfl
  refine ⟨(v.joined o).ledger, (v.joined o).subs, (v.joined o).trace, v.freeCtr, ?_, o.queuedAt v.stamp, k, ?_, hadm.slot, ?_⟩
  · have hsubmit : s.houseSubmit op addr count kind = (v.commit o, true) := by
      unfold State.houseSubmit
      dsimp only
      rw [hadmit]
    rw [hsubmit, hcommit]
    refine congrArg (fun t : State => (t, true)) (hjoined.rest.trans ?_)
    rw [hadm.rest]
  · rw [hjoined.ops, hadm.rest]
  · rw [hstamp, hbuilt]
    exact ⟨rfl, rfl, rfl, rfl, rfl, rfl, rfl, rfl, rfl, rfl, rfl, rfl, rfl, rfl, rfl⟩

/-- A duty's submission: the one of the edge (R343). -/
theorem State.dutySubmit_submits {op : Byte} {count : Nat} (hop : op = opKiln ∨ op = opRepoint ∧ count = 1) (addr : BitVec 32)
    (kind : MoveKind) (h : s.houseAdmits op count = true) : ∃ t, s.dutySubmit op addr count kind = (t, true)
    ∧ s.submits t op addr count kind ∧ t = { s with ledger := t.ledger, subs := t.subs, trace := t.trace, freeCtr := t.freeCtr,
                                                    upkeep := { s.upkeep with houseDone := true } } := by
  obtain ⟨l, su, tr, fc, heq, hjoins⟩ := State.houseSubmit_commits hop addr kind h
  unfold State.dutySubmit
  rw [heq]
  exact ⟨_, rfl, ⟨hjoins, rfl, rfl, rfl, rfl, rfl⟩, rfl⟩

/-! ### OVERDUE (R346) changes no duty -/

/-- The same state but for OVERDUE bits. -/
def State.LikeButOverdue (s t : State) : Prop :=
  t = { s with banks := t.banks } ∧ ∀ b : BankId, ∃ x : Bool, t.bank b = { s.bank b with overdue := x }

theorem State.noteOverdue_like (s : State) : s.LikeButOverdue s.noteOverdue := by
  refine forEach_inv (P := s.LikeButOverdue) (fun t b ht => ?_) mainBanks s ⟨rfl, fun b => ⟨(s.bank b).overdue, rfl⟩⟩
  obtain ⟨hframe, hbanks⟩ := ht
  split
  · refine ⟨hframe ▸ rfl, fun k => ?_⟩
    by_cases hk : k = bankIx b
    · subst hk
      obtain ⟨x, hx⟩ := hbanks (bankIx b)
      exact ⟨true, by rw [State.modBank_bank_self, hx]⟩
    · rw [State.modBank_bank_of_ne _ (bankIx b) _ k hk]
      exact hbanks k
  · exact ⟨hframe, hbanks⟩

theorem State.kilnDue_of_like {t : State} (h : s.LikeButOverdue t) : t.kilnDue = s.kilnDue := by
  obtain ⟨hframe, hbanks⟩ := h
  have hkept : ∀ b : BankId, (t.bank b).kept = (s.bank b).kept := fun b => by
    obtain ⟨x, hx⟩ := hbanks b
    rw [hx]
  have hmoves : ∀ (b : BankId) (id : Nat), (t.bank b).moveOf id = (s.bank b).moveOf id := fun b id => by
    obtain ⟨x, hx⟩ := hbanks b
    rw [hx]
    rfl
  have hwear : ∀ (b : BankId) (k : Nat), t.wearOf b k = s.wearOf b k := fun b k => by
    have hplinth : t.plinthWear b k = s.plinthWear b k := by
      rw [hframe]
      rfl
    obtain ⟨x, hx⟩ := hbanks b
    unfold State.wearOf
    rw [hx, hplinth]
  have hslots : t.hotSlots = s.hotSlots := by
    funext b
    unfold State.hotSlots
    simp only [hwear]
    rw [hframe]
  have hslot : t.kilnDueSlot = s.kilnDueSlot := by
    funext b k
    unfold State.kilnDueSlot
    rw [hkept]
  have hclosed : t.closedBank = s.closedBank := by
    rw [hframe]
    rfl
  have hhouse : t.houseOn = s.houseOn := by
    funext b
    unfold State.houseOn
    simp only [hmoves]
    rw [hframe]
  unfold State.kilnDue
  rw [hslots, hslot, hclosed, hhouse]

/-- KILN_DUTY with a duty due (R341, R346, R355). -/
theorem exec_kilnDuty {b : Fin 64} {k : Nat} (htime : s.onTime orderHouse = true) (hopen : s.dutiesOpen = true)
    (hdue : s.kilnDue = some (b, k)) : exec .kilnDuty s = .next ((if s.noteOverdue.pins.wp then
      (s.noteOverdue.dutySubmit opKiln (bankBaseOf b) k .kilnSwap).1 else s.noteOverdue.passOver).atStage orderHouse) := by
  have hdue' : s.noteOverdue.kilnDue = some (b, k) := (State.kilnDue_of_like s.noteOverdue_like).trans hdue
  refine (State.onStep_onTime htime _).trans (congrArg (fun t : State => Host.Outcome.next (t.atStage orderHouse)) ?_)
  rw [hopen, Bool.not_true, if_neg Bool.false_ne_true]
  dsimp only
  rw [hdue']

/-- Settles O57: each duty's row, and the admission of house packets that they share. -/
theorem houseDuties : Obligations.HouseDuties := by
  refine ⟨fun s b k htime hready hdue h => ?_, fun s b k htime hopen hdue hwp h => ?_, fun s b k htime hopen hdue hwp hpassed => ?_,
    fun s b l htime hopen hwp hkiln hdue hblock h => ?_, fun s b l htime hopen hdue hkiln hslide hat h => ?_,
    fun s b r htime hdue h => ?_⟩
  · obtain ⟨t, hduty, hsubmits, hframe⟩ := State.dutySubmit_submits (.inl rfl) (bankBaseOf b) .kilnSwap h
    have hexec : exec .tidyKiln s = .next (t.atStage orderHouse) := by
      refine (State.onStep_onTime htime _).trans (congrArg (fun t : State => Host.Outcome.next (t.atStage orderHouse)) ?_)
      rw [hready, hdue, Bool.not_true, if_neg Bool.false_ne_true]
      dsimp only
      rw [hduty]
    refine ⟨_, hexec, hsubmits, ?_⟩
    rw [hframe]
    rfl
  · obtain ⟨hlike, -⟩ := s.noteOverdue_like
    have hexec := exec_kilnDuty htime hopen hdue
    generalize s.noteOverdue = v at *
    obtain ⟨t, hduty, hsubmits, hframe⟩ := State.dutySubmit_submits (s := v) (count := k) (.inl rfl) (bankBaseOf b) .kilnSwap
      (by rw [hlike]; exact h)
    rw [show v.pins.wp = true by rw [hlike]; exact hwp, if_pos rfl, hduty] at hexec
    refine ⟨_, hexec, ?_⟩
    rw [hlike] at hsubmits
    exact hsubmits
  · obtain ⟨hlike, -⟩ := s.noteOverdue_like
    have hexec := exec_kilnDuty htime hopen hdue
    generalize s.noteOverdue = v at *
    have hpass : v.passOver = v.countDeferred.modUpkeep (fun u => { u with passedOver := true }) :=
      if_neg (by rw [hlike]; exact fun hp => Bool.false_ne_true (hpassed.symm.trans hp))
    rw [show v.pins.wp = false by rw [hlike]; exact hwp, if_neg Bool.false_ne_true, hpass] at hexec
    refine ⟨_, hexec, ?_⟩
    rw [hlike]
    exact ⟨rfl, rfl, rfl, rfl⟩
  · obtain ⟨t, hduty, hsubmits, hframe⟩ := State.dutySubmit_submits (.inr ⟨rfl, rfl⟩) (blockAddr b l) .slide h
    have hexec : exec .slideDuty s = .next ((t.modBank (bankIx b)
        (fun k => { k with since := k.since - BitVec.ofNat 16 s.slideInterval })).atStage orderHouse) := by
      refine (State.onStep_onTime htime _).trans (congrArg (fun t : State => Host.Outcome.next (t.atStage orderHouse)) ?_)
      rw [hopen, hwp, hkiln, hdue, if_neg (by decide)]
      dsimp only
      rw [hblock]
      dsimp only
      rw [Bool.not_true, if_neg Bool.false_ne_true, hduty]
      exact if_pos rfl
    have hbank : ∀ k : BankId, t.bank k = s.bank k := fun k => by
      rw [hframe]
      rfl
    generalize hf : (fun k : Bank => { k with since := k.since - BitVec.ofNat 16 s.slideInterval }) = f at hexec
    have hself := t.modBank_bank_self (bankIx b) f
    have hothers := t.modBank_bank_of_ne (bankIx b) f
    refine ⟨_, hexec, hsubmits, (congrArg Bank.since hself).trans ?_, fun k hk => (hothers k hk).trans (hbank k)⟩
    rw [← hf, hbank]
    rfl
  · obtain ⟨t, hduty, hsubmits, hframe⟩ := State.dutySubmit_submits
      (s := s.modUpkeep (fun u => { u with nextbank := BitVec.ofNat 6 b.val, nextblock := BitVec.ofNat 9 l }))
      (.inr ⟨rfl, rfl⟩) (blockAddr b l) .scrub h
    have hexec : exec .scrubDuty s = .next ((t.modUpkeep (fun u => { u with
        scrubTicks := 0, nextblock := u.nextblock + 1, nextbank := if u.nextblock = 511 then u.nextbank + 1 else u.nextbank })).atStage
        orderHouse) := by
      refine (State.onStep_onTime htime _).trans (congrArg (fun t : State => Host.Outcome.next (t.atStage orderHouse)) ?_)
      rw [hopen, hdue, hkiln, hslide, hat, if_neg (by simp)]
      dsimp only
      rw [hduty]
      exact if_pos rfl
    have hupkeep : t.upkeep = { s.upkeep with nextbank := BitVec.ofNat 6 b.val, nextblock := BitVec.ofNat 9 l, houseDone := true } := by
      rw [hframe]
      rfl
    obtain ⟨hjoins, hdone, hmem, hgates, hlife, hplinth⟩ := hsubmits
    refine ⟨_, hexec, ⟨hjoins, hdone, hmem, hgates, hlife, hplinth⟩, rfl, ?_, ?_, ?_⟩
    · show t.upkeep.nextblock + 1 = _
      rw [hupkeep]
    · show (if t.upkeep.nextblock = 511 then t.upkeep.nextbank + 1 else t.upkeep.nextbank) = _
      rw [hupkeep]
    · rw [hframe]
      rfl
  · obtain ⟨l, su, tr, fc, heq, hjoins⟩ := State.houseSubmit_commits (.inr ⟨rfl, rfl⟩)
      (BitVec.ofNat 32 (b.val * 0x2000000 + r.block * 0x10000)) .relocation h
    have hexec : exec (.relocation b) s = .next (((({ s with ledger := l, subs := su, trace := tr, freeCtr := fc } : State).modUpkeep
        (fun u => { u with houseDone := true })).modBank b (fun k => k.relocTried r (some s.ledger.nextId))).atStage orderHouse) := by
      refine (State.onStep_onTime htime _).trans (congrArg (fun t : State => Host.Outcome.next (t.atStage orderHouse)) ?_)
      rw [hdue]
      dsimp only
      rw [heq]
      rfl
    generalize hu : (({ s with ledger := l, subs := su, trace := tr, freeCtr := fc } : State).modUpkeep
        (fun u => { u with houseDone := true })) = u at hexec
    have hubank : ∀ k : BankId, u.bank k = s.bank k := hu ▸ fun k => rfl
    have hself := u.modBank_bank_self b (fun k => k.relocTried r (some s.ledger.nextId))
    have hothers := u.modBank_bank_of_ne b (fun k => k.relocTried r (some s.ledger.nextId))
    refine ⟨_, hexec, hu ▸ ⟨hjoins, rfl, rfl, rfl, rfl, rfl⟩, ?_, fun k hk => (hothers k hk).trans (hubank k)⟩
    refine (congrArg (fun k : Bank => _ ∈ k.relocs) hself).mpr ?_
    rw [hubank]
    exact List.mem_map.2 ⟨r, List.mem_of_find?_eq_some hdue, if_pos rfl⟩

end

end Sys2Proof.Machine
end

section
/-! PROOFS. Direct fetches: what they leave alone, how they begin and how each stone goes out (O20, O21). -/
namespace Sys2Proof.Machine

/-! ### What a fetch leaves alone -/

/-- Of `s`, only what the fetch of port `p` may move has moved. -/
def State.ByFetch (p : PortId) (s t : State) : Prop := s.fetchKeeps t ∧ ∀ q : PortId, q ≠ p → t.port q = s.port q

section
variable {s t u : State} {p : PortId}

theorem State.ByFetch.refl (p : PortId) (s : State) : s.ByFetch p s :=
  ⟨⟨rfl, rfl, rfl, rfl, rfl, rfl, rfl, rfl, rfl, rfl, fun _ => ⟨rfl, rfl, rfl, rfl⟩⟩, fun _ _ => rfl⟩

theorem State.ByFetch.trans (h : s.ByFetch p t) (h' : t.ByFetch p u) : s.ByFetch p u := by
  obtain ⟨⟨a1, a2, a3, a4, a5, a6, a7, a8, a9, a10, hbank⟩, hport⟩ := h
  obtain ⟨⟨b1, b2, b3, b4, b5, b6, b7, b8, b9, b10, hbank'⟩, hport'⟩ := h'
  refine ⟨⟨b1.trans a1, b2.trans a2, b3.trans a3, b4.trans a4, b5.trans a5, b6.trans a6, b7.trans a7, b8.trans a8, b9.trans a9,
    b10.trans a10, fun b => ?_⟩, fun q hq => (hport' q hq).trans (hport q hq)⟩
  obtain ⟨h1, h2, h3, h4⟩ := hbank b
  obtain ⟨k1, k2, k3, k4⟩ := hbank' b
  exact ⟨k1.trans h1, k2.trans h2, k3.trans h3, k4.trans h4⟩

theorem State.ByFetch.modPort (h : s.ByFetch p t) (f : Port → Port) : s.ByFetch p (t.modPort p f) :=
  h.trans ⟨⟨rfl, rfl, rfl, rfl, rfl, rfl, rfl, rfl, rfl, rfl, fun _ => ⟨rfl, rfl, rfl, rfl⟩⟩, fun q hq => State.modPort_port_of_ne t p f q hq⟩

theorem State.ByFetch.useFree (h : s.ByFetch p t) : s.ByFetch p t.useFree :=
  h.trans ⟨⟨rfl, rfl, rfl, rfl, rfl, rfl, rfl, rfl, rfl, rfl, fun _ => ⟨rfl, rfl, rfl, rfl⟩⟩, fun _ _ => rfl⟩

theorem State.ByFetch.addTrace (h : s.ByFetch p t) (a : Byte) (k : Option (Fin 256)) (b : Nat) (v : BitVec 16) :
    s.ByFetch p (t.addTrace a k b v) :=
  h.trans ⟨⟨rfl, rfl, rfl, rfl, rfl, rfl, rfl, rfl, rfl, rfl, fun _ => ⟨rfl, rfl, rfl, rfl⟩⟩, fun _ _ => rfl⟩

/-- A bank may move in what a fetch does not look at. -/
theorem State.ByFetch.modBank (h : s.ByFetch p t) (b : BankId) (f : Bank → Bank)
    (hf : ∀ k, (f k).state = k.state ∧ (f k).clear = k.clear ∧ (f k).lay = k.lay ∧ (f k).kept = k.kept) : s.ByFetch p (t.modBank b f) := by
  refine h.trans ⟨⟨rfl, rfl, rfl, rfl, rfl, rfl, rfl, rfl, rfl, rfl, fun k => ?_⟩, fun _ _ => rfl⟩
  by_cases hk : k = b
  · subst hk
    rw [State.modBank_bank_self]
    exact hf _
  · rw [State.modBank_bank_of_ne _ b _ k hk]
    exact ⟨rfl, rfl, rfl, rfl⟩

theorem Bank.plumbStep_keeps (k : Bank) (d : Int) :
    (k.plumbStep d).state = k.state ∧ (k.plumbStep d).clear = k.clear ∧ (k.plumbStep d).lay = k.lay ∧ (k.plumbStep d).kept = k.kept := by
  unfold Bank.plumbStep
  dsimp only
  split
  · split <;> exact ⟨rfl, rfl, rfl, rfl⟩
  · split
    · split <;> exact ⟨rfl, rfl, rfl, rfl⟩
    · exact ⟨rfl, rfl, rfl, rfl⟩

/-- The noise that a read leaves: trace and LEAN. -/
theorem State.ByFetch.noteRead (h : s.ByFetch p t) (b : BankId) (k : Option (Fin 256)) (ix : Nat) (r : StoneRead) :
    s.ByFetch p (t.noteRead b k ix r) ∧ (t.noteRead b k ix r).ports = t.ports := by
  have hfeed : ∀ v : State, s.ByFetch p v → v.ports = t.ports → s.ByFetch p (v.plumbFeed b r.lean) ∧ (v.plumbFeed b r.lean).ports = t.ports := by
    intro v hv hp
    unfold State.plumbFeed
    split
    · exact ⟨hv, hp⟩
    · exact ⟨hv.modBank b _ (fun k => k.plumbStep_keeps r.lean), hp⟩
  unfold State.noteRead
  dsimp only
  split
  · exact hfeed _ (h.addTrace _ _ _ _) rfl
  · split
    · exact hfeed _ (h.addTrace _ _ _ _) rfl
    · exact hfeed _ h rfl

theorem State.fetchOn_port (s : State) (p : PortId) (b : Option BankId) : (s.fetchOn p b).port p = { s.port p with fetchBank := b } := by
  unfold State.fetchOn
  dsimp only
  rw [State.modPort_port_self]
  split
  · split <;> rfl
  · rfl

theorem State.ByFetch.fetchOn (h : s.ByFetch p t) (b : Option BankId) : s.ByFetch p (t.fetchOn p b) := by
  unfold State.fetchOn
  dsimp only
  split
  · split
    · exact h.modPort _
    · exact (h.modBank _ (fun k => { k with quiet := 0 }) fun _ => ⟨rfl, rfl, rfl, rfl⟩).modPort _
  · exact h.modPort _

/-- What a reply reports is not the fetch's to move. -/
theorem State.ByFetch.replyFed (h : s.ByFetch p t) (hmask : (t.port p).mask = (s.port p).mask) (hsupply : t.pins.supply = s.pins.supply)
    (hboot : t.boot = s.boot) (c : Cond) (data : List Byte) (feed : Feed) : t.replyFed p c data feed = s.replyFed p c data feed := by
  obtain ⟨⟨-, hledger, -, -, hlife, -⟩, -⟩ := h
  have hdrives : t.drives p = s.drives p := by
    unfold State.drives
    rw [hsupply]
  have hattn : t.attn p = s.attn p := by
    unfold State.attn State.recordsFor
    rw [hmask, hledger]
  have hbit : t.bootBit = s.bootBit := by
    unfold State.bootBit State.booting
    rw [hboot, hlife]
  unfold State.replyFed
  rw [hdrives, hattn, hbit]

/-! ### What a stone meets does not depend on the port's own business -/

theorem State.stoneMeets_modPort (f : Port → Port) (h : (f (s.port p)).dflt = (s.port p).dflt) (start : Region) (passed : Bool)
    (a : BitVec 32) : (s.modPort p f).stoneMeets p start passed a = s.stoneMeets p start passed a := by
  have hdflt : ((s.modPort p f).port p).dflt = (s.port p).dflt := by
    rw [State.modPort_port_self]
    exact h
  have hviol : ∀ (g : GateId) c, (s.modPort p f).fetchViolation g p a c = s.fetchViolation g p a c := fun g c => by
    unfold State.fetchViolation
    rw [hdflt]
  unfold State.stoneMeets
  simp only [hdflt, hviol]
  rfl

theorem State.rawMeets_modPort (f : Port → Port) (b : Fin 64) (a : BitVec 32) : (s.modPort p f).rawMeets b a = s.rawMeets b a := rfl

theorem FetchRun.source_raw {f : FetchRun} (h : f.raw = true) : f.source = .raw (paddrBank f.first) := if_pos h

theorem FetchRun.source_logical {f : FetchRun} (h : f.raw = false) : f.source = .logical (regionOf f.first) :=
  if_neg (by rw [h]; exact Bool.false_ne_true)

/-- Addresses of the main array, the mark array and the info page lie in no window. -/
theorem windowOf_of_region {a : BitVec 32} {start : Region} (ha : regionOf a = start) (h : start = .main ∨ start = .marks ∨ start = .info) :
    windowOf a = none := by
  unfold windowOf
  rcases h with rfl | rfl | rfl <;> rw [ha]

/-! ### The first stone (R293) -/

/-- A fetch of an array stone that is served starts: its reply opens, its first stone is being read. -/
theorem State.fetchStarts_leaves {f : FetchRun} {b : BankId} (hb : f.source.bank f.addr = some b) : let t := s.fetchStarts p f
    s.ByFetch p t ∧ t.port p = { s.port p with
      fetchBank := some b, fetch := some (s.readFrom f), hold := none, reading := true, reply := s.replyFed p .ok [] .stones } := by
  intro t
  have hself := s.fetchOn_port p (some b)
  have hby := (State.ByFetch.refl p s).fetchOn (some b)
  have hframe : (s.fetchOn p (some b)).pins = s.pins ∧ (s.fetchOn p (some b)).boot = s.boot := by
    unfold State.fetchOn
    dsimp only
    split
    · split <;> exact ⟨rfl, rfl⟩
    · exact ⟨rfl, rfl⟩
  have ht : t = ((s.fetchOn p (some b)).modPort p (fun x => { x with
      fetch := some (s.readFrom f), hold := none, reading := x.fetchBank.isSome })).replyWith p .ok [] .stones := by
    show s.fetchStarts p f = _
    unfold State.fetchStarts
    dsimp only
    rw [hb]
  generalize s.fetchOn p (some b) = v at *
  have hby' := hby.modPort (fun x => { x with fetch := some (s.readFrom f), hold := none, reading := x.fetchBank.isSome })
  have hself' := v.modPort_port_self p (fun x => { x with fetch := some (s.readFrom f), hold := none, reading := x.fetchBank.isSome })
  rw [hself] at hself'
  have hpins : (v.modPort p (fun x => { x with fetch := some (s.readFrom f), hold := none, reading := x.fetchBank.isSome })).pins = s.pins :=
    hframe.1
  have hboot : (v.modPort p (fun x => { x with fetch := some (s.readFrom f), hold := none, reading := x.fetchBank.isSome })).boot = s.boot :=
    hframe.2
  generalize v.modPort p (fun x => { x with fetch := some (s.readFrom f), hold := none, reading := x.fetchBank.isSome }) = w at *
  have hreply : w.replyFed p .ok [] .stones = s.replyFed p .ok [] .stones :=
    hby'.replyFed (by rw [hself']) (by rw [hpins]) hboot .ok [] .stones
  rw [ht]
  refine ⟨hby'.modPort _, ?_⟩
  rw [State.replyWith, State.modPort_port_self, hself', ← hreply]
  rfl

/-- A first stone that is ready is read. -/
theorem State.fetchFirst_ready {f : FetchRun} (h : s.fetchMeetsNext p f = .ready) : s.fetchFirst p f = s.fetchStarts p f := by
  unfold State.fetchFirst
  rw [h]

/-- A first stone at a stop is refused. -/
theorem State.fetchFirst_stop {f : FetchRun} (h : s.fetchMeetsNext p f = .stop) : s.fetchFirst p f = s.fetchRefused p .deny := by
  unfold State.fetchFirst
  rw [h]
  rfl

/-- A direct fetch as its command phase leaves it, before its first stone is asked for. -/
def State.fetchBegun (s : State) (raw : Bool) (flips : Flips) (a : BitVec 32) (rx : List Byte) : FetchRun :=
  { raw := raw, first := a, addr := a, index := 0, passed := false, ready := s.pace.devtime, rowAt := s.pace.devtime,
    flips := flips, rx := rx }

/-- The command phase of a fetch, with STONES at 0. -/
def State.fetchHeard (s : State) (tx : Tx) (op : Byte) : State := (s.received tx op).modPort tx.port (fun x => { x with stones := 0 })

section
variable {tx : Tx} {op : Byte}

theorem State.fetchHeard_byFetch (s : State) (tx : Tx) (op : Byte) : s.ByFetch tx.port (s.fetchHeard tx op) :=
  ((State.ByFetch.refl tx.port s).modPort _).modPort _

theorem State.fetchHeard_port (s : State) (tx : Tx) (op : Byte) :
    (s.fetchHeard tx op).port tx.port = { (s.received tx op).port tx.port with stones := 0 } := State.modPort_port_self _ _ _

theorem State.stoneMeets_fetchHeard (start : Region) (passed : Bool) (a : BitVec 32) :
    (s.fetchHeard tx op).stoneMeets tx.port start passed a = s.stoneMeets tx.port start passed a := by
  unfold State.fetchHeard
  rw [State.stoneMeets_modPort _ rfl, State.received, State.stoneMeets_modPort _ (Port.track_dflt _ _)]

theorem State.replyFed_fetchHeard (c : Cond) (data : List Byte) (feed : Feed) :
    (s.fetchHeard tx op).replyFed tx.port c data feed = s.replyFed tx.port c data feed := by
  refine Eq.trans ?_ (State.replyFed_received s tx op tx.port c data feed)
  unfold State.fetchHeard State.replyFed
  rw [State.attn_modPort _ rfl]
  rfl

theorem State.startFetch_eq (raw : Bool) (flips : Flips) (a : BitVec 32) (rx : List Byte) :
    (s.received tx op).startFetch tx raw flips a rx = (s.fetchHeard tx op).fetchFirst tx.port (s.fetchBegun raw flips a rx) := rfl

/-- FETCH and RAW FETCH of an array stone that its bank serves. -/
theorem State.startFetch_serves {raw : Bool} {a : BitVec 32} {b : BankId} (flips : Flips) (rx : List Byte)
    (hb : (s.fetchBegun raw flips a rx).source.bank a = some b)
    (hmeets : (s.fetchHeard tx op).fetchMeetsNext tx.port (s.fetchBegun raw flips a rx) = .ready) :
    let t := (s.received tx op).startFetch tx raw flips a rx
    (t.port tx.port).reply = s.replyFed tx.port .ok [] .stones ∧ (t.port tx.port).stones = 0
      ∧ (t.port tx.port).fetch = some {
          raw := raw, first := a, addr := a, index := 0, passed := true, ready := s.pace.devtime + s.fetchPs,
          rowAt := s.pace.devtime, flips := flips, rx := rx }
      ∧ (t.port tx.port).hold = none ∧ (t.port tx.port).reading = true ∧ (t.port tx.port).fetchBank = some b
      ∧ s.ByFetch tx.port t := by
  intro t
  have ht : t = (s.fetchHeard tx op).fetchStarts tx.port (s.fetchBegun raw flips a rx) :=
    State.fetchFirst_ready hmeets
  obtain ⟨hby, hport⟩ := State.fetchStarts_leaves (s := s.fetchHeard tx op) (p := tx.port) (f := s.fetchBegun raw flips a rx) hb
  rw [ht]
  refine ⟨?_, ?_, ?_, ?_, ?_, ?_, (s.fetchHeard_byFetch tx op).trans hby⟩
  · rw [hport]
    exact State.replyFed_fetchHeard .ok [] .stones
  · rw [hport, State.fetchHeard_port]
  · rw [hport]
    rfl
  all_goals rw [hport]

/-- A fetch whose first stone is stopped ends with DENY (Table 05.2). -/
theorem State.startFetch_stops {raw : Bool} {a : BitVec 32} (flips : Flips) (rx : List Byte)
    (hmeets : (s.fetchHeard tx op).fetchMeetsNext tx.port (s.fetchBegun raw flips a rx) = .stop) :
    let t := (s.received tx op).startFetch tx raw flips a rx
    (t.port tx.port).reply = s.replyOf tx.port .deny [] ∧ (t.port tx.port).stones = 0 ∧ (t.port tx.port).fetch = none
      ∧ s.ByFetch tx.port t := by
  intro t
  have ht : t = (s.fetchHeard tx op).fetchRefused tx.port .deny :=
    State.fetchFirst_stop hmeets
  generalize hw : (s.fetchHeard tx op).modPort tx.port (fun x => { x with reading := false, fetch := none, hold := none }) = w
  have hself : w.port tx.port = { (s.fetchHeard tx op).port tx.port with reading := false, fetch := none, hold := none } := by
    rw [← hw, State.modPort_port_self]
  have hby : s.ByFetch tx.port w := hw ▸ (s.fetchHeard_byFetch tx op).modPort _
  have hreply : w.replyOf tx.port .deny [] = s.replyOf tx.port .deny [] := by
    refine (hby.replyFed ?_ (hw ▸ rfl) (hw ▸ rfl) .deny [] .ones)
    rw [hself, State.fetchHeard_port, State.received_port_self]
    simp
  have htw : t = w.answer tx.port .deny [] := ht.trans (hw ▸ rfl)
  rw [htw]
  refine ⟨(State.answer_reply w tx.port .deny []).trans hreply, ?_, ?_, hby.modPort _⟩
  · rw [State.answer, State.replyWith, State.modPort_port_self, hself, State.fetchHeard_port]
  · rw [State.answer, State.replyWith, State.modPort_port_self, hself]

/-! ### A later stone goes out (R177, R268, R290) -/

/-- What is appended to a reply whose bytes so far have gone out goes out from its own beginning. -/
theorem State.emit_appended {w data : List Byte} (hwire : (s.port p).wire = w ++ data) (hbits : (s.port p).reply.bits = 8 * w.length)
    (hfeed : (s.port p).reply.feed ≠ .progress) (hdata : 2 < data.length) :
    s.emit p = s.modPort p (fun x => x.sent (cellAt data (s.port p).txMode 0) ((s.port p).reply.bits + modeBits (s.port p).txMode)) := by
  have hlen : (s.port p).wire.length = w.length + data.length := by rw [hwire, List.length_append]
  have hmode := (modeBits_le (s.port p).txMode).2
  rw [State.emit_goesOn hfeed (.inl (by rw [hlen, hbits]; omega)) (fun _ => by rw [hlen, hbits]; omega), hwire, hbits, cellAt_append]

/-- A port whose fetch has driven the bytes of a stone and stands at `f`. -/
def Port.drives (x : Port) (f : FetchRun) (bytes : List Byte) : Port :=
  { x with fetch := some f, reply := { x.reply with data := x.reply.data ++ bytes } }

theorem Port.wire_drives (x : Port) (f : FetchRun) (bytes : List Byte) : (x.drives f bytes).wire = x.wire ++ bytes :=
  Port.wire_fed x bytes x.reply.feed

/-- A fetch whose next stone is due and served drives it (R95, R173). -/
theorem State.nextStone_drives {f : FetchRun} {v : State} {bytes rx : List Byte} (hripe : s.ripe f = true)
    (hmeets : s.fetchMeetsNext p f = .ready)
    (hdrive : s.driveStone p f.source f.addr (flipOf f.flips f.index) f.rx = (v, .ok bytes, rx)) :
    s.nextStone p f = v.modPort p (fun x => x.drives (v.fetchAfter f rx) bytes) := by
  unfold State.nextStone
  dsimp only
  rw [hripe, Bool.not_true, if_neg Bool.false_ne_true, hmeets]
  dsimp only
  rw [hdrive]
  rfl

/-- The reply of a fetch asks for its next stone. -/
theorem State.pull_stone {f : FetchRun} (hfeed : (s.port p).reply.feed = .stones) (hfetch : (s.port p).fetch = some f)
    (hhold : (s.port p).hold = none) : s.pull p = s.nextStone p f := by
  unfold State.pull
  dsimp only
  rw [hfeed]
  dsimp only
  rw [hfetch]
  dsimp only
  rw [hhold]
  rfl

/-- The stone that has just been driven begins to go out. -/
theorem State.emit_drives {g : FetchRun} {bytes : List Byte} (hall : (s.port p).reply.bits = 8 * (s.port p).wire.length)
    (hfeed : (s.port p).reply.feed ≠ .progress) (hbytes : 2 < bytes.length) :
    (s.modPort p (fun x => x.drives g bytes)).emit p = s.modPort p (fun x => (x.drives g bytes).sent (cellAt bytes (s.port p).txMode 0)
      ((s.port p).reply.bits + modeBits (s.port p).txMode)) := by
  have hself := State.modPort_port_self s p (fun x => x.drives g bytes)
  have hemit := State.emit_appended (s := s.modPort p (fun x => x.drives g bytes)) (p := p) (w := (s.port p).wire) (data := bytes)
    (by rw [hself, Port.wire_drives]) (by rw [hself]; exact hall) (by rw [hself]; exact hfeed) hbytes
  rw [hemit, hself, State.modPort_modPort]
  rfl

/-- An SCK edge that asks a fetch for its next stone. -/
theorem exec_asks_stone (inp : EdgeIn) {f : FetchRun} {v : State} {bytes rx : List Byte} (h : s.owesNext p = true)
    (hfeed : (s.port p).reply.feed = .stones) (hfetch : (s.port p).fetch = some f) (hhold : (s.port p).hold = none)
    (hripe : s.ripe f = true) (hmeets : (s.modPort p Port.cycled).fetchMeetsNext p f = .ready)
    (hdrive : (s.modPort p Port.cycled).driveStone p f.source f.addr (flipOf f.flips f.index) f.rx = (v, .ok bytes, rx))
    (hby : (s.modPort p Port.cycled).ByFetch p v) (hreply : (v.port p).reply = (s.port p).reply)
    (hmode : (v.port p).txMode = (s.port p).txMode) (hbytes : 2 < bytes.length) : ∃ t, exec (.paceEdge p inp) s = .next t
      ∧ s.ByFetch p t ∧ t.port p = ((v.port p).drives (s.fetchAfter f rx) bytes).sent (cellAt bytes (s.port p).txMode 0)
          ((s.port p).reply.bits + modeBits (s.port p).txMode) := by
  obtain ⟨hcycle, hbits, hall⟩ := State.owesNext_iff.1 h
  have hself : (s.modPort p Port.cycled).port p = (s.port p).cycled := State.modPort_port_self s p _
  have hpull : (s.modPort p Port.cycled).pull p = (s.modPort p Port.cycled).nextStone p f :=
    State.pull_stone (by rw [hself]; exact hfeed) (by rw [hself]; exact hfetch) (by rw [hself]; exact hhold)
  have hnext := State.nextStone_drives (s := s.modPort p Port.cycled) hripe hmeets hdrive
  have hafter : v.fetchAfter f rx = s.fetchAfter f rx := by
    obtain ⟨⟨-, -, -, -, -, -, hpace, -⟩, -⟩ := hby
    unfold State.fetchAfter
    rw [hpace]
    rfl
  have hwire : (v.port p).wire = (s.port p).wire := by
    unfold Port.wire
    rw [hmode, hreply]
  have hemit := State.emit_drives (s := v) (p := p) (g := s.fetchAfter f rx) (bytes := bytes) (by rw [hreply, hwire]; exact hall)
    (by rw [hreply, hfeed]; exact nofun) hbytes
  rw [hmode, hreply] at hemit
  have hexec := exec_asks inp h
  rw [hpull, hnext, hafter, hemit] at hexec
  exact ⟨_, hexec, (((State.ByFetch.refl p s).modPort _).trans hby).modPort _, State.modPort_port_self v p _⟩

/-- A physical stone goes out as it is found (R290 to R292). -/
theorem State.driveStone_raw (b : Fin 64) (a : BitVec 32) (flip : BitVec 75) (rx : List Byte) :
    ∃ v, s.driveStone p (.raw b) a flip rx = (v, .ok (rawBytes (s.rawCells b a ^^^ flip)), rx) ∧ s.ByFetch p v
      ∧ v.port p = { s.port p with fetchBank := some (bankIx b) } := by
  have hself := s.fetchOn_port p (some (bankIx b))
  have hby := (State.ByFetch.refl p s).fetchOn (some (bankIx b))
  refine ⟨_, rfl, ?_, ?_⟩
  · split
    · exact hby.useFree
    · exact hby
  · split
    · exact hself
    · exact hself

/-- A logical stone outside the windows goes out through map, mark vote and ECC (R268). -/
theorem State.driveStone_array {a : BitVec 32} (hwindow : windowOf a = none) (start : Region) (flip : BitVec 75) (rx : List Byte) :
    let r := readStone (s.cellsAt a ^^^ flip)
    ∃ v, s.driveStone p (.logical start) a flip rx = (v, .ok (be64 r.data), rx) ∧ s.ByFetch p v
      ∧ v.port p = { s.port p with
          fetchBank := some (bankMet a), eccfix := (s.port p).eccfix || r.fixed, eccfail := (s.port p).eccfail || r.bad } := by
  intro r
  have habsent : s.windowMeets a = .absent := by
    unfold State.windowMeets
    rw [hwindow]
  obtain ⟨hby, hports⟩ := ((State.ByFetch.refl p s).fetchOn (some (bankMet a))).noteRead (bankMet a) none (addrStone a) r
  refine ⟨((s.fetchOn p (some (bankMet a))).noteRead (bankMet a) none (addrStone a) r).modPort p (fun x =>
        { x with eccfix := x.eccfix || r.fixed, eccfail := x.eccfail || r.bad }), ?_, hby.modPort _, ?_⟩
  · unfold State.driveStone
    dsimp only
    rw [habsent]
  · rw [State.modPort_port_self, State.port_of_ports hports p, State.fetchOn_port]

end

end

theorem length_be64 (v : BitVec 64) : (be64 v).length = 8 := rfl

theorem length_rawBytes (c : BitVec 75) : (rawBytes c).length = 10 := rfl

/-- Settles O21: the bank serves the first stone, or the level stops it; the stones that follow go out as found. -/
theorem rawFetchDrivesCells : Obligations.RawFetchDrivesCells := by
  refine ⟨fun s tx bank stone flips htakes hmeets => ?_, fun s p inp f howes hfeed hfetch hhold hraw hripe hmeets => ?_,
    fun s tx bank stone flips htakes hlevel => ?_⟩
  · obtain ⟨hreply, hstones, hfetch, -, -, -, hkeeps, hports⟩ := State.startFetch_serves (s := s) (tx := tx) (op := 0x8D) (raw := true)
      (a := stoneAddr (bank ++ stone)) (b := bankIx (paddrBank (stoneAddr (bank ++ stone)))) flips [] rfl hmeets
    exact ⟨_, congrArg Host.Outcome.next (State.run2_takes s tx 0x8D false _ htakes rfl), hreply, hstones, hfetch, hports, hkeeps⟩
  · obtain ⟨v, hdrive, hby, hport⟩ := State.driveStone_raw (s := s.modPort p Port.cycled) (p := p) (paddrBank f.first) f.addr
      (flipOf f.flips f.index) f.rx
    rw [State.modPort_port_self] at hport
    rw [← FetchRun.source_raw hraw] at hdrive
    obtain ⟨t, hexec, htby, htport⟩ := exec_asks_stone inp howes hfeed hfetch hhold hripe
      (by rw [State.fetchMeetsNext, FetchRun.source_raw hraw]; exact hmeets) hdrive hby (by rw [hport]; rfl) (by rw [hport]; rfl)
      (by rw [length_rawBytes]; decide)
    refine ⟨t, hexec, ?_, ?_, htby.2, htby.1⟩
    · rw [htport, hport]
      rfl
    · rw [htport]
      rfl
  · obtain ⟨hreply, hstones, hfetch, hkeeps, hports⟩ := State.startFetch_stops (s := s) (tx := tx) (op := 0x8D) (raw := true)
      (a := stoneAddr (bank ++ stone)) flips [] (by
        show (s.fetchHeard tx 0x8D).rawMeets _ _ = _
        unfold State.rawMeets
        rw [show (s.fetchHeard tx 0x8D).isOpen = false from hlevel, if_pos (.inr (.inr (.inr rfl)))])
    exact ⟨_, congrArg Host.Outcome.next (State.run2_takes s tx 0x8D false _ htakes rfl), hreply, hstones, hfetch, hports, hkeeps⟩

section
variable {s : State} {p : PortId}

/-- A part of a fetch's reply that has gone out counts a stone (R177). -/
theorem State.partDone_stone {f : FetchRun} (hfeed : (s.port p).reply.feed = .stones) (hfetch : (s.port p).fetch = some f)
    (hdata : (s.port p).reply.data ≠ []) :
    s.partDone p = s.modPort p (fun y => { y with stones := if y.stones = 0xFFFF then y.stones else y.stones + 1 }) := by
  have hcounts : ((s.port p).fetch.isSome && !(s.port p).reply.data.isEmpty) = true := by
    rw [hfetch, List.isEmpty_eq_false_iff.2 hdata]
    rfl
  unfold State.partDone
  dsimp only
  split
  · next h => exact nomatch hfeed.symm.trans h
  · exact if_pos hcounts

/-- The cycle that carries the last bit of a stone counts it. -/
theorem exec_counts_stone (inp : EdgeIn) {f : FetchRun} (h : s.sendsLast p = true) (hfetch : (s.port p).fetch = some f)
    (hfeed : (s.port p).reply.feed = .stones) (hdata : (s.port p).reply.data ≠ []) :
    ∃ t, exec (.paceEdge p inp) s = .next t
      ∧ (t.port p).stones = (if (s.port p).stones = 0xFFFF then 0xFFFF else (s.port p).stones + 1)
      ∧ (t.port p).reply.data = (s.port p).reply.data ∧ (t.port p).fetch = some f ∧ s.ByFetch p t := by
  simp only [State.sendsLast, State.replyNext, Bool.and_eq_true, decide_eq_true_eq] at h
  obtain ⟨⟨⟨hcycle, hbits⟩, hq⟩, hlast⟩ := h
  have hself : (s.modPort p Port.cycled).port p = (s.port p).cycled := State.modPort_port_self s p _
  have hexec := exec_replyCycle inp hcycle
  rw [State.drive_sends (by rw [hself]; exact hbits) (by rw [hself]; exact hq),
    State.emit_ends (by rw [hself, Port.cycled, hfeed]; exact nofun) (by rw [hself]; exact hq) (by rw [hself]; exact hlast)] at hexec
  generalize hu : State.modPort (s.modPort p Port.cycled) p _ = u at hexec
  have hby : s.ByFetch p u := hu ▸ ((State.ByFetch.refl p s).modPort _).modPort _
  have hport : (u.port p).reply.feed = .stones ∧ (u.port p).fetch = some f ∧ (u.port p).reply.data = (s.port p).reply.data
      ∧ (u.port p).stones = (s.port p).stones := by
    rw [← hu, State.modPort_port_self, State.modPort_port_self]
    exact ⟨hfeed, hfetch, rfl, rfl⟩
  obtain ⟨hufeed, hufetch, hudata, hustones⟩ := hport
  rw [State.partDone_stone hufeed hufetch (by rw [hudata]; exact hdata)] at hexec
  refine ⟨_, hexec, ?_, ?_, ?_, hby.modPort _⟩
  · rw [State.modPort_port_self]
    show (if (u.port p).stones = 0xFFFF then (u.port p).stones else (u.port p).stones + 1) = _
    rw [hustones]
    split
    · next hfull => exact hfull
    · rfl
  · rw [State.modPort_port_self]
    exact hudata
  · rw [State.modPort_port_self]
    exact hufetch

/-- FETCH of an address in the main array, the mark array or the info page goes to its first stone. -/
theorem State.fetchCommand_starts {start : Region} {a : BitVec 32} {addr : BitVec 32} {tx : Tx} {op : Byte} (ha : stoneAddr addr = a)
    (hregion : s.region a = start) (hstart : start = .main ∨ start = .marks ∨ start = .info) (flips : Flips) (rx : List Byte) :
    (s.received tx op).fetchCommand tx addr flips rx = (s.received tx op).startFetch tx false flips a rx := by
  have hr : (s.received tx op).region a = start := hregion
  unfold State.fetchCommand
  dsimp only
  rw [ha, hr]
  rcases hstart with rfl | rfl | rfl <;> rfl

/-- What the first stone of such a fetch meets. -/
theorem State.fetchMeetsNext_begun {start : Region} {a : BitVec 32} {tx : Tx} {op : Byte} (hregion : regionOf a = start) (flips : Flips)
    (rx : List Byte) : (s.fetchHeard tx op).fetchMeetsNext tx.port (s.fetchBegun false flips a rx) = s.stoneMeets tx.port start false a := by
  have hsource : (s.fetchBegun false flips a rx).source = .logical start := by
    rw [FetchRun.source_logical rfl, ← hregion]
    rfl
  rw [State.fetchMeetsNext, hsource]
  exact State.stoneMeets_fetchHeard start false a

theorem State.source_bank_begun {start : Region} {a : BitVec 32} (hregion : regionOf a = start)
    (hstart : start = .main ∨ start = .marks ∨ start = .info) (flips : Flips) (rx : List Byte) :
    (s.fetchBegun false flips a rx).source.bank a = some (bankMet a) := by
  rw [FetchRun.source_logical rfl]
  exact if_neg (by rw [windowOf_of_region hregion hstart]; exact Bool.false_ne_true)

end

/-- Settles O20: the first stone, each stone that follows, its count, and the unmapped address. -/
theorem fetchDrivesStones : Obligations.FetchDrivesStones := by
  refine ⟨fun s tx addr flips probe rx start htakes hstate hregion hstart hmeets => ?_,
    fun s p inp f howes hfeed hfetch hhold hraw hwindow hripe hmeets => ?_,
    fun s p inp f hsends hfetch hfeed hdata => ?_, fun s tx addr flips probe rx htakes hunmapped => ?_⟩
  · have hexec := State.run2_takes s tx 0x1B false (fun t => t.fetchCommand tx addr flips (probe ++ rx)) htakes rfl
    rw [State.fetchCommand_starts rfl hstate hstart] at hexec
    obtain ⟨hreply, hstones, hfetch, hhold, hreading, hbank, hkeeps, hports⟩ := State.startFetch_serves (s := s) (tx := tx) (op := 0x1B)
      flips (probe ++ rx) (State.source_bank_begun hregion hstart flips _) ((State.fetchMeetsNext_begun hregion flips _).trans hmeets)
    exact ⟨_, congrArg Host.Outcome.next hexec, hreply, hstones, hfetch, hhold, hreading, hbank, hports, hkeeps⟩
  · have hnone : windowOf f.addr = none := Option.not_isSome_iff_eq_none.1 (by rw [hwindow]; exact Bool.false_ne_true)
    obtain ⟨v, hdrive, hby, hport⟩ := State.driveStone_array (s := s.modPort p Port.cycled) (p := p) hnone (regionOf f.first)
      (flipOf f.flips f.index) f.rx
    rw [State.modPort_port_self] at hport
    rw [← FetchRun.source_logical hraw] at hdrive
    obtain ⟨t, hexec, htby, htport⟩ := exec_asks_stone inp howes hfeed hfetch hhold hripe
      (by
        rw [State.fetchMeetsNext, FetchRun.source_logical hraw]
        exact (State.stoneMeets_modPort _ rfl (regionOf f.first) f.passed f.addr).trans hmeets) hdrive hby (by rw [hport]; rfl)
      (by rw [hport]; rfl) (by rw [length_be64]; decide)
    refine ⟨t, hexec, ?_, ?_, ?_, ?_, ?_, ?_, htby.2, htby.1⟩
    · rw [htport, hport]
      rfl
    · rw [htport]
      rfl
    · rw [htport]
      rfl
    all_goals rw [htport, hport]; rfl
  · obtain ⟨t, hexec, hstones, hsame, hstill, hkeeps, hports⟩ := exec_counts_stone inp hsends hfetch hfeed hdata
    exact ⟨t, hexec, hstones, hsame, hstill, hports, hkeeps⟩
  · refine congrArg Host.Outcome.next ((State.run2_takes s tx 0x1B false _ htakes rfl).trans ?_)
    have hr : (s.received tx 0x1B).region (stoneAddr addr) = .unmapped := hunmapped
    unfold State.fetchCommand
    dsimp only
    rw [hr]
    rfl

end Sys2Proof.Machine
end

section
/-! PROOFS. Held fetches: how a hold begins, goes on and ends (O22). -/
namespace Sys2Proof.Machine

section
variable {s : State} {p : PortId}

/-! ### A fetch that waits -/

theorem State.ports_grantSuspend (s : State) (b : BankId) (host : Bool) : (s.grantSuspend b host).ports = s.ports := by
  obtain ⟨l, tr, heq, -⟩ := s.grantSuspend_eq b host
  rw [heq]
  rfl

theorem State.ports_requestSuspend (s : State) (b : BankId) (host : Bool) : (s.requestSuspend b host).1.ports = s.ports := by
  unfold State.requestSuspend
  dsimp only
  split
  · split
    · exact s.ports_grantSuspend b host
    · split
      · exact State.ports_grantSuspend _ b host
      · rfl
  · exact s.ports_grantSuspend b host
  · rfl

/-- What a waiting fetch asks of its bank leaves the ports alone (R316). -/
theorem State.ports_fetchMeets (s : State) (b : BankId) (block sector : Nat) : (s.fetchMeets b block sector).ports = s.ports := by
  have hmay : ∀ c : Bool, (if c = true then (s.requestSuspend b false).1 else s).ports = s.ports := fun c => by
    split
    · exact s.ports_requestSuspend b false
    · rfl
  unfold State.fetchMeets
  dsimp only
  cases (s.bank b).state with
  | firing => exact s.ports_requestSuspend b false
  | clearing => exact hmay _
  | _ => rfl

/-- A waiting fetch moves of its own port only the bank it counts for. -/
theorem State.fetchWaits_port (s : State) (p : PortId) (src : Source) (a : BitVec 32) :
    ∃ b : Option BankId, (s.fetchWaits p src a).port p = { s.port p with fetchBank := b } := by
  unfold State.fetchWaits
  dsimp only
  split
  · exact ⟨none, s.fetchOn_port p none⟩
  · next b _ =>
    have hway : ∀ c d : Bool, ∃ b' : Option BankId, (if c = true then s.fetchOn p none
        else if d = true then s.modPort p (fun x => { x with fetchBank := none })
        else (s.fetchOn p (some b)).fetchMeets b (s.place a src).1 (s.place a src).2).port p = { s.port p with fetchBank := b' } := fun c d => by
      split
      · exact ⟨none, s.fetchOn_port p none⟩
      · split
        · exact ⟨none, State.modPort_port_self s p _⟩
        · exact ⟨some b, (State.port_of_ports (State.ports_fetchMeets _ _ _ _) p).trans (s.fetchOn_port p (some b))⟩
    exact hway _ _

/-- A first stone that waits: the fetch is held, or refused with HELD (R105, R109, R110). -/
theorem State.fetchFirst_waits {f : FetchRun} (h : s.fetchMeetsNext p f = .waits) : s.fetchFirst p f =
    if (s.port p).holds? then ((s.fetchWaits p f.source f.addr).beginHold p f false).replyWith p .notReady [] .stones
    else (s.fetchWaits p f.source f.addr).fetchRefused p .held := by
  unfold State.fetchFirst
  rw [h]

/-- A port whose fetch is held. -/
def Port.held (x : Port) (g : FetchRun) (after : Bool) : Port :=
  { x with holds := x.holds + 1, reading := false, fetch := some g,
           hold := some { afterStatus := after, ticks := 0, limit := x.holdLimitNow } }

/-- A hold begins (R105, R110). -/
theorem State.beginHold_port (s : State) (p : PortId) (f : FetchRun) (after : Bool) :
    ∃ g : FetchRun, (s.beginHold p f after).port p = (s.port p).held g after := by
  have hbegin : ∃ (g : FetchRun) (b : Nat), s.beginHold p f after =
      (s.modPort p (fun x => x.held g after)).addTrace tHold none b (BitVec.ofNat 16 p.val) := ⟨_, _, rfl⟩
  obtain ⟨g, b, heq⟩ := hbegin
  rw [heq]
  exact ⟨g, State.modPort_port_self s p (fun x => x.held g after)⟩

/-- A held first fetch. -/
theorem State.heldFirst_leaves (f : FetchRun) (src : Source) (a : BitVec 32) :
    let t := ((s.fetchWaits p src a).beginHold p f false).replyWith p .notReady [] .stones
    (t.port p).hold = some { afterStatus := false, ticks := 0, limit := (s.port p).holdLimitNow }
      ∧ (t.port p).holds = (s.port p).holds + 1 ∧ (t.port p).fetch.isSome = true ∧ (t.port p).reply.bits = 0 := by
  obtain ⟨b, hb⟩ := s.fetchWaits_port p src a
  obtain ⟨g, hg⟩ := (s.fetchWaits p src a).beginHold_port p f false
  rw [hb] at hg
  intro t
  have ht := State.modPort_port_self ((s.fetchWaits p src a).beginHold p f false) p (fun x => { x with
    reply := if ((s.fetchWaits p src a).beginHold p f false).drives p then
        { silent := false, status := statusByte .notReady (((s.fetchWaits p src a).beginHold p f false).attn p)
            ((s.fetchWaits p src a).beginHold p f false).bootBit, data := [], feed := .stones, bits := 0, shown := [] } else Reply.none,
    crcerrs := if Cond.notReady == .crcx then x.crcerrs + 1 else x.crcerrs })
  have hport : t.port p = _ := ht
  rw [hport, hg]
  refine ⟨rfl, rfl, rfl, ?_⟩
  show (if _ then _ else _ : Reply).bits = 0
  split <;> rfl

/-- The status byte of HELD (Table 03.8). -/
theorem statusByte_held (attn boot : Bool) : (statusByte .held attn boot).getLsbD 6 = true := by
  cases attn <;> cases boot <;> rfl

/-- A first fetch that is not to be held. -/
theorem State.refusedFirst_leaves (src : Source) (a : BitVec 32) :
    let t := (s.fetchWaits p src a).fetchRefused p .held
    (t.port p).fetch = none ∧ (t.port p).holds = (s.port p).holds
      ∧ ((s.fetchWaits p src a).drives p = true → (t.port p).reply.status.getLsbD 6 = true) := by
  obtain ⟨b, hb⟩ := s.fetchWaits_port p src a
  generalize s.fetchWaits p src a = v at *
  generalize hw : v.modPort p (fun x => { x with reading := false, fetch := none, hold := none }) = w
  have hself : w.port p = { s.port p with fetchBank := b, reading := false, fetch := none, hold := none } := by
    rw [← hw, State.modPort_port_self, hb]
  have hdrives : w.drives p = v.drives p := hw ▸ rfl
  show (((v.modPort p _).answer p .held []).port p).fetch = none ∧ (((v.modPort p _).answer p .held []).port p).holds = _
    ∧ (v.drives p = true → (((v.modPort p _).answer p .held []).port p).reply.status.getLsbD 6 = true)
  rw [hw]
  refine ⟨?_, ?_, fun hd => ?_⟩
  · rw [State.answer, State.replyWith, State.modPort_port_self, hself]
  · rw [State.answer, State.replyWith, State.modPort_port_self, hself]
  · rw [State.answer_reply, State.replyOf, State.replyFed, hdrives, hd, if_pos rfl]
    exact statusByte_held _ _

/-! ### A hold that ends -/

/-- The end of a held fetch whose status byte has gone (R107, R108). -/
def Port.expired (x : Port) : Port :=
  { x with reading := false, fetch := none, hold := none, holdExpired := true,
           reply := { x.reply with feed := if x.strobed then .still else .ones } }

/-- A hold that has lasted too long ends its fetch (R106 to R108). -/
theorem exec_holdExpired {h : Hold} {f : FetchRun} (hholder : s.pace.holder.isSome = true) (hhold : (s.port p).hold = some h)
    (hfetch : (s.port p).fetch = some f) (hlimit : h.limit.toNat ≤ h.ticks)
    (hends : s.fetchMeetsNext p f = .waits ∨ s.holdOver h = true) : exec (.holdExpired p) s = .next (
      if h.afterStatus then (s.endData p).modPort p (fun x => { x with holdExpired := true }) else s.fetchRefused p .held) := by
  have hgoes : (decide (h.ticks < h.limit.toNat) || (s.fetchMeetsNext p f != .waits && !s.holdOver h)) = false := by
    rw [decide_eq_false (Nat.not_lt.2 hlimit), Bool.false_or]
    rcases hends with hw | ho
    · rw [hw]
      rfl
    · rw [ho, Bool.not_true, Bool.and_false]
  refine (State.onEdge_pacing hholder).trans (congrArg Host.Outcome.next ?_)
  rw [hhold, hfetch]
  dsimp only
  rw [hgoes, if_neg Bool.false_ne_true]

/-- The end of the data of a hold that has expired. -/
theorem State.endData_expires (s : State) (p : PortId) : ∃ a : Vector Annex 2,
    (s.endData p).modPort p (fun x => { x with holdExpired := true }) = ({ s with annex := a } : State).modPort p Port.expired := by
  obtain ⟨a, heq, -⟩ := s.endStream_eq p
  refine ⟨a, ?_⟩
  unfold State.endData
  rw [heq, State.modPort_modPort]
  rfl

/-- The refusal of a held fetch whose status byte has not gone (R106, R110). -/
theorem State.fetchRefused_held (s : State) (p : PortId) : s.fetchRefused p .held = s.modPort p (fun x => { x with
    reading := false, fetch := none, hold := none, reply := s.replyOf p .held [] }) := by
  have hattn := State.attn_modPort (s := s) (p := p) (fun x => { x with reading := false, fetch := none, hold := none }) rfl
  unfold State.fetchRefused State.answer State.replyWith
  rw [hattn, State.modPort_modPort]
  rfl

/-- A hold that waits on, or that is over already, is not served (R105, R106). -/
theorem exec_heldFetchServed_waits {flips : Flips} {rx : List Byte} {h : Hold} {f : FetchRun} (hhold : (s.port p).hold = some h)
    (hfetch : (s.port p).fetch = some f) (hwaits : s.holdOver h = true ∨ s.fetchMeetsNext p f = .waits) :
    exec (.heldFetchServed p flips rx) s = .next s := by
  refine (congrArg (s.onEdge ·) ?_).trans (State.onEdge_self s)
  rw [hhold, hfetch]
  dsimp only
  split
  · rfl
  · next hover =>
    have hmeets : s.fetchMeetsNext p { f with flips := flips, rx := rx } = .waits := hwaits.resolve_left hover
    rw [hmeets]

/-- A held fetch whose stone is free reads on (R105). -/
theorem exec_heldFetchServed_ready {flips : Flips} {rx : List Byte} {h : Hold} {f : FetchRun} (hholder : s.pace.holder.isSome = true)
    (hhold : (s.port p).hold = some h) (hfetch : (s.port p).fetch = some f) (hover : s.holdOver h = false)
    (hready : s.fetchMeetsNext p f = .ready) : exec (.heldFetchServed p flips rx) s = .next (
      if h.afterStatus then s.fetchGoesOn p { f with flips := flips, rx := rx } else s.fetchStarts p { f with flips := flips, rx := rx }) := by
  have hmeets : s.fetchMeetsNext p { f with flips := flips, rx := rx } = .ready := hready
  refine (State.onEdge_pacing hholder).trans (congrArg Host.Outcome.next ?_)
  rw [hhold, hfetch]
  dsimp only
  rw [hover, if_neg Bool.false_ne_true, hmeets]

/-- A held fetch goes on behind what it drove before. -/
theorem State.fetchGoesOn_leaves {f : FetchRun} {b : BankId} (hb : f.source.bank f.addr = some b) : let t := s.fetchGoesOn p f
    s.ByFetch p t ∧ t.port p = { s.port p with fetchBank := some b, fetch := some (s.readFrom f), hold := none, reading := true } := by
  intro t
  have ht : t = (s.fetchOn p (some b)).modPort p (fun x => { x with fetch := some (s.readFrom f), hold := none, reading := true }) := by
    show s.fetchGoesOn p f = _
    unfold State.fetchGoesOn
    rw [hb]
  rw [ht, State.modPort_port_self, State.fetchOn_port]
  exact ⟨((State.ByFetch.refl p s).fetchOn _).modPort _, rfl⟩

end

/-- Settles O22: a first stone that waits, a hold that is served, that waits on, and that expires. -/
theorem heldFetchesEnd : Obligations.HeldFetchesEnd := by
  refine ⟨fun s tx addr flips probe rx start htakes hstate hregion hstart hmeets => ?_,
    fun s p flips rx h f b hholder hhold hfetch hover hb hready => ?_,
    fun s p flips rx h f hhold hfetch hwaits => exec_heldFetchServed_waits hhold hfetch hwaits,
    fun s p h f hholder hhold hfetch hlimit hends => ?_, fun s p h hhold hlimit => ?_⟩
  · have hexec := State.run2_takes s tx 0x1B false (fun t => t.fetchCommand tx addr flips (probe ++ rx)) htakes rfl
    rw [State.fetchCommand_starts rfl hstate hstart] at hexec
    have hmem : ((s.received tx 0x1B).startFetch tx false flips (stoneAddr addr) (probe ++ rx)).mem = s.mem :=
      congrArg Kept.mem (State.kept_startFetch _ tx false flips (stoneAddr addr) (probe ++ rx))
    have hfirst := State.fetchFirst_waits ((State.fetchMeetsNext_begun (s := s) (tx := tx) (op := 0x1B) hregion flips
      (probe ++ rx)).trans hmeets)
    rw [State.startFetch_eq] at hexec hmem
    have hport := s.fetchHeard_port tx 0x1B
    rw [State.received_port_self] at hport
    have hself : ((s.fetchHeard tx 0x1B).port tx.port).holds? = (s.port tx.port).holds?
        ∧ ((s.fetchHeard tx 0x1B).port tx.port).holdLimitNow = (s.port tx.port).holdLimitNow
        ∧ ((s.fetchHeard tx 0x1B).port tx.port).holds = (s.port tx.port).holds := by
      rw [hport]
      simp [Port.holds?, Port.strobed, Port.txMode]
    obtain ⟨hholds, hlimit, hcount⟩ := hself
    refine ⟨_, congrArg Host.Outcome.next hexec, ?_, hmem⟩
    rw [hfirst, hholds]
    cases hlets : (s.port tx.port).holds? with
    | true =>
      obtain ⟨hheld, hmore, hsome, hbits⟩ := State.heldFirst_leaves (s := s.fetchHeard tx 0x1B) (p := tx.port)
        (s.fetchBegun false flips (stoneAddr addr) (probe ++ rx)) (s.fetchBegun false flips (stoneAddr addr) (probe ++ rx)).source
        (s.fetchBegun false flips (stoneAddr addr) (probe ++ rx)).addr
      rw [hlimit] at hheld
      rw [hcount] at hmore
      rw [if_pos rfl, if_pos rfl]
      exact ⟨hheld, hmore, hsome, hbits⟩
    | false =>
      obtain ⟨hnone, hsame, hstatus⟩ := State.refusedFirst_leaves (s := s.fetchHeard tx 0x1B) (p := tx.port)
        (s.fetchBegun false flips (stoneAddr addr) (probe ++ rx)).source (s.fetchBegun false flips (stoneAddr addr) (probe ++ rx)).addr
      rw [hcount] at hsame
      rw [if_neg Bool.false_ne_true, if_neg Bool.false_ne_true]
      have hsupply : ∀ (src : Source) (a : BitVec 32), ((s.fetchHeard tx 0x1B).fetchWaits tx.port src a).pins.supply = s.pins.supply :=
        fun src a => congrArg (fun k : Kept => k.still.pins.supply) (State.kept_fetchWaits _ tx.port src a)
      refine ⟨hnone, hsame, fun hd => hstatus ?_⟩
      unfold State.drives
      rw [hsupply]
      exact hd
  · have hexec := exec_heldFetchServed_ready (flips := flips) (rx := rx) hholder hhold hfetch hover hready
    cases hafter : h.afterStatus with
    | true =>
      obtain ⟨⟨hkeeps, hports⟩, hport⟩ := State.fetchGoesOn_leaves (s := s) (p := p) (f := { f with flips := flips, rx := rx }) hb
      rw [hafter, if_pos rfl] at hexec
      refine ⟨_, hexec, ?_, ?_, ?_, ?_, hports, hkeeps⟩
      · rw [hport]
        rfl
      · rw [hport]
        rfl
      all_goals rw [hport]
    | false =>
      obtain ⟨⟨hkeeps, hports⟩, hport⟩ := State.fetchStarts_leaves (s := s) (p := p) (f := { f with flips := flips, rx := rx }) hb
      rw [hafter, if_neg Bool.false_ne_true] at hexec
      refine ⟨_, hexec, ?_, ?_, ?_, ?_, hports, hkeeps⟩
      · rw [hport]
        rfl
      · rw [hport]
        rfl
      all_goals rw [hport]
  · have hexec := exec_holdExpired hholder hhold hfetch hlimit hends
    cases hafter : h.afterStatus with
    | true =>
      obtain ⟨a, heq⟩ := s.endData_expires p
      rw [hafter, if_pos rfl, heq] at hexec
      have hself := State.modPort_port_self ({ s with annex := a } : State) p Port.expired
      have hothers := State.modPort_port_of_ne ({ s with annex := a } : State) p Port.expired
      exact ⟨_, hexec, rfl, hself, hothers⟩
    | false =>
      rw [hafter, if_neg Bool.false_ne_true, State.fetchRefused_held] at hexec
      exact ⟨_, hexec, rfl, State.modPort_port_self s p _, fun q hq => State.modPort_port_of_ne s p _ q hq⟩
  · refine (congrArg (s.onEdge ·) ?_).trans (State.onEdge_self s)
    rw [hhold]
    cases (s.port p).fetch with
    | none => rfl
    | some f =>
      dsimp only
      rw [decide_eq_true hlimit, Bool.true_or, if_pos rfl]

end Sys2Proof.Machine
end

section
/-! PROOFS. Dispatch of the one eligible operation of the ledger (O50): the offer and the pick, the counts, and what a FETCH, a
LAY and a house REPOINT start. -/
namespace Sys2Proof.Machine

/-! ### One entry to pick from -/

theorem filterMap_of_unique {α β : Type} {f : α → Option β} {a : α} {b : β} (ha : f a = some b) (hne : ∀ x, x ≠ a → f x = none) :
    ∀ l : List α, l.Nodup → a ∈ l → l.filterMap f = [b] := by
  intro l
  induction l with
  | nil => exact fun _ h => nomatch h
  | cons x l ih =>
    intro hl hmem
    have hx : x ∉ l := (List.nodup_cons.1 hl).1
    by_cases h : x = a
    · subst h
      rw [List.filterMap_cons_some ha, List.filterMap_eq_nil_iff.2 fun y hy => hne y fun h => hx (h ▸ hy)]
    · rw [List.filterMap_cons_none (hne x h)]
      exact ih (List.nodup_cons.1 hl).2 ((List.mem_cons.1 hmem).resolve_left fun h' => h h'.symm)

/-- Of one entry the least tag is its own, whatever its weight (R398). -/
theorem leastTag_single {α : Type} (w : Nat) (t : BitVec 48) (a : α) : leastTag [(w, t, a)] = some a := by
  unfold leastTag
  by_cases hw : 0 < w
  · rw [List.filter_cons_of_pos (by simpa using hw)]
    rfl
  · rw [List.filter_cons_of_neg (by simpa using hw)]
    rfl

section
variable {s : State} {o : Op} {g : GalId} {v : SvcId}

/-- A ledger's one operation, if it is eligible, is the offer of its own leaf. -/
theorem State.offer_single (hops : s.ledger.ops = [o]) (hgal : o.gal = g) (hsvc : o.svc = some v) (heligible : s.eligible o = true) :
    s.offer g v o.sub = some o := by
  have hleaf : s.leafOps g v o.sub = [o] := by
    unfold State.leafOps
    rw [hops]
    exact List.filter_cons_of_pos (by simp [hgal, hsvc, heligible])
  unfold State.offer
  dsimp only
  rw [hleaf]
  split
  · next x hx => exact congrArg some (List.mem_singleton.1 (List.mem_of_find?_eq_some hx))
  · rfl

/-- No other leaf offers anything. -/
theorem State.offer_none (hops : s.ledger.ops = [o]) {w : SvcId} {i : SubId} (h : o.svc ≠ some w ∨ i ≠ o.sub) : s.offer g w i = none := by
  have hleaf : s.leafOps g w i = [] := by
    unfold State.leafOps
    rw [hops]
    refine List.filter_cons_of_neg ?_
    rcases h with h | h
    · simp [h]
    · simp [Ne.symm h]
  unfold State.offer
  dsimp only
  rw [hleaf]
  rfl

theorem State.bestOf_single (hops : s.ledger.ops = [o]) (hgal : o.gal = g) (hsvc : o.svc = some v) (heligible : s.eligible o = true) :
    s.bestOf g v = some o := by
  have hoffers : allSubs.filterMap (fun i => (s.offer g v i).map (fun x => (i, x))) = [(o.sub, o)] :=
    filterMap_of_unique (a := o.sub) (by rw [State.offer_single hops hgal hsvc heligible]; rfl)
      (fun i hi => by rw [State.offer_none hops (.inr hi)]; rfl) _ (List.nodup_finRange 32) (List.mem_finRange _)
  have hpool : ∀ p : SubId × Op → Bool, (if ([(o.sub, o)].filter p).isEmpty = true then [(o.sub, o)] else [(o.sub, o)].filter p) = [(o.sub, o)] := by
    intro p
    cases hp : p (o.sub, o) with
    | true => rw [List.filter_cons_of_pos hp]; rfl
    | false => rw [List.filter_cons_of_neg (by rw [hp]; exact Bool.false_ne_true)]; rfl
  unfold State.bestOf
  dsimp only
  rw [hoffers, hpool]
  exact leastTag_single _ _ _

theorem State.bestOf_none (hops : s.ledger.ops = [o]) {w : SvcId} (h : o.svc ≠ some w) : s.bestOf g w = none := by
  have hoffers : allSubs.filterMap (fun i => (s.offer g w i).map (fun x => (i, x))) = [] :=
    List.filterMap_eq_nil_iff.2 fun i _ => by rw [State.offer_none hops (.inl h)]; rfl
  unfold State.bestOf
  dsimp only
  rw [hoffers]
  rfl

/-- The pick of R397 is the one operation that may go. -/
theorem State.fairPick_single (hops : s.ledger.ops = [o]) (hgal : o.gal = g) (hsvc : o.svc = some v) (heligible : s.eligible o = true) :
    s.fairPick g = some o := by
  have hbest := State.bestOf_single hops hgal hsvc heligible
  have hnone : ∀ w : SvcId, w ≠ v → s.bestOf g w = none := fun w hw =>
    State.bestOf_none hops fun h => hw (Option.some.inj (h.symm.trans hsvc))
  unfold State.fairPick
  rw [filterMap_of_unique (a := v) (by rw [hbest]; rfl) (fun w hw => by rw [hnone w hw]; rfl) _ (by decide) (by fin_cases v <;> decide)]
  exact leastTag_single _ _ _

/-! ### What waking and counting leave of a gallery -/

/-- Galleries alike in what no virtual time says. -/
def Gal.Like (x y : Gal) : Prop := y = { x with vg := y.vg, vs := y.vs, fs := y.fs, fl := y.fl, awake := y.awake, svcAwake := y.svcAwake }

theorem Gal.Like.refl (x : Gal) : x.Like x := rfl

theorem Gal.Like.trans {x y z : Gal} (h : x.Like y) (h' : y.Like z) : x.Like z := by
  unfold Gal.Like at *
  rw [h', h]

theorem Gal.like_foldl {α : Type} {f : Gal → α → Gal} (hf : ∀ (y : Gal) (a : α), y.Like (f y a)) (l : List α) : ∀ x : Gal, x.Like (l.foldl f x) := by
  induction l with
  | nil => exact fun x => .refl x
  | cons a l ih => exact fun x => (hf x a).trans (ih (f x a))

theorem Gal.like_wake (x : Gal) (m : BitVec 128) : x.Like (x.wake m) := by
  have hleaf : ∀ (i : SubId) (y : Gal) (w : SvcId), Gal.Like y (if m.getLsbD (leafIx i w) && !x.awake.getLsbD (leafIx i w) then
      y.setLeafTag i w (vmax (y.leafTag i w) y.vs[w.val]) else y) := fun i y w => by
    split <;> rfl
  have hsvc : ∀ (y : Gal) (w : SvcId), Gal.Like y (if (svcMask m).getLsbD w.val && !x.svcAwake.getLsbD w.val then
      { y with fs := y.fs.set w.val (vmax y.fs[w.val] y.vg) } else y) := fun y w => by
    split <;> rfl
  have hleaves : ∀ (y : Gal) (i : SubId), Gal.Like y (([0, 1, 2, 3] : List SvcId).foldl (fun (y : Gal) w =>
      if m.getLsbD (leafIx i w) && !x.awake.getLsbD (leafIx i w) then y.setLeafTag i w (vmax (y.leafTag i w) y.vs[w.val]) else y) y) :=
    fun y i => Gal.like_foldl (hleaf i) [0, 1, 2, 3] y
  unfold Gal.wake
  generalize allSubs = l
  dsimp only
  have hall := (Gal.like_foldl hleaves l x).trans (Gal.like_foldl hsvc [0, 1, 2, 3] _)
  exact hall.trans rfl

/-- The step that an operation takes next, whatever the state. -/
def Op.steps (o : Op) (a : Act) : Prop := ∀ u : State, u.nextAct o = some a

theorem Op.steps_fetch (hstate : o.state = .queued) (hop : o.opcode = opFetch) : o.steps .fetch := fun u => by
  unfold State.nextAct
  rw [hstate, hop]
  rfl

theorem Op.steps_lay (hstate : o.state = .queued) (hop : o.opcode = opLay) : o.steps .lay := fun u => by
  unfold State.nextAct
  rw [hstate, hop]
  rfl

theorem Op.steps_read (hstate : o.state = .queued) (hop : o.opcode = opRepoint) : o.steps .read := fun u => by
  unfold State.nextAct
  rw [hstate, hop]
  rfl

theorem State.eligible_modGal {a : Act} (ha : o.steps a) (f : Gal → Gal) : (s.modGal g f).eligible o = s.eligible o := by
  unfold State.eligible
  rw [ha, ha]
  rfl

/-! ### The pick -/

/-- The galleries wake, and no fetch asks for its bank where the one operation may go. -/
theorem State.fetchRequests_single (hops : s.ledger.ops = [o]) (heligible : s.eligible o = true) : s.fetchRequests g = s := by
  unfold State.fetchRequests
  rw [hops, List.filter_cons_of_neg (by simp [heligible])]
  rfl

theorem State.wakeGal_single (hops : s.ledger.ops = [o]) : s.wakeGal g = s.modGal g (fun x => x.wake (s.awakeNow g)) := by
  unfold State.wakeGal
  rw [hops]
  rfl

/-- The one operation that may go, queued, on an array bank that is idle, is the dispatch of its gallery (R393, R397). -/
theorem State.mainPick_single (hops : s.ledger.ops = [o]) (hgal : o.gal = g) (hsvc : o.svc = some v) (hhouse : o.house = false)
    (heligible : s.eligible o = true) : s.mainPick g = some (o, false) := by
  have hreserved : s.reservedPick g = none ∨ s.reservedPick g = some o := by
    unfold State.reservedPick
    cases hr : s.power.reserved with
    | none => exact .inl rfl
    | some id =>
      cases hx : s.op? id with
      | none => exact .inl (by rw [Option.bind_some, hx]; rfl)
      | some x =>
        have hxo : x = o := List.mem_singleton.1 (hops ▸ List.mem_of_find?_eq_some hx)
        subst hxo
        refine .inr ?_
        rw [Option.bind_some, hx, Option.bind_some, hgal, heligible]
        exact if_pos (by simp)
  have hfloor : s.floorPick g = none := by
    unfold State.floorPick
    dsimp only
    rw [hops, List.filter_cons_of_neg (by simp [hhouse])]
    split <;> rfl
  unfold State.mainPick
  rcases hreserved with h | h
  · rw [h]
    dsimp only
    rw [hfloor]
    dsimp only
    rw [State.fairPick_single hops hgal hsvc heligible]
    rfl
  · rw [h]

/-- An operation of the main array has no window to reach. -/
theorem Op.windowAddr_none (hregion : regionOf o.addr = .main) (hop : o.opcode ≠ opHaul) : o.windowAddr = none := by
  have hwindow : windowOf o.addr = none := windowOf_of_region hregion (.inl rfl)
  unfold Op.windowAddr
  rw [hwindow, if_neg (by simp), if_neg (by simp [hop])]

theorem State.dispatchProbed_array {counts : Bool} {flips : Flips} {rx : List Byte} (hregion : regionOf o.addr = .main)
    (hop : o.opcode ≠ opHaul) : s.dispatchProbed g o counts flips rx = s.dispatchStep g o counts flips rx := by
  have hprobes : s.probesFirst o = none := by
    unfold State.probesFirst
    rw [Op.windowAddr_none hregion hop]
    rfl
  unfold State.dispatchProbed
  rw [hprobes]

theorem State.dispatchStep_of_steps {a : Act} (ha : o.steps a) {counts : Bool} {flips : Flips} {rx : List Byte} :
    s.dispatchStep g o counts flips rx = (s.dispatchOp g o counts).startStep o a flips rx := by
  unfold State.dispatchStep
  rw [ha]

/-- An operation of the main array works on the bank of its address. -/
theorem Op.bankOf_array (hregion : regionOf o.addr = .main) (hledger : ledgerOnly o.opcode = false) :
    o.bankOf = some (bankIx (addrBank o.addr)) := by
  have hbank : bankOfAddr o.addr = some (bankIx (addrBank o.addr)) := by
    unfold bankOfAddr
    rw [hregion]
  unfold Op.bankOf
  rw [hledger, if_neg Bool.false_ne_true, hbank]
  exact ite_self _

/-- DISPATCH of the one operation of the ledger, queued and eligible (R393, R397). -/
theorem exec_dispatch_single {a : Act} {flips : Flips} {rx : List Byte} (htime : s.onTime (orderGallery g) = true)
    (hops : s.ledger.ops = [o]) (hstate : o.state = .queued) (hgal : o.gal = g) (hsvc : o.svc = some v) (hhouse : o.house = false)
    (heligible : s.eligible o = true) (hbusy : (s.gal g).busy = false) (hregion : regionOf o.addr = .main)
    (hidle : (s.bank (bankIx (addrBank o.addr))).state = .idle) (ha : o.steps a) (hop : o.opcode = opFetch ∨ o.opcode = opLay) :
    exec (.dispatch g flips rx) s =
      .next ((((s.wakeGal g).dispatchOp g o true).startStep o a flips rx).atStage (orderGallery g)) := by
  have hnothaul : o.opcode ≠ opHaul := by rcases hop with h | h <;> rw [h] <;> decide
  have hledger : ledgerOnly o.opcode = false := by rcases hop with h | h <;> rw [h] <;> rfl
  have hnotsusp : (o.opcode == opSuspend || o.opcode == opResume) = false := by rcases hop with h | h <;> rw [h] <;> rfl
  have hbank := Op.bankOf_array hregion hledger
  generalize hw : s.wakeGal g = w
  have hwoke := State.wakeGal_single (g := g) hops
  have hwops : w.ledger.ops = [o] := by rw [← hw, hwoke]; exact hops
  have hweligible : w.eligible o = true := by rw [← hw, hwoke, State.eligible_modGal ha]; exact heligible
  have hwbusy : (w.gal g).busy = false := by
    rw [← hw, hwoke, State.modGal_gal_self, (s.gal g).like_wake (s.awakeNow g)]
    exact hbusy
  have hwidle : (w.bank (bankIx (addrBank o.addr))).state = .idle := by rw [← hw, hwoke]; exact hidle
  have hboundary : w.boundaryFetch g = none := by
    unfold State.boundaryFetch
    rw [hwops, List.find?_cons_of_neg, List.find?_nil]
    rw [hbank]
    dsimp only
    rw [hwidle]
    simp
  have hfreed : w.freedOp g = none := by
    unfold State.freedOp
    rw [hwops, List.find?_cons_of_neg, List.find?_nil]
    rw [hstate]
    simp
  have hsusp : w.suspOp g = none := by
    unfold State.suspOp
    rw [hwops, List.find?_cons_of_neg, List.find?_nil]
    rw [hnotsusp]
    simp
  refine (State.onStep_onTime htime _).trans (congrArg (fun t : State => Host.Outcome.next (t.atStage (orderGallery g))) ?_)
  rw [hops]
  dsimp only
  rw [hw, State.fetchRequests_single hwops hweligible, hboundary, hfreed, hsusp]
  dsimp only
  rw [hwbusy, List.isEmpty_cons, if_neg Bool.false_ne_true, if_neg Bool.false_ne_true,
    State.mainPick_single hwops hgal hsvc hhouse hweligible]
  dsimp only
  unfold State.dispatchPick
  dsimp only
  rw [if_neg Bool.false_ne_true, State.dispatchProbed_array hregion hnothaul, State.dispatchStep_of_steps ha]

/-! ### What a dispatch counts (R393, R626) -/

/-- An operation whose dispatch has been counted. -/
def Op.taken (o : Op) : Op := { o with short := 0, floorTicks := 0, passed := false }

/-- A slot as GgSTAT's LASTSLOT shows it. -/
def Op.slotShown (o : Op) : Byte := (o.slot.map (fun k => (BitVec.ofNat 8 k.val : Byte))).getD 0xFF

/-- A gallery that has dispatched operation `o` of service `v` as its one dispatch of the edge. -/
def Gal.Counted (x y : Gal) (o : Op) (v : SvcId) : Prop :=
  y.dispatches = x.dispatches + 1 ∧ y.busy = true ∧ y.lastslot = o.slotShown ∧ y.lastsvc = BitVec.ofNat 2 v.val ∧ y.floors = x.floors

theorem Gal.Counted.of_like {x y z : Gal} (h : x.Like y) (hc : y.Counted z o v) : x.Counted z o v := by
  obtain ⟨h1, h2, h3, h4, h5⟩ := hc
  rw [h] at h1 h5
  exact ⟨h1, h2, h3, h4, h5⟩

theorem State.modGal_modGal (f f' : Gal → Gal) : (s.modGal g f).modGal g f' = s.modGal g (fun x => f' (f x)) := by
  simp [State.modGal, State.gal]

/-- A dispatch moves virtual times of its gallery (R397, R398). -/
theorem State.charge_leaves (s : State) (g : GalId) (i : SubId) (v : SvcId) (c : Nat) :
    ∃ f : Gal → Gal, (∀ x : Gal, x.Like (f x)) ∧ s.charge g i v c = s.modGal g f := by
  unfold State.charge
  refine ⟨_, fun x => ?_, rfl⟩
  dsimp only
  split
  · split <;> rfl
  · split <;> rfl

/-- What a counted dispatch leaves: galleries, trace, reservation, and the operation itself. -/
theorem State.dispatchOp_leaves {a : Act} (hops : s.ledger.ops = [o]) (ha : o.steps a) (hsvc : o.svc = some v) :
    ∃ gl tr r, s.dispatchOp g o true = { s with gals := gl, trace := tr, power := { s.power with reserved := r },
                                                ledger := { s.ledger with ops := [o.taken] } }
      ∧ (s.gal g).Counted ((s.dispatchOp g o true).gal g) o v ∧ ∀ h : GalId, h ≠ g → (s.dispatchOp g o true).gal h = s.gal h := by
  have hpass : s.passOthers g o.id = s := by
    have hmap : s.ledger.ops.map (fun x => if x.id != o.id && x.gal == g && s.eligible x then { x with passed := true } else x)
        = s.ledger.ops := by
      rw [hops]
      simp
    exact congrArg (fun l => ({ s with ledger := { s.ledger with ops := l } } : State)) hmap
  have hdispatch : s.dispatchOp g o true =
      ((s.modGal g (fun x => { x with busy := true })).charge g o.sub v (s.costOf o a)).countDispatch g o := by
    unfold State.dispatchOp
    rw [ha, hsvc]
    dsimp only
    rw [if_pos rfl, hpass]
  obtain ⟨f, hf, hcharge⟩ := (s.modGal g (fun x => { x with busy := true })).charge_leaves g o.sub v (s.costOf o a)
  rw [hdispatch, hcharge, State.modGal_modGal]
  generalize hc : (fun x : Gal => f { x with busy := true }) = c
  have hcounts : ∀ x : Gal, (c x).busy = true ∧ (c x).dispatches = x.dispatches ∧ (c x).floors = x.floors := fun x => by
    rw [← hc]
    dsimp only
    rw [hf { x with busy := true }]
    exact ⟨rfl, rfl, rfl⟩
  have hreserved : ∀ u : State, ∃ r, u.endReservation o.id = { u with power := { u.power with reserved := r } } := fun u => by
    unfold State.endReservation
    split
    · exact ⟨none, rfl⟩
    · exact ⟨u.power.reserved, rfl⟩
  generalize hm : (s.modGal g c).modGal g (fun x => { x with
    dispatches := x.dispatches + 1, lastslot := o.slotShown, lastledger := o.slot.isSome, lastsvc := BitVec.ofNat 2 ((o.svc.getD 0).val) }) = m
  have hcount : (s.modGal g c).countDispatch g o =
      ((m.traceOp tDispatch o (BitVec.setWidth 16 o.opcode)).endReservation o.id).modOp o.id Op.taken := by
    rw [← hm]
    unfold State.countDispatch Op.slotShown
    dsimp only
    cases o.slot <;> rfl
  obtain ⟨r, hr⟩ := hreserved (m.traceOp tDispatch o (BitVec.setWidth 16 o.opcode))
  have hmap : s.ledger.ops.map (fun x => if x.id == o.id then x.taken else x) = [o.taken] := by
    rw [hops]
    simp
  have hself : m.gal g = { c (s.gal g) with
      dispatches := (c (s.gal g)).dispatches + 1, lastslot := o.slotShown, lastledger := o.slot.isSome,
      lastsvc := BitVec.ofNat 2 ((o.svc.getD 0).val) } := by
    rw [← hm, State.modGal_gal_self, State.modGal_gal_self]
  have hothers : ∀ h : GalId, h ≠ g → m.gal h = s.gal h := fun h hh => by
    rw [← hm, State.modGal_gal_of_ne _ g _ h hh, State.modGal_gal_of_ne _ g _ h hh]
  have hframe : m = { s with gals := m.gals } := hm ▸ rfl
  rw [hcount]
  generalize hb : m.traceOp tDispatch o (BitVec.setWidth 16 o.opcode) = b at hr
  have hbframe : b = { s with gals := m.gals, trace := b.trace } := by
    rw [← hb, hframe]
    rfl
  rw [hr]
  refine ⟨m.gals, b.trace, r, ?_, ?_, fun h hh => ?_⟩
  · rw [hbframe]
    exact congrArg (fun l => ({ s with gals := m.gals, trace := b.trace, power := { s.power with reserved := r },
                                       ledger := { s.ledger with ops := l } } : State)) hmap
  · obtain ⟨h1, h2, h3⟩ := hcounts (s.gal g)
    rw [hbframe]
    show (s.gal g).Counted (m.gal g) o v
    rw [hself, hsvc]
    exact ⟨congrArg (· + 1) h2, h1, rfl, rfl, h3⟩
  · rw [hbframe]
    exact hothers h hh

end

end Sys2Proof.Machine
end

section
/-! PROOFS. What the dispatch of a FETCH, a LAY and a house REPOINT starts (O50). -/
namespace Sys2Proof.Machine

section
variable {s : State} {o x y : Op}

/-! ### A ledger with one operation -/

/-- A ledger whose one operation becomes `y`. -/
def State.withOp (s : State) (y : Op) : State := { s with ledger := { s.ledger with ops := [y] } }

theorem State.withOp_withOp (s : State) (x y : Op) : (s.withOp x).withOp y = s.withOp y := rfl

theorem State.withOp_self (h : s.ledger.ops = [x]) : s.withOp x = s := by
  unfold State.withOp
  rw [← h]

theorem State.op?_single (hops : s.ledger.ops = [x]) : s.op? x.id = some x := by
  show s.ledger.ops.find? _ = _
  rw [hops]
  exact List.find?_cons_of_pos (beq_self_eq_true x.id)

theorem State.modOp_single (hops : s.ledger.ops = [x]) (f : Op → Op) : s.modOp x.id f = s.withOp (f x) := by
  have hmap : s.ledger.ops.map (fun z => if z.id == x.id then f z else z) = [f x] := by
    rw [hops]
    simp
  exact congrArg (fun l => ({ s with ledger := { s.ledger with ops := l } } : State)) hmap

/-! ### Gates -/

/-- A refused stone moves gates and causes (R432 to R434). -/
theorem State.violate_frame (s : State) (v : Violation) : ∃ gt gl, s.violate v = { s with gates := gt, glob := gl } := by
  unfold State.violate
  dsimp only
  split
  · exact ⟨_, _, rfl⟩
  · exact ⟨_, _, rfl⟩

/-- One stone meets its gate: it is let through, or refused. -/
theorem State.passAll_one (hops : s.ledger.ops = [x]) (write : Bool) (a : BitVec 32) : ∃ gt gl e n b,
    s.passAll x write [a] = (({ s with gates := gt, glob := gl } : State).withOp { x with epoch := e }, n, b) := by
  have hself : ∀ n b, ∃ gt gl e m c, ((s, n, b) : State × Nat × Bool) =
      (({ s with gates := gt, glob := gl } : State).withOp { x with epoch := e }, m, c) := fun n b =>
    ⟨s.gates, s.glob, x.epoch, n, b, congrArg (fun t : State => (t, n, b)) (State.withOp_self hops).symm⟩
  unfold State.passAll
  split
  · exact hself _ _
  · split
    · exact hself _ _
    · next g _ =>
      dsimp only
      rw [State.modOp_single hops]
      split
      · obtain ⟨gt, gl, heq⟩ := (s.withOp { x with epoch := (s.gate g).epoch.extractLsb' 0 8 }).violate_frame _
        rw [heq]
        exact ⟨gt, gl, _, _, _, rfl⟩
      · exact ⟨s.gates, s.glob, _, _, _, rfl⟩

/-- Stones whose gates stand open and let them through all pass (R301, R413). -/
theorem State.passAll_open {z : Op} {write : Bool} (l : List (BitVec 32)) : ∀ (s : State) (x : Op), s.ledger.ops = [x] → x.id = z.id →
    s.gatesPass z write l = true → ∃ e, s.passAll z write l = (s.withOp { x with epoch := e }, l.length, false) := by
  induction l with
  | nil => exact fun s x hops _ _ => ⟨x.epoch, congrArg (fun t : State => (t, 0, false)) (State.withOp_self hops).symm⟩
  | cons a l ih =>
    intro s x hops hid hpass
    have hself : ∃ e, ((s, l.length + 1, false) : State × Nat × Bool) = (s.withOp { x with epoch := e }, l.length + 1, false) :=
      ⟨x.epoch, congrArg (fun t : State => (t, l.length + 1, false)) (State.withOp_self hops).symm⟩
    simp only [State.gatesPass, List.all_cons, Bool.and_eq_true] at hpass
    obtain ⟨hhead, htail⟩ := hpass
    unfold State.passAll
    split
    · exact hself
    · split
      · exact hself
      · next g hg =>
        rw [hg] at hhead
        obtain ⟨-, hask⟩ := Bool.and_eq_true_iff.1 hhead
        dsimp only
        rw [Option.isNone_iff_eq_none.1 hask, ← hid, State.modOp_single hops]
        obtain ⟨e, heq⟩ := ih (s.withOp { x with epoch := (s.gate g).epoch.extractLsb' 0 8 }) { x with epoch := (s.gate g).epoch.extractLsb' 0 8 }
          rfl hid htail
        dsimp only
        rw [heq]
        exact ⟨e, rfl⟩

/-! ### A ledger FETCH starts (R293) -/

/-- A stone whose read begins now is not ready now (Table 07.6). -/
theorem State.stonesDue_fetchPs (s : State) (n : Nat) : s.stonesDue (s.pace.devtime + s.fetchPs) n = 0 := by
  have hlate : (s.pace.devtime - (s.pace.devtime + s.fetchPs)).getLsbD 63 = true := by
    have hneg : s.pace.devtime - (s.pace.devtime + s.fetchPs) = -s.fetchPs := by bv_omega
    rw [hneg]
    unfold State.fetchPs
    split <;> rfl
  unfold State.stonesDue
  dsimp only
  rw [hlate, if_pos rfl]

/-- An operation as a first step of its read leaves it. -/
def Op.readBegun (x : Op) (e result : Byte) (q : ReadRun) : Op := { x with epoch := e, result := result, work := .fetching q }

theorem Op.withRun_readBegun (hop : x.opcode = opFetch) (e result : Byte) (q q' : ReadRun) :
    (x.readBegun e result q).withRun q' = x.readBegun e result q' := Op.withRun_fetch (o := x.readBegun e result q) hop rfl

theorem Op.stops_readBegun (hop : x.opcode = opFetch) (e result : Byte) (q : ReadRun) (c : Byte) :
    (x.readBegun e result q).stops c = x.readBegun e c q := by
  unfold Op.stops
  rw [Op.nextStaged_fetch (o := x.readBegun e result q) hop]
  rfl

theorem Op.readBegun_self {r : ReadRun} (hwork : x.work = .fetching r) : x.readBegun x.epoch x.result r = x := by
  unfold Op.readBegun
  rw [← hwork]

/-- The first stone of a ledger FETCH at its gate: held, refused, or let through to be read from now on. -/
theorem State.gateStone_first {r : ReadRun} (hops : s.ledger.ops = [x]) (hop : x.opcode = opFetch) (hwork : x.work = .fetching r)
    (hcold : r.cold = true) (hgated : r.gated = false) : ∃ gt gl e result q b,
    s.gateStone x r = (({ s with gates := gt, glob := gl } : State).withOp (x.readBegun e result q), b) ∧ q.flips = r.flips
      ∧ (b = true → q.ready = s.pace.devtime + s.fetchPs)
      ∧ (s.gatesPass x false [x.nextStone] = true → b = true ∧ q.gated = true ∧ result = x.result) := by
  have hbegun := Op.readBegun_self hwork
  unfold State.gateStone
  rw [hgated, if_neg Bool.false_ne_true]
  cases hholds : s.gateHolds x x.nextStone with
  | true =>
    refine ⟨s.gates, s.glob, x.epoch, x.result, { r with gated := false, cold := true }, false, ?_, rfl, fun h => absurd h Bool.false_ne_true, fun h => ?_⟩
    · rw [if_pos rfl, State.modOp_single hops, ← Op.withRun_readBegun hop x.epoch x.result r, hbegun]
    · exact absurd (hholds.symm.trans (State.gateHolds_of_passes h)) (by decide)
  | false =>
    rw [if_neg Bool.false_ne_true]
    have hpasses : s.gatesPass x false [x.nextStone] = true → (s.passAll x false [x.nextStone]).2.2 = false := fun h => by
      obtain ⟨e, heq⟩ := State.passAll_open [x.nextStone] s x hops rfl h
      rw [heq]
    obtain ⟨gt, gl, e, n, b, hpass⟩ := State.passAll_one hops false x.nextStone
    rw [hpass] at hpasses
    have hx : ({ x with epoch := e } : Op) = x.readBegun e x.result r := by
      unfold Op.readBegun
      rw [← hwork]
    dsimp only
    rw [hpass, hx]
    have hmod : ∀ f : Op → Op, (({ s with gates := gt, glob := gl } : State).withOp (x.readBegun e x.result r)).modOp x.id f
        = ({ s with gates := gt, glob := gl } : State).withOp (f (x.readBegun e x.result r)) := fun f =>
      State.modOp_single (s := ({ s with gates := gt, glob := gl } : State).withOp (x.readBegun e x.result r)) rfl f
    cases b with
    | true =>
      refine ⟨gt, gl, e, rDenied, r, false, ?_, rfl, fun h => absurd h Bool.false_ne_true,
        fun h => absurd (hpasses h).symm Bool.false_ne_true⟩
      rw [if_pos rfl, hmod, Op.stops_readBegun hop]
    | false =>
      refine ⟨gt, gl, e, x.result, { r with gated := true, ready := s.pace.devtime + s.fetchPs }, true, ?_, rfl, fun _ => rfl,
        fun _ => ⟨rfl, rfl, rfl⟩⟩
      rw [if_neg Bool.false_ne_true, hcold, if_pos rfl, hmod, Op.withRun_readBegun hop]

/-- The first step of a ledger FETCH: its stone meets its gate, and is not ready on that edge. -/
theorem State.readStep_first {r : ReadRun} (hops : s.ledger.ops = [x]) (hop : x.opcode = opFetch)
    (hwork : x.work = .fetching r) (hcold : r.cold = true) (hgated : r.gated = false) (hpending : s.life.regPending = false) :
    ∃ gt gl e result q, s.readStep x.id = (({ s with gates := gt, glob := gl } : State).withOp (x.readBegun e result q), false)
      ∧ q.flips = r.flips ∧ (x.state = .running → x.result = 0xFF → x.fetched.length < x.count.toNat →
        s.gatesPass x false [x.nextStone] = true → q.gated = true ∧ q.ready = s.pace.devtime + s.fetchPs ∧ result = 0xFF) := by
  have hbarred : s.fetchBarred x.nextStone = false := by
    unfold State.fetchBarred
    rw [hpending]
    rfl
  obtain ⟨gt, gl, e, result, q, b, hgate, hflips, hready, hpass⟩ := State.gateStone_first hops hop hwork hcold hgated
  unfold State.readStep
  rw [State.op?_single hops]
  dsimp only
  rw [Op.reads_fetching hwork]
  dsimp only
  split
  · next hover =>
    refine ⟨s.gates, s.glob, x.epoch, x.result, r, ?_, rfl, fun hstate hresult hmore _ => ?_⟩
    · rw [Op.readBegun_self hwork]
      exact congrArg (fun t : State => (t, false)) (State.withOp_self hops).symm
    · rw [hstate, State.readOver_fetch hop hresult, decide_eq_false (Nat.not_le.2 hmore)] at hover
      exact absurd hover (by decide)
  · rw [hbarred, hcold, Bool.and_false, if_neg Bool.false_ne_true, if_neg (by simp), hgate]
    generalize hu : ({ s with gates := gt, glob := gl } : State) = u
    cases b with
    | false => exact ⟨gt, gl, e, result, q, hu ▸ rfl, hflips, fun _ _ _ h => absurd (hpass h).1 Bool.false_ne_true⟩
    | true =>
      have hq := hready rfl
      have hop? : (u.withOp (x.readBegun e result q)).op? x.id = some (x.readBegun e result q) :=
        State.op?_single (s := u.withOp (x.readBegun e result q)) (x := x.readBegun e result q) rfl
      have hdue : (u.withOp (x.readBegun e result q)).stonesDue q.ready 1 = 0 := by
        rw [hq, ← hu]
        exact State.stonesDue_fetchPs s 1
      dsimp only
      rw [hop?, Option.bind_some, Op.reads_fetching (o := x.readBegun e result q) rfl]
      dsimp only
      split
      · have hmod := State.modOp_single (s := u.withOp (x.readBegun e result q)) (x := x.readBegun e result q) rfl
          (fun x => x.withRun { q with ready := s.pace.devtime + s.fetchPs })
        rw [Op.withRun_readBegun hop] at hmod
        refine ⟨gt, gl, e, result, { q with ready := s.pace.devtime + s.fetchPs }, ?_, hflips, fun _ hresult _ h => ?_⟩
        · rw [hu]
          exact congrArg (fun t : State => (t, false)) hmod
        · obtain ⟨-, hg, hr⟩ := hpass h
          exact ⟨hg, rfl, hr.trans hresult⟩
      · rw [hdue]
        refine ⟨gt, gl, e, result, q, hu ▸ rfl, hflips, fun _ hresult _ h => ?_⟩
        obtain ⟨-, hg, hr⟩ := hpass h
        exact ⟨hg, hq, hr.trans hresult⟩

/-- What the dispatch of a ledger FETCH of array stones starts. -/
theorem State.startFetchOp_leaves {o x : Op} {flips : Flips} {rx : List Byte} (hops : s.ledger.ops = [x]) (hid : x.id = o.id)
    (hop : x.opcode = opFetch) (hwindow : windowOf o.addr = none) (hpending : s.life.regPending = false) : ∃ gt gl e result q,
    s.startFetchOp o flips rx = ({ s with gates := gt, glob := gl } : State).withOp (({ x with state := .running } : Op).readBegun e result q)
      ∧ q.flips = flips ∧ (x.fetched = [] → x.result = 0xFF → 1 ≤ x.count.toNat → s.gatesPass x false [x.addr] = true →
        q.gated = true ∧ q.ready = s.pace.devtime + s.fetchPs ∧ result = 0xFF) := by
  generalize hz : ({ x with state := .running, work := .fetching (s.firstRun flips) } : Op) = z
  have hzid : z.id = o.id := hz ▸ hid
  have hzop : z.opcode = opFetch := hz ▸ hop
  obtain ⟨gt, gl, e, result, q, hstep, hflips, hfirst⟩ := State.readStep_first (s := s.withOp z) (x := z) (r := s.firstRun flips) rfl hzop
    (hz ▸ rfl) rfl rfl hpending
  have hstart : s.startFetchOp o flips rx = (s.withOp z).readOn z.id 64 := by
    unfold State.startFetchOp
    dsimp only
    rw [hwindow, ← hid, State.modOp_single hops, hz, if_neg (by simp), hid, hzid]
  have hread : (s.withOp z).readOn z.id 64 = ({ s.withOp z with gates := gt, glob := gl } : State).withOp (z.readBegun e result q) := by
    unfold State.readOn
    rw [hstep]
  refine ⟨gt, gl, e, result, q, ?_, hflips, fun hfetched hresult hcount hgate => ?_⟩
  · rw [hstart, hread, ← hz]
    rfl
  · have hnext : z.nextStone = x.addr := (Op.nextStone_first hzop (hz ▸ hfetched)).trans (hz ▸ rfl)
    refine hfirst (hz ▸ rfl) (hz ▸ hresult) ?_ ?_
    · rw [← hz]
      show x.fetched.length < _
      rw [hfetched]
      exact hcount
    · rw [hnext, ← hz]
      exact hgate

/-! ### A LAY starts (R301, R400) -/

/-- A stone among those that the gates let through is not held. -/
theorem State.gateHolds_of_mem {write : Bool} {l : List (BitVec 32)} (h : s.gatesPass o write l = true) {a : BitVec 32} (ha : a ∈ l) :
    s.gateHolds o a = false := by
  have hone := List.all_eq_true.1 h a ha
  unfold State.gateHolds State.gateOpenFor
  cases hg : gateOf a with
  | none => simp
  | some g =>
    rw [hg] at hone
    obtain ⟨hen, -⟩ := Bool.and_eq_true_iff.1 hone
    dsimp only
    rw [hen]
    simp

theorem length_stonesFrom (a : BitVec 32) (n : Nat) : (stonesFrom a n).length = n := by
  rw [stonesFrom, List.length_map, List.length_range]

theorem State.length_layTargets (s : State) (a : BitVec 32) (data : List Word) : (s.layTargets a data).length = data.length := by
  rw [State.layTargets, List.length_map, List.length_zip, length_stonesFrom, Nat.min_self]

theorem Op.layAt_first (h : o.units = 0) : o.layAt = o.addr := by
  unfold Op.layAt
  rw [h]
  exact BitVec.add_zero _

/-- An operation whose lay has been put on its bank. -/
def Op.laying (x : Op) (tokens : Nat) : Op := { x with state := .running, work := .onBank, tokens := tokens }

/-- A bank whose lay is `l`. -/
def Bank.lays (k : Bank) (l : LayRun) : Bank := { k with lay := some l, state := if k.state == .suspended then .nestlay else .laying }

/-- The bank enters LAYING, and the tokens are granted. -/
theorem State.putLay_leaves (hops : s.ledger.ops = [x]) (hid : x.id = o.id) (b : BankId) (l : LayRun) : ∃ tr pk,
    s.putLay o b l = (({ s with trace := tr, power := { s.power with peak := pk } } : State).withOp (x.laying s.tokLay)).modBank b
      (fun k => k.lays l) := by
  have hpeak : ∀ u : State, ∃ pk, u.notePeak = { u with power := { u.power with peak := pk } } := fun u => by
    unfold State.notePeak
    split
    · exact ⟨_, rfl⟩
    · exact ⟨u.power.peak, rfl⟩
  have hput : s.putLay o b l = ((s.modOp o.id (fun x => { x with state := .running, work := .onBank })).grant o b.val s.tokLay).modBank b
      (fun k => k.lays l) := rfl
  obtain ⟨pk, hpk⟩ := hpeak ((s.withOp (x.laying s.tokLay)).addTrace tGrant o.slot b.val (BitVec.ofNat 16 s.tokLay))
  have hgrant : (s.modOp o.id (fun x => { x with state := .running, work := .onBank })).grant o b.val s.tokLay =
      ((s.withOp (x.laying s.tokLay)).addTrace tGrant o.slot b.val (BitVec.ofNat 16 s.tokLay)).notePeak := by
    rw [← hid, State.modOp_single hops]
    unfold State.grant
    have hmod := State.modOp_single (s := s.withOp { x with state := .running, work := .onBank })
      (x := { x with state := .running, work := .onBank }) rfl (fun x => { x with tokens := s.tokLay })
    dsimp only at hmod
    rw [← hid, hmod]
    rfl
  rw [hput, hgrant, hpk]
  exact ⟨_, pk, rfl⟩

/-- A bank in LAYING whose lay is `l`. -/
def Bank.nowLays (k : Bank) (l : LayRun) : Bank := { k with lay := some l, state := .laying }

/-- A lay of stones that their gates let through: nothing of it is held or denied (R301, R628). -/
def LayRun.decided (l : LayRun) (s : State) : LayRun :=
  { l with denied := false, held := false, pulses := 0, blank := s.readTime l.targets.length, relaid := l.targets.any (fun e => !s.blankStone e.1) }

/-- The stones of a lay meet open gates. -/
theorem State.decideLay_open {b : BankId} {l : LayRun} (hops : s.ledger.ops = [x]) (hlay : (s.bank b).lay = some l) (hid : l.op = x.id)
    (hheld : l.held = true) (hwork : x.work = .onBank) (hregion : regionOf x.layAt = .main) (hsome : l.targets ≠ [])
    (hpass : s.gatesPass x true (stonesFrom x.layAt l.targets.length) = true) : ∃ e,
    s.decideLay b = (s.withOp { x with epoch := e }).modBank b (fun k => { k with lay := some (l.decided s) }) := by
  have hop : s.op? l.op = some x := hid.symm ▸ State.op?_single hops
  have hstaging : s.stagingOp x.id = false := by
    unfold State.stagingOp
    rw [State.op?_single hops]
    dsimp only
    rw [hwork]
  have hfirst : x.layAt ∈ stonesFrom x.layAt l.targets.length :=
    List.mem_map.2 ⟨0, List.mem_range.2 (List.length_pos_iff.2 hsome), BitVec.add_zero _⟩
  have hholds := State.gateHolds_of_mem hpass hfirst
  obtain ⟨e, hgates⟩ := State.passAll_open _ s x hops rfl hpass
  rw [length_stonesFrom] at hgates
  have hunlocked : (!(Region.main == .marks && s.life.lock.getLsbD (markPage x.layAt))) = true := rfl
  refine ⟨e, ?_⟩
  unfold State.decideLay
  rw [hlay]
  dsimp only
  rw [hop]
  dsimp only
  rw [hheld, hstaging, hholds, if_neg (by decide), hregion, hunlocked, if_pos rfl, hgates]
  dsimp only
  rw [List.take_length, if_neg (by simpa using hsome)]
  rfl

theorem State.modBank_modBank (s : State) (b : BankId) (f f' : Bank → Bank) : (s.modBank b f).modBank b f' = s.modBank b (fun k => f' (f k)) := by
  simp [State.modBank, State.bank]

theorem State.modBank_congr {b : BankId} {f f' : Bank → Bank} (h : f (s.bank b) = f' (s.bank b)) : s.modBank b f = s.modBank b f' := by
  rw [State.modBank, State.modBank, h]

/-- What the dispatch of a LAY starts: its bank in LAYING with its targets, holding its tokens. -/
theorem State.startLay_leaves {b : BankId} {data : List Word} (hops : s.ledger.ops = [x]) (hid : x.id = o.id) (hunits : o.units = 0)
    (haddr : x.addr = o.addr) (hxunits : x.units = 0) (hregion : regionOf o.addr = .main) (hsome : data ≠ [])
    (hidle : (s.bank b).state = .idle) (hpass : s.gatesPass x true (stonesFrom o.addr data.length) = true) : ∃ tr pk e,
    s.startLay o b data = (({ s with trace := tr, power := { s.power with peak := pk } } : State).withOp
        { x.laying s.tokLay with epoch := e }).modBank b
        (fun k => k.nowLays ((LayRun.start o.id (s.layTargets o.addr data) false).decided s)) := by
  generalize hl : LayRun.start o.id (s.layTargets o.addr data) false = l
  have hlen : l.targets.length = data.length := by rw [← hl]; exact s.length_layTargets o.addr data
  obtain ⟨tr, pk, hput⟩ := State.putLay_leaves hops hid b l
  generalize hu : ({ s with trace := tr, power := { s.power with peak := pk } } : State) = u at hput
  generalize hv : (u.withOp (x.laying s.tokLay)).modBank b (fun k => k.lays l) = v at hput
  have hvops : v.ledger.ops = [x.laying s.tokLay] := hv ▸ rfl
  have hvlay : (v.bank b).lay = some l := by
    rw [← hv, State.modBank_bank_self]
    rfl
  have hat : (x.laying s.tokLay).layAt = o.addr := (Op.layAt_first (o := x.laying s.tokLay) hxunits).trans haddr
  have hvpass : v.gatesPass (x.laying s.tokLay) true (stonesFrom (x.laying s.tokLay).layAt l.targets.length) = true := by
    rw [hat, hlen, ← hv, ← hu]
    exact hpass
  obtain ⟨e, hdecide⟩ := State.decideLay_open hvops hvlay (by rw [← hl]; exact hid.symm) (by rw [← hl]; rfl) rfl (by rw [hat]; exact hregion)
    (fun h => hsome (List.length_eq_zero_iff.1 (hlen.symm.trans (congrArg List.length h)))) hvpass
  have hdecided : l.decided v = l.decided s := by
    unfold LayRun.decided
    rw [← hv, ← hu]
    rfl
  have hstart : s.startLay o b data = v.decideLay b := by
    unfold State.startLay
    rw [Op.layAt_first hunits, hl, hput]
  refine ⟨tr, pk, e, ?_⟩
  rw [hstart, hdecide, hdecided, hu, ← hv]
  show ((u.withOp { x.laying s.tokLay with epoch := e }).modBank b (fun k => k.lays l)).modBank b _ = _
  rw [State.modBank_modBank]
  refine State.modBank_congr ?_
  have hk : ((u.withOp { x.laying s.tokLay with epoch := e }).bank b).state = .idle := by
    rw [← hu]
    exact hidle
  unfold Bank.lays
  rw [hk]
  rfl

/-- What the run of a LAY is once its gates have let it through. -/
theorem LayRun.start_decided (s : State) (o : Op) (data : List Word) {l : LayRun}
    (hl : (LayRun.start o.id (s.layTargets o.addr data) false).decided s = l) : l.op = o.id ∧ l.targets = s.layTargets o.addr data
      ∧ l.verified = 0 ∧ l.denied = false ∧ l.held = false ∧ l.pulses = 0 ∧ l.blank = s.readTime data.length
      ∧ (l.relaid = true ↔ ∃ e ∈ l.targets, s.blankStone e.1 = false) := by
  subst hl
  refine ⟨rfl, rfl, rfl, rfl, rfl, rfl, congrArg s.readTime (s.length_layTargets o.addr data), ?_⟩
  simp only [LayRun.decided, List.any_eq_true, Bool.not_eq_true']

/-! ### A house REPOINT starts (R348, R636) -/

/-- A house operation passes no gate (R412). -/
theorem State.passAll_house (h : o.house = true) (write : Bool) (l : List (BitVec 32)) : (s.passAll o write l).1 = s ∧ (s.passAll o write l).2.2 = false := by
  cases l with
  | nil => exact ⟨rfl, rfl⟩
  | cons a l =>
    unfold State.passAll
    rw [h, if_pos rfl]
    exact ⟨rfl, rfl⟩

/-- A REPOINT that reads its block from the first stone on. -/
def Op.reading (x : Op) (ready : BitVec 64) (flips : Flips) : Op :=
  { x with state := .running, work := .reading { next := 0, ready := ready, fixes := 0, bad := 0, flips := flips } }

theorem State.startRead_leaves {b : BankId} {flips : Flips} (hops : s.ledger.ops = [x]) (hid : x.id = o.id) (hhouse : o.house = true) :
    s.startRead o b flips = s.withOp (x.reading (s.pace.devtime + s.fetchPs) flips) := by
  obtain ⟨hsame, hpass⟩ := State.passAll_house (s := s) hhouse false
    (granulesFrom (unitAddr b (addrBlock o.addr + o.index) (.block 0)) 65536)
  unfold State.startRead
  dsimp only
  rw [hpass, hsame, if_neg Bool.false_ne_true, ← hid]
  exact State.modOp_single hops _

/-! ### The rows -/

theorem Op.slotShown_eq (o : Op) : o.slotShown = (match o.slot with | some k => BitVec.ofNat 8 k.val | none => 0xFF) := by
  unfold Op.slotShown
  cases o.slot <;> rfl

theorem Gal.dispatches_wake (x : Gal) (m : BitVec 128) : (x.wake m).dispatches = x.dispatches := by
  rw [x.like_wake m]

theorem Gal.floors_wake (x : Gal) (m : BitVec 128) : (x.wake m).floors = x.floors := by
  rw [x.like_wake m]

/-- The one operation of the ledger after its dispatch has been counted on gallery `g`, from a state that has woken. -/
structure State.Dispatched (s u : State) (g : GalId) (o : Op) (v : SvcId) : Prop where
  frame   : ∃ gl tr r, u = ({ s with gals := gl, trace := tr, power := { s.power with reserved := r } } : State).withOp o.taken
  counts  : (u.gal g).dispatches = (s.gal g).dispatches + 1
  busy    : (u.gal g).busy = true
  slot    : (u.gal g).lastslot = o.slotShown
  service : (u.gal g).lastsvc = BitVec.ofNat 2 v.val
  others  : ∀ h : GalId, h ≠ g → u.gal h = s.gal h

section
variable {g : GalId} {v : SvcId} {a : Act}

/-- A dispatch counts on top of a change of its gallery's virtual times. -/
theorem State.dispatched_of_modGal (hops : s.ledger.ops = [o]) (ha : o.steps a) (hsvc : o.svc = some v) (f : Gal → Gal)
    (hf : (f (s.gal g)).dispatches = (s.gal g).dispatches) :
    s.Dispatched ((s.modGal g f).dispatchOp g o true) g o v
      ∧ (((s.modGal g f).dispatchOp g o true).gal g).floors = (f (s.gal g)).floors := by
  obtain ⟨gl, tr, r, hframe, ⟨hcount, hbusy, hslot, hservice, hfloors⟩, hothers⟩ :=
    State.dispatchOp_leaves (s := s.modGal g f) (g := g) hops ha hsvc
  rw [State.modGal_gal_self] at hcount hfloors
  exact ⟨⟨⟨gl, tr, r, hframe⟩, hcount.trans (congrArg (· + 1) hf), hbusy, hslot, hservice,
    fun h hh => (hothers h hh).trans (State.modGal_gal_of_ne s g f h hh)⟩, hfloors⟩

theorem State.wakeGal_dispatched (hops : s.ledger.ops = [o]) (ha : o.steps a) (hsvc : o.svc = some v) :
    s.Dispatched ((s.wakeGal g).dispatchOp g o true) g o v := by
  rw [State.wakeGal_single hops]
  exact (State.dispatched_of_modGal hops ha hsvc _ ((s.gal g).dispatches_wake _)).1

/-- FLOOR with the one operation of the ledger overdue (R348). -/
theorem exec_floor_single {flips : Flips} {rx : List Byte} (htime : s.onTime (orderGallery g) = true) (hops : s.ledger.ops = [o])
    (hgal : o.gal = g) (hhouse : o.house = true) (hregion : regionOf o.addr = .main) (hop : o.opcode ≠ opHaul) (ha : o.steps a)
    (heligible : s.eligible o = true) (hbusy : (s.gal g).busy = false) (hreserved : s.power.reserved = none)
    (hwait : 0 < s.upkeep.floorwait.toNat) (hdue : s.upkeep.floorwait.toNat ≤ o.floorTicks) :
    exec (.floor g flips rx) s = .next (((((s.wakeGal g).modGal g (fun x => { x with floors := x.floors + 1 })).dispatchOp g o true).startStep
      o a flips rx).atStage (orderGallery g)) := by
  have hwoke := State.wakeGal_single (g := g) hops
  generalize hw : s.wakeGal g = w at hwoke
  have hwops : w.ledger.ops = [o] := by rw [hwoke]; exact hops
  have hweligible : w.eligible o = true := by rw [hwoke, State.eligible_modGal ha]; exact heligible
  have hnone : w.reservedPick g = none := by
    unfold State.reservedPick
    rw [show w.power.reserved = none by rw [hwoke]; exact hreserved]
    rfl
  have hfloor : w.floorPick g = some o := by
    have hwaits : w.upkeep.floorwait = s.upkeep.floorwait := by rw [hwoke]; rfl
    unfold State.floorPick
    dsimp only
    rw [hwaits, if_neg (by omega), hwops, List.filter_cons_of_pos (by simp [hhouse, hgal, hdue, hweligible])]
    rfl
  refine (State.onStep_onTime htime _).trans (congrArg (fun t : State => Host.Outcome.next (t.atStage (orderGallery g))) ?_)
  rw [hops, hbusy, List.isEmpty_cons, Bool.or_false, if_neg Bool.false_ne_true, hw]
  dsimp only
  rw [hnone, if_neg (by decide), hfloor]
  dsimp only
  unfold State.dispatchPick
  dsimp only
  rw [if_pos rfl, State.dispatchProbed_array hregion hop, State.dispatchStep_of_steps ha]

end

end

/-- Settles O50: the pick of the one operation, its counts, and what it starts. -/
theorem dispatchStarts : Obligations.DispatchStarts := by
  refine ⟨fun s g flips rx o htime hops hstate hgal hhouse heligible hbusy hregion hidle hpending =>
    ⟨fun hop hdirect => ?_, fun hop hunits hsome hpass => ?_⟩,
    fun s g flips rx o htime hops hstate hgal hhouse hop hregion heligible hbusy hreserved hwait hdue => ?_⟩
  · have ha := Op.steps_fetch hstate hop
    have hsvc : o.svc = some 0 := congrArg svcOf hop
    have hexec := exec_dispatch_single (flips := flips) (rx := rx) htime hops hstate hgal hsvc hhouse heligible hbusy hregion hidle ha (.inl hop)
    obtain ⟨⟨gl, tr, r, hframe⟩, hcounts, hon, hslot, hservice, hothers⟩ := State.wakeGal_dispatched (g := g) hops ha hsvc
    generalize (s.wakeGal g).dispatchOp g o true = u at *
    obtain ⟨gt, gl', e, result, q, hstart, hflips, hfirst⟩ := State.startFetchOp_leaves (s := u) (o := o) (x := o.taken) (flips := flips)
      (rx := rx) (by rw [hframe]; rfl) rfl hop (windowOf_of_region hregion (.inl rfl)) (by rw [hframe]; exact hpending)
    have hstep : u.startStep o .fetch flips rx = u.startFetchOp o flips rx := by
      unfold State.startStep
      rfl
    rw [hstep, hstart] at hexec
    refine ⟨_, hexec, ⟨hcounts, hon, hslot.trans o.slotShown_eq, hothers, ?_, ?_, ?_, ?_, ?_⟩, hservice, ?_, _, q, rfl, rfl, rfl, rfl, rfl, rfl,
      hflips, fun hfetched hresult hcount hgate => ?_⟩
    case refine_7 =>
      have hpass : u.gatesPass o.taken false [o.taken.addr] = true := by
        rw [hframe]
        exact hgate
      obtain ⟨hgated, hready, hstays⟩ := hfirst hfetched hresult hcount hpass
      refine ⟨hgated, hready.trans ?_, hstays⟩
      rw [hframe]
      rfl
    all_goals
      rw [hframe]
      rfl
  · have ha := Op.steps_lay hstate hop
    have hsvc : o.svc = some 1 := congrArg svcOf hop
    have hbank := Op.bankOf_array hregion (congrArg ledgerOnly hop)
    have hexec := exec_dispatch_single (flips := flips) (rx := rx) htime hops hstate hgal hsvc hhouse heligible hbusy hregion hidle ha (.inr hop)
    obtain ⟨⟨gl, tr, r, hframe⟩, hcounts, hon, hslot, hservice, hothers⟩ := State.wakeGal_dispatched (g := g) hops ha hsvc
    generalize (s.wakeGal g).dispatchOp g o true = u at *
    obtain ⟨tr', pk, e, hstart⟩ := State.startLay_leaves (s := u) (o := o) (x := o.taken) (b := bankIx (addrBank o.addr)) (data := o.payload)
      (by rw [hframe]; rfl) rfl hunits rfl hunits hregion hsome (by rw [hframe]; exact hidle) (by rw [hframe]; exact hpass)
    have hstep : u.startStep o .lay flips rx = u.startLay o (bankIx (addrBank o.addr)) o.payload := by
      unfold State.startStep
      rw [hbank]
    have hrun : (LayRun.start o.id (u.layTargets o.addr o.payload) false).decided u =
        (LayRun.start o.id (s.layTargets o.addr o.payload) false).decided s := by
      rw [hframe]
      rfl
    rw [hrun] at hstart
    generalize hl : (LayRun.start o.id (s.layTargets o.addr o.payload) false).decided s = l at hstart
    rw [hstep, hstart] at hexec
    have hself : ∀ w : State, (w.modBank (bankIx (addrBank o.addr)) (fun k => k.nowLays l)).bank (bankIx (addrBank o.addr)) = _ := fun w =>
      w.modBank_bank_self (bankIx (addrBank o.addr)) (fun k => k.nowLays l)
    refine ⟨_, hexec, ⟨hcounts, hon, hslot.trans o.slotShown_eq, hothers, ?_, ?_, ?_, ?_, ?_⟩, hservice, ⟨_, rfl, rfl, rfl, rfl, ?_⟩,
      ⟨l, congrArg Bank.lay (hself _), LayRun.start_decided s o o.payload hl⟩, congrArg Bank.state (hself _), fun b hb => ?_⟩
    case refine_7 =>
      refine (State.modBank_bank_of_ne _ _ (fun k => k.nowLays l) b hb).trans ?_
      rw [hframe]
      rfl
    all_goals
      rw [hframe]
      rfl
  · have ha := Op.steps_read hstate hop
    have hsvc : o.svc = some 3 := congrArg svcOf hop
    have hbank := Op.bankOf_array hregion (congrArg ledgerOnly hop)
    have hnothaul : o.opcode ≠ opHaul := fun h => absurd (hop.symm.trans h) (by decide)
    have hexec := exec_floor_single (flips := flips) (rx := rx) htime hops hgal hhouse hregion hnothaul ha heligible hbusy hreserved hwait hdue
    rw [State.wakeGal_single hops, State.modGal_modGal] at hexec
    obtain ⟨⟨⟨gl, tr, r, hframe⟩, hcounts, hon, hslot, hservice, hothers⟩, hfloors⟩ := State.dispatched_of_modGal (g := g) hops ha hsvc
      (fun x => { x.wake (s.awakeNow g) with floors := (x.wake (s.awakeNow g)).floors + 1 })
      ((s.gal g).dispatches_wake _)
    generalize State.dispatchOp _ g o true = u at *
    have hstart := State.startRead_leaves (s := u) (o := o) (x := o.taken) (b := bankIx (addrBank o.addr)) (flips := flips)
      (by rw [hframe]; rfl) rfl hhouse
    have hstep : u.startStep o .read flips rx = u.startRead o (bankIx (addrBank o.addr)) flips := by
      unfold State.startStep
      rw [hbank]
    rw [hstep, hstart] at hexec
    refine ⟨_, hexec, ⟨hcounts, hon, hslot.trans o.slotShown_eq, hothers, ?_, ?_, ?_, ?_, ?_⟩,
      hfloors.trans (congrArg (· + 1) ((s.gal g).floors_wake _)), hservice, ?_, _, rfl, rfl, rfl, rfl, ?_⟩
    all_goals
      rw [hframe]
      rfl

end Sys2Proof.Machine
end
